-- ==== Sys2Proof/Word.lean ====
section
/-! DEFINITION. The words of the block: octets, ticks and the numbers objects hold. -/

namespace Sys2Proof

/-- One octet as it travels on the trunk pair (R8). -/
abbrev Octet := BitVec 8

/-- A STAMP or a span of ticks at 65.536 MHz (R15). The 64-bit count does not wrap within the life of the device. -/
abbrev Tick := Nat

/-- The value of an object: the number that its wire bytes spell, big-endian (R8, R51). -/
abbrev Value := Nat

end Sys2Proof
end

