-- ==== Sys2Proof/Syntax.lean ====
section
/-! DEFINITION. The commands of the block: one constructor of `Instr` per row of opcode_table.json, with the
operands of the model (log 8). A command that an item of a trunk frame carries has the requester in `Who`. What
only the environment knows of an event (a voltage, a count, a strap, a damaged record) is an operand (log 7). -/

namespace Sys2Proof

/-- The requester of an item that reaches the engine: the session level it acts at (R54, R57) and its slot (R614). -/
structure Who where
  level : Fin 4
  slot : Option (Fin 4)
deriving DecidableEq, Repr

/-- The strap balls as sampled in B0 (R191, R193) and the probe current of `TRK_CLS` in uA (R103, R105). -/
structure Straps where
  node : Octet
  tstA : Bool
  tstB : Bool
  classMicroamps : Nat
deriving DecidableEq, Repr

/-- The clock monitors of R160, but for the GUARD RC monitor, whose trip is BACKSTOP_TRIP. -/
inductive Monitor where
  | lfxo | lfrc | hfxo | hfrc | spine | corePll | heartbeat | holdRc
  | pod (p : Fin 64)
deriving DecidableEq, Repr

/-- What a monitor saw: the counts of two gates in a row, or no edge for its stall limit (R160). -/
inductive Evidence where
  | gates (first second : Nat)
  | stall
deriving DecidableEq, Repr

/-- The muxes of R152. -/
inductive MuxName where
  | husk | core | spineRef | ampix | strip | trace
  | pod (p : Fin 64)
deriving DecidableEq, Repr

/-- What RECALL finds damaged in the shadow array: slot headers, slot images, bank headers, bank records (R484, R485). -/
structure Damage where
  headers : List Nat
  images : List Nat
  banks : List Nat
  records : List (Nat × Nat)
deriving DecidableEq, Repr

/-- A solve of the slice estimator: four values per quantity, none where no sample qualified (R237, R238). -/
structure Solve where
  offset : Option (List Int)
  gain : Option (List Int)
  skew : Option (List Int)
  residual : Int
  late : Bool
deriving DecidableEq, Repr

/-- The fault classes of R503. -/
inductive FaultClass where
  | clk | pwr | shell | link | disp | time | pod | guard
deriving DecidableEq, Repr

/-- The GUARD sources of R501; a corrected single-bit error is counted and is no fault. -/
inductive SelfFault where
  | lockstep | ecc | supply | corrected
deriving DecidableEq, Repr

/-- The body of a SUBSCRIBE request (R634). -/
structure SubBody where
  number : Nat
  kind : Nat
  flags : Nat
  pod : Nat
  period : Nat
  mask : BitVec 64
  addrs : List (Nat × Nat)
deriving DecidableEq, Repr

/-- A frame as the PHY delivers it: its octets from the destination address to the end of the client data, whether a
symbol error fell in it, its length L, whether the FCS holds, the PLCA node it is attributed to (R582), and whether a
receive buffer is free (R594). -/
structure RxFrame where
  octets : List Octet
  symbolError : Bool
  length : Nat
  fcsGood : Bool
  plcaNode : Option Nat
  bufferFree : Bool
deriving DecidableEq, Repr

/-- The commands, in the order of opcode_table.json. -/
inductive Instr where
  /-- TRUNK_START (R107). -/
  | trunkStart (mv : Nat)
  /-- INRUSH_END (R107). -/
  | inrushEnd
  /-- START_STOP (R101). -/
  | startStop (mv : Nat)
  /-- POWER_ON_RESET_RELEASE (R108). -/
  | powerOnResetRelease (mv : Nat) (straps : Straps)
  /-- HOLD_CAP_MEASURED (R130). -/
  | holdCapMeasured (microfarad : Nat)
  /-- HOLD_READY_TIMEOUT (R130). -/
  | holdReadyTimeout
  /-- MONITOR_ADC_SAMPLE (R126). -/
  | monitorAdcSample (trunk vhold : Nat) (hubTemp powerTemp : Int)
  /-- RAIL_OUT_OF_RANGE (R111). -/
  | railOutOfRange (rail : Fin 7)
  /-- POWER_FAIL_WARNING (R125). -/
  | powerFailWarning (mv micros : Nat)
  /-- SNAPSHOT_END (R481). -/
  | snapshotEnd
  /-- HOLD_END (R134). -/
  | holdEnd (mv : Nat) (straps : Straps)
  /-- RESERVE_EXHAUSTED (R137). -/
  | reserveExhausted (vhold : Nat)
  /-- GOVERNOR_EVALUATION (R117). -/
  | governorEvaluation
  /-- RESTORE_HOLD_EXPIRY (R122). -/
  | restoreHoldExpiry (pod : Fin 64)
  /-- POD_RANK_WRITE (R116). -/
  | podRankWrite (who : Who) (sub value : Nat)
  /-- DIM_FLOOR_WRITE (R116). -/
  | dimFloorWrite (who : Who) (value : Nat)
  /-- OSCILLATION_DETECTED (R141). -/
  | oscillationDetected (src : Fin 6)
  /-- OSCILLATION_LOST (R141). -/
  | oscillationLost (src : Fin 6)
  /-- SOURCE_QUALIFIED (R141). -/
  | sourceQualified (src : Fin 6)
  /-- STARTUP_LIMIT_MISSED (R143). -/
  | startupLimitMissed (src : Fin 6)
  /-- SPINE_PLL_LOCK (R145). -/
  | spinePllLock
  /-- SPINE_LOCK_LOSS (R145). -/
  | spineLockLoss
  /-- SPINE_RELOCK_TIMEOUT (R145). -/
  | spineRelockTimeout
  /-- MONITOR_TRIP (R160). -/
  | monitorTrip (mon : Monitor) (ev : Evidence)
  /-- RESCUE_RELEASE (R162). -/
  | rescueRelease (mux : MuxName)
  /-- RESCUE_WAIT_TIMEOUT (R163). -/
  | rescueWaitTimeout (mux : MuxName)
  /-- BACKSTOP_TRIP (R166). -/
  | backstopTrip (ev : Evidence) (straps : Straps)
  /-- SWITCH_HUSK (R156). -/
  | switchHusk (who : Who) (arg : Nat)
  /-- SWITCH_CORE (R156). -/
  | switchCore (who : Who) (arg : Nat)
  /-- SWITCH_SPINEREF (R156). -/
  | switchSpineref (who : Who) (arg : Nat)
  /-- SWITCH_TRACE (R156). -/
  | switchTrace (who : Who) (arg : Nat)
  /-- SWITCH_START (R158). -/
  | switchStart (mux : MuxName)
  /-- SWITCH_COMPLETE (R155). -/
  | switchComplete (mux : MuxName)
  /-- AUTOMATIC_RETURN (R167). -/
  | automaticReturn (mux : MuxName)
  /-- LFXO_ENABLE (R140). -/
  | lfxoEnable (who : Who) (value : Nat)
  /-- HFRC_MEASURE (R147). -/
  | hfrcMeasure (steps : Int)
  /-- BRC_ESTIMATE (R149). -/
  | brcEstimate (ppb : Int)
  /-- BRC_PAUSE (R149). -/
  | brcPause
  /-- LFXO_DISCIPLINE (R150). -/
  | lfxoDiscipline (steps : Int)
  /-- TIME_SLEW_END (R151). -/
  | timeSlewEnd
  /-- FRAME_PERIOD_UPDATE (R170). -/
  | framePeriodUpdate (pod : Fin 64)
  /-- RC_FRAME_RATE_FAULT (R171). -/
  | rcFrameRateFault (pod : Fin 64) (hz : Nat) (silentMicros : Nat)
  /-- RECALL (R484). -/
  | recall (damage : Damage)
  /-- LOG_SCAN (R496). -/
  | logScan (damaged : List Nat)
  /-- GUARD_ARMING (R520). -/
  | guardArming
  /-- CORE_RELEASE (R187). -/
  | coreRelease
  /-- HFXO_PHASE (R187). -/
  | hfxoPhase
  /-- POD_RESTART (R198). -/
  | podRestart (failing : List Nat)
  /-- ENGINE_OPEN (R578). -/
  | engineOpen
  /-- RESET_N_ASSERT (R209). -/
  | resetNAssert (nanos : Nat)
  /-- RESET_N_RELEASE (R209). -/
  | resetNRelease
  /-- RESET_SEQUENCE_END (R210). -/
  | resetSequenceEnd (straps : Straps)
  /-- STANDBY (R30). -/
  | standby (who : Who)
  /-- RESTORE_DEFAULTS (R61). -/
  | restoreDefaults (who : Who)
  /-- DISCARD_STAGED (R77). -/
  | discardStaged (who : Who) (arg : Nat)
  /-- WAKE_ACTIVITY (R599). -/
  | wakeActivity (micros : Nat)
  /-- FRAME_BOUNDARY (R270). -/
  | frameBoundary (pod : Fin 64) (codes : List Int) (cm : Nat)
  /-- SETTLE_COUNT_REACHED (R321). -/
  | settleCountReached (pod : Fin 64) (chan : Fin 32)
  /-- FUNDAMENTAL_PATH_SETTLED (R338). -/
  | fundamentalPathSettled (pod : Fin 64) (input : Fin 7)
  /-- DOWN_RANGE_INTERVAL_END (R246). -/
  | downRangeIntervalEnd (pod : Fin 64) (entry : Fin 16)
  /-- CM_EXCURSION_FAULT (R231). -/
  | cmExcursionFault (pod : Fin 64) (monitor : Fin 5)
  /-- SLICE_SOLVE (R238). -/
  | sliceSolve (pod : Fin 64) (onB : Bool) (solve : Solve)
  /-- REFERENCE_INJECTION (R261). -/
  | referenceInjection (pod : Fin 64) (ratio : Nat)
  /-- PLAUSIBILITY_WINDOW_END (R255). -/
  | plausibilityWindowEnd (pod : Fin 64)
  /-- REFERENCE_LOSS (R340). -/
  | referenceLoss (pod : Fin 64)
  /-- EVENT_RMS_REFRESH (R396). -/
  | eventRmsRefresh (pod : Fin 64)
  /-- EVENT_BLOCK_EXPIRY (R402). -/
  | eventBlockExpiry (pod : Fin 64) (kind : Nat) (input : Fin 7)
  /-- HALF_CYCLE_BOOKING (R354). -/
  | halfCycleBooking (pod : Fin 64)
  /-- WINDOW_END (R347). -/
  | windowEnd (pod : Fin 64)
  /-- HARMONIC_WINDOW_END (R375). -/
  | harmonicWindowEnd (pod : Fin 64)
  /-- HARMONIC_PUBLICATION (R388) of the window that ends at the STAMP `stop` (log 13). -/
  | harmonicPublication (pod : Fin 64) (stop : Tick)
  /-- PHASOR_PUBLICATION (R392). -/
  | phasorPublication (pod : Fin 64) (instant : Tick)
  /-- SENTINEL_ARMED (R418). -/
  | sentinelArmed (pod : Fin 64) (testTicks : Nat)
  /-- ARMING_RETRY (R418). -/
  | armingRetry (pod : Fin 64)
  /-- SENTINEL_TRIP (R416). -/
  | sentinelTrip (pod : Fin 64) (microvolts micros : Nat)
  /-- WAKE_POWER_UP_DONE (R422). -/
  | wakePowerUpDone (pod : Fin 64)
  /-- DORMANT_TRANSFER (R429). -/
  | dormantTransfer (pod : Fin 64) (ticks : Nat) (saturated : Bool)
  /-- PULSE_LEADING_EDGE (R440). -/
  | pulseLeadingEdge (pod : Fin 64)
  /-- PULSE_WIDTH_END (R441). -/
  | pulseWidthEnd (pod : Fin 64)
  /-- PLS_TEST_WRITE (R445). -/
  | plsTestWrite (who : Who) (pod : Fin 64) (value : Nat)
  /-- SEAL_TIMEOUT (R460). -/
  | sealTimeout (pod : Fin 64)
  /-- ISOLATION_SWITCH_OPEN (R19). -/
  | isolationSwitchOpen (pod : Fin 64) (microamps nanos : Nat)
  /-- REGISTER_FILE_ECC_ERROR (R23). -/
  | registerFileEccError (pod : Fin 64) (word : Nat) (double : Bool)
  /-- LANE_TIMEOUT (R26). -/
  | laneTimeout (pod : Fin 64)
  /-- START (R664). -/
  | start (who : Who) (pod : Fin 64)
  /-- STOP (R664). -/
  | stop (who : Who) (pod : Fin 64)
  /-- POD_CMD_RESET (R216). -/
  | podCmdReset (who : Who) (pod : Fin 64) (laneAnswers : Bool)
  /-- CLOCK_RC (R157). -/
  | clockRc (who : Who) (pod : Fin 64)
  /-- CLOCK_SPINE (R157). -/
  | clockSpine (who : Who) (pod : Fin 64)
  /-- DOZE (R414). -/
  | doze (who : Who) (pod : Fin 64)
  /-- ACK_DORMANT (R432). -/
  | ackDormant (who : Who) (pod : Fin 64) (arg : Nat)
  /-- SEAL_OPEN (R457). -/
  | sealOpen (who : Who) (pod : Fin 64)
  /-- SEAL_CLOSE (R459). -/
  | sealClose (who : Who) (pod : Fin 64)
  /-- SLICE_RUN (R241). -/
  | sliceRun (who : Who) (pod : Fin 64)
  /-- SLICE_FREEZE (R241). -/
  | sliceFreeze (who : Who) (pod : Fin 64)
  /-- SLICE_FACTORY (R241). -/
  | sliceFactory (who : Who) (pod : Fin 64)
  /-- CHECKPOINT_DUE (R472). -/
  | checkpointDue
  /-- STORE (R473). -/
  | store (who : Who) (arg : Nat)
  /-- CAPTURE (R470). -/
  | capture (absent : List Nat)
  /-- PROGRAM (R470). -/
  | program
  /-- VERIFY (R478). -/
  | verify (good : Bool)
  /-- LOG_APPEND (R495). -/
  | logAppend
  /-- RESPONSE_TIMER_EXPIRY (R513). -/
  | responseTimerExpiry (cls : FaultClass) (pod : Fin 64)
  /-- CAUSE_CLEARED (R504). -/
  | causeCleared (cls : FaultClass) (pod : Fin 64) (source : Nat)
  /-- QUIET_EXIT (R525). -/
  | quietExit (cls : FaultClass) (pod : Fin 64)
  /-- GUARD_SELF_FAULT (R501). -/
  | guardSelfFault (fault : SelfFault)
  /-- GUARD_ACK (R515). -/
  | guardAck (who : Who) (code arg : Nat)
  /-- ACK_ALL (R515). -/
  | ackAll (who : Who)
  /-- PANEL_FRAME_BOUNDARY (R542). -/
  | panelFrameBoundary
  /-- BAND_TICK (R549). -/
  | bandTick
  /-- STRIP_FRAME (R561). -/
  | stripFrame
  /-- CRACK_PROBE (R566). -/
  | crackProbe (onStrip : Bool) (loop ground : Nat) (ended : Bool)
  /-- PANE_DISCHARGE_END (R569). -/
  | paneDischargeEnd
  /-- STRIP_DISCHARGE_END (R570). -/
  | stripDischargeEnd
  /-- PANE_MODE_WRITE (R540). -/
  | paneModeWrite (who : Who) (value : Nat)
  /-- PANE_LEVEL_WRITE (R543). -/
  | paneLevelWrite (who : Who) (value : Nat)
  /-- STRIP_ENABLE_WRITE (R562). -/
  | stripEnableWrite (who : Who) (value : Nat)
  /-- FB_DATA_WRITE (R546). -/
  | fbDataWrite (who : Who) (sub value : Nat)
  /-- GATE_ENABLE_WRITE (R92). -/
  | gateEnableWrite (who : Who) (value : Nat)
  /-- KEY_WRITE (R58). -/
  | keyWrite (who : Who) (level value : Nat)
  /-- TRACE_SELECT_WRITE (R657). -/
  | traceSelectWrite (who : Who) (value : Nat)
  /-- WRITE (R68). -/
  | write (who : Who) (index sub typeCode length value : Nat)
  /-- READ_STAGED (R64). -/
  | readStaged (who : Who) (index sub : Nat)
  /-- FILTER_SNAPSHOT_READ (R330). -/
  | filterSnapshotRead (who : Who) (pod : Fin 64) (sub : Nat)
  /-- COMMIT (R82). -/
  | commit (who : Who) (device : Bool) (pods : BitVec 64)
  /-- COMMIT_COMPLETE (R88). -/
  | commitComplete
  /-- RESET_SERVICE_CHIP (R208). -/
  | resetServiceChip (who : Who)
  /-- RESET_SERVICE_POD (R208). -/
  | resetServicePod (who : Who) (pod : Nat) (laneAnswers : Bool)
  /-- RESET_SERVICE_DISPLAY (R218). -/
  | resetServiceDisplay (who : Who)
  /-- SESSION_OPEN (R619). -/
  | sessionOpen (slot : Fin 4) (level : Nat)
  /-- SESSION_PROOF (R620). -/
  | sessionProof (slot : Fin 4) (number proof : Nat)
  /-- SESSION_OPEN_EXPIRY (R619). -/
  | sessionOpenExpiry (slot : Fin 4)
  /-- SESSION_IDLE_EXPIRY (R622). -/
  | sessionIdleExpiry (slot : Fin 4)
  /-- SUBSCRIBE (R634). -/
  | subscribe (who : Who) (body : SubBody)
  /-- ACK (R631). -/
  | ack (slot : Option (Fin 4)) (seq : Nat)
  /-- TIME (R640). -/
  | time (node epoch seq body : Nat)
  /-- EVENT (R630). -/
  | event
  /-- EVENT_RETRY (R632). -/
  | eventRetry (seq : Nat)
  /-- STREAM_SAMPLE (R635). -/
  | streamSample (sub : Fin 8)
  /-- FRAME_RECEIVE (R594). -/
  | frameReceive (frame : RxFrame)
  /-- TRANSMIT_OPPORTUNITY (R581). -/
  | transmitOpportunity
  /-- BEACON (R577). -/
  | beacon
  /-- BEACON_TIMEOUT (R577). -/
  | beaconTimeout
  /-- COORDINATOR_LISTEN_END (R202). -/
  | coordinatorListenEnd
  /-- FOREIGN_BEACON (R590). -/
  | foreignBeacon
  /-- SILENT_HOLD_OFF_END (R590). -/
  | silentHoldOffEnd
  /-- INTRUSION (R591). -/
  | intrusion (collision : Bool)
  /-- OWN_JABBER (R592). -/
  | ownJabber
  /-- REMOTE_JABBER (R592). -/
  | remoteJabber
  /-- SYMBOL_ERROR_INTERVAL (R593). -/
  | symbolErrorInterval (count : Nat)
  /-- OWN_FRAME_COLLISION (R595). -/
  | ownFrameCollision
  /-- TRACE_RECORD (R683). -/
  | traceRecord
  /-- TRACE_SYNC (R684). -/
  | traceSync
  /-- LFRC_STOP (R139). -/
  | lfrcStop
  /-- TIME_FRAME_ABSENCE (R148). -/
  | timeFrameAbsence
  /-- CSMA_TRANSMIT (R595). -/
  | csmaTransmit
  /-- SUPPLY_CURRENT_REPORT (R675). -/
  | supplyCurrentReport (pod : Fin 64) (microamps : Nat)
deriving DecidableEq, Repr

end Sys2Proof
end

