-- ==== Sys2Proof/Config.lean ====
section
/-! DEFINITION. What one device fixes at manufacture or leaves open: constants without a body. No proof can see
them, so a statement that holds, holds for every value of them. The plain numbers of the spec stand beside their rules. -/

namespace Sys2Proof.Config

/-- Free value: the answer of the device's random source (R590, R619), and every byte whose content the spec leaves
open, at the given count of the model's own counter `fresh` (log 5). -/
opaque freeWord : Nat → Nat

/-- Where the spec rounds a reported value and does not say how (R336, R280, R295), this choice at a numerator and a
denominator says whether the value above is taken in place of the one below (log 6). -/
opaque roundUp : Int → Nat → Bool

/-- The error of the STAMP that the hub latches at a frame marker, 0..4 for -2..+2 ticks (R28, log 5). -/
opaque markerSlip : Nat → Fin 5

/-- The error of the STAMP that the PHY latches at a start-frame delimiter, 0..6 for -3..+3 ticks (R179, log 5). -/
opaque sfdSlip : Nat → Fin 7

/-- The aligned sample of a channel's first frame, where no earlier sample of its entry exists (R280, log 5). -/
opaque firstAligned : Int → Int

/-- Coefficient i of a filter ROM, 20 bits (R295): response 0-7 (R307), or 8 the prefilter (R308), 9 the quadrature filter of F3. What a
ROM within R305-R313 keeps is `RomSound` (log 11). -/
opaque romTap : Nat → Nat → BitVec 20

/-- Fraction bits of the coefficients of that ROM (R295, R307). -/
opaque romFraction : Nat → Nat

/-- Fraction bits, below 2^-24 of full scale, of the IIR states of F5 and F7 as `Pod.FilterSnap` shows them (R330). -/
opaque iirFraction : Nat

/-- Which slice corrections take the upper of their two neighbours, so that the four of a quantity still sum to zero (R237, log 6). -/
opaque sliceTurn : Int → Nat

/-- The fixed factor, as numerator over 2^20, that scales the F5 integrator output on the pip path (R313). -/
opaque pipScaleF5 : Int

/-- The complex factor, over 2^30, that corrects the F5 integrator on a fundamental path at a frequency in mHz (R337). -/
opaque fundFactorF5 : Nat → Int × Int

/-- Correction, over 2^30, of a DFT bin for the response, its droop and the resampler: response, mean frequency of the window in mHz,
cycles, bin (R380). -/
opaque binFactor : Nat → Nat → Nat → Nat → Int × Int

/-- Weights, over 2^30, of the interpolator that resamples a cycle (R379): of the sample k places before (k < 8) or after the point, for the
point's place between its neighbours in 2^-16 (log 13). -/
opaque resampleWeight : Nat → Nat → Int

/-- Ratio of the check reference measured at the factory, UQ2.30 (R264). -/
opaque factoryRatio : Nat → Nat

/-- Silicon revision, ROM version, serial number and manufacture date (R652). -/
opaque siliconRevision : Nat
opaque romVersion : Nat
opaque serialNumber : Nat
opaque manufactureDate : Nat

/-- `Link.MacAddress`, 48 bits, unique (R575). -/
opaque macAddress : Nat

/-- Row r (0-7) of the glyph ROM for a glyph code, 8 pixels, or 24 for a unit glyph (R555). -/
opaque glyphRow : Nat → Nat → Nat

/-- Whether a RESET_N low level of 1 to 10 us is accepted (R209): the spec leaves it undefined. -/
opaque shortResetAccepted : Nat → Bool

/-- The power factor, in 2^-31, where the apparent power is zero and R352 states no reading, by window number (log 5). -/
opaque undefinedFactor : Nat → Int

/-- The value field of a FREQ-LOSS record, by instant: R405 states none (log 5). -/
opaque lossValue : Nat → Int

/-- The time that a lane access took, in us, by the count of `fresh` (R676; timing is free, log 5). -/
opaque laneMicros : Nat → Nat

/-- The octet at an offset below 0xC000 of a Shell image whose values, in a fixed order, are those listed: the layout of the image
outside its energy blocks is internal (R464, log 15). -/
opaque imageOctet : List Nat → Nat → Nat

/-- Share of the arithmetic unit's cycles in a frame: Pod, kind of work, instant (R373; how long work takes is timing, log 5). -/
opaque unitLoad : Nat → Nat → Nat → Nat

/-- `Clk.QualCount` of an oscillating source before it qualifies: source, instant (R142; how far it has counted is timing). -/
opaque qualCycles : Nat → Nat → Nat

/-- The 36 octets of a damaged log record and its check, by index (R491, R498; log 15). -/
opaque damagedRecord : Nat → Nat

/-- Lockstep compares since BOOT (R532), measured panel frame rate in 0.01 Hz (R541), at an instant. -/
opaque lockstepCompares : Nat → Nat
opaque paneRate : Nat → Nat

/-- Gate counts of a POD monitor that ran (R677): Pod, field 1-3, instant. -/
opaque podGate : Nat → Nat → Nat → Nat

end Sys2Proof.Config
end

