-- ==== Sys2Proof/Machine/State.lean ====
section
/-! DEFINITION. The state of the block as plain data: every register, queue, counter, mode and pin of the spec, and
the queue of commands that wait. Object values that a requester can write stand in sparse stores (`Store`); values
that the device forms stand in fields of their own. INVENTORY.md lists each with its rule and its reset value. -/

namespace Sys2Proof.Machine

/-- Sparse values by key, keys strictly rising, no entry equal to what an unlisted key reads as. -/
abbrev Store := List (Nat × Nat)

/-- Chip states (R29). -/
inductive ChipState where
  | unpowered | boot | active | standby | hold | safe
deriving DecidableEq, Repr

/-- Pod states (R36). -/
inductive PodMode where
  | stopped | doze | waking | run | lean | fault
deriving DecidableEq, Repr

/-- Phases of the power die before power-on reset release (R101, R107, R108). -/
inductive PowerPhase where
  | idle | inrush | bucks | released
deriving DecidableEq, Repr

/-- Oscillator states (R142). -/
inductive OscCode where
  | off | qualifying | qualified | failed
deriving DecidableEq, Repr

/-- Mux states (R154). -/
inductive MuxCode where
  | off | primary | alternate | switching | rescueWait | rescueRelease
deriving DecidableEq, Repr

/-- Sentinel states (R419). -/
inductive SentinelCode where
  | off | arming | armed | tripped | pending
deriving DecidableEq, Repr

/-- Seal states (R456). -/
inductive SealCode where
  | closed | opened | closing
deriving DecidableEq, Repr

/-- Link states (R577). -/
inductive LinkCode where
  | off | wakeListen | joining | follower | coordinator | csma | fallback | silent | listenOnly
deriving DecidableEq, Repr

/-- Chip reset kinds (R207). -/
inductive ResetKind where
  | powerOn | holdRestart | pin | gezor | restore | backstop
deriving DecidableEq, Repr

/-- The reset sequence in progress (R210): its kind, the Guard class at its trigger, whether its snapshot has ended or is skipped, and
whether its STORE has started or is skipped. -/
structure ResetRun where
  kind : ResetKind
  cls : Nat
  snapshotDone : Bool
  storeDone : Bool
deriving DecidableEq, Repr

/-- The chip: state, BOOT phases, straps, reset pin, reset sequence, `Dev.ResetCause`, command objects, commit. -/
structure Chip where
  state : ChipState
  /-- Phases B0-B8 of the present BOOT that have ended (R187). -/
  phases : List Nat
  fromStandby : Bool
  /-- The BOOT follows a power-off, and its RECALL has not come yet or is this BOOT's own (R184, R195, R196). -/
  powerOff : Bool
  /-- No Pod has restarted since the last power-off (R197, R198). -/
  podsOff : Bool
  resetLow : Bool
  tstHeld : Bool
  straps : Straps
  reset : Option ResetRun
  causeKind : Nat
  causeState : Nat
  causeStamp : Tick
  causeClass : Nat
  standbyWanted : Bool
  command : Nat
  activeGen : Nat
  stagedGen : Nat
  commitCount : Nat
  commitResult : Nat
  /-- The instant of the present BOOT (R532). -/
  bootAt : Tick
deriving DecidableEq, Repr

/-- The record of a HOLD (R138). -/
structure HoldRec where
  stamp : Tick
  mv : Nat
  steps : Nat
  outcome : Nat
deriving DecidableEq, Repr

/-- A trigger of the governor (R117, R124): code, Pod or 255, instant. -/
structure Trigger where
  code : Nat
  pod : Nat
  stamp : Tick
deriving DecidableEq, Repr

/-- `Pwr.LastDecision` (R124). -/
structure Decision where
  stamp : Tick
  trigger : Nat
  pod : Nat
  outcome : Nat
  leaned : Nat
  refused : Nat
  level : Nat
deriving DecidableEq, Repr

/-- The power die and the budget governor (03_trunk_power.md). -/
structure Power where
  phase : PowerPhase
  trunk : Nat
  /-- Trunk level at the comparators (R101, R125). -/
  level : Nat
  vhold : Nat
  /-- The monitor ADC has sampled since power-on reset release. -/
  sampled : Bool
  hubTemp : Int
  powerTemp : Int
  charger : Bool
  onHold : Bool
  warning : Bool
  lowRun : Nat
  highRun : Nat
  ready : Bool
  /-- `Pwr.HoldReady` has been true since power-on reset release, or its time-out has passed (R130). -/
  readyFault : Bool
  rails : Nat
  cls : Nat
  capMeasured : Nat
  /-- The HOLD in progress: its record, whether its STORE runs, whether its snapshot waits. -/
  hold : Option HoldRec
  holdStore : Bool
  holdSnap : Bool
  /-- HOLD has been entered and its sequencer waits for HOLD RC to qualify (R174). -/
  holdWait : Bool
  lastHold : HoldRec
  triggers : List Trigger
  decision : Decision
  decisions : Nat
  paneLevel : Nat
deriving DecidableEq, Repr

/-- A clock source (R139-R143). -/
structure Osc where
  code : OscCode
  count : Nat
  oscillating : Bool
  startedAt : Tick
  /-- The driver is on: a FAILED source keeps its state when its driver stops (R142, R143). -/
  driven : Bool
deriving DecidableEq, Repr

/-- A hub mux (R152-R167). -/
structure Mux where
  code : MuxCode
  /-- Source of a switch or rescue in progress: the alternate one. -/
  toAlternate : Bool
  fromAlternate : Bool
  /-- Source selected before the domain ran or chosen last. -/
  waitAt : Tick
  byCommand : Bool
  rescues : Nat
deriving DecidableEq, Repr

/-- `Time.LastGap` (R181). -/
structure TimeGap where
  kind : Nat
  before : Tick
  after : Tick
  uncertainty : Nat
deriving DecidableEq, Repr

/-- Clock sources, muxes, SPINE PLL and its discipline (04_clocks.md). -/
structure Clocks where
  oscs : Vector Osc 6
  muxes : Vector Mux 6
  /-- The SPINE PLL runs, is locked, runs on HFRC, has been disciplined since BOOT, is relocking since an instant. -/
  spineOn : Bool
  spineLocked : Bool
  spineHfrc : Bool
  disciplined : Bool
  relock : Option Tick
  frac : Nat
  /-- Correction of the nominal HFRC word by the last measurement of R147. -/
  hfrcOffset : Int
  brc : Bool
  freqError : Int
  slew : Int
  corePll : Bool
  phytx : Bool
  /-- Accepted switches whose start waits for the reply (R158): mux, towards the alternate source. -/
  waiting : List (MuxName × Bool)
  command : Nat
  /-- Sources failed and muxes rescued since CLK entered L3 (R523). -/
  failedSince : List Nat
  rescuedSince : List Nat
deriving DecidableEq, Repr

/-- STAMP and its record (R178-R184); `elapsed` is the model's own clock (log 1). -/
structure TimeBase where
  elapsed : Tick
  stamp : Tick
  huskTicks : Nat
  huskFrozen : Bool
  frozenAt : Tick
  /-- Part of the freeze in progress that fell before a lock of the SPINE PLL, while HUSK kept STAMP (R165). -/
  frozenLost : Tick
  gapCount : Nat
  lastGap : TimeGap
  rejects : Nat
  lastOffset : Int
  stepped : Bool
  lastTime : Option Tick
  lastAccepted : Tick
  /-- First accepted TIME frame since BOOT and the intervals since, whose mean R151 names. -/
  firstAccepted : Tick
  intervals : Nat
  latches : List (Nat × Tick)
deriving DecidableEq, Repr

/-- The device dictionary: values in effect, the staged copy, keys (OPERATOR, INSTALLER, METROLOGIST). -/
structure Dict where
  values : Store
  staged : List (Nat × Nat)
  keys : Vector (Option Nat) 3
deriving DecidableEq, Repr

/-- A sample that a chain delivers: value, instant, VALID (of a pip value: not filling), saturated, the time it stands
for in 2^-16 tick, and whether its frame was RC-timed. -/
structure Sample where
  value : Int
  stamp : Tick
  valid : Bool
  saturated : Bool
  span : Nat
  rc : Bool
deriving DecidableEq, Repr

/-- A fundamental path output: in-phase, quadrature, in-phase before the sealed constants (R341), instant, settled. -/
structure Phase where
  i : Int
  q : Int
  raw : Int
  stamp : Tick
  settled : Bool
deriving DecidableEq, Repr

/-- One logical channel of a Pod (08_filter_chain.md). -/
structure Channel where
  live : Bool
  frames : Nat
  /-- Normalised sample of the frame before, its instant in POD cycles, the skew of its slice. -/
  previous : Option (Int × Nat × Int)
  delayLine : List Int
  integrators : Vector Int 4
  combs : Vector Int 4
  outputs : Nat
  cic : List Int
  /-- The IIR state, exact: a numerator over 2^10 (F5) or 2^12 (F7) to the number of its steps (R295, R309, R310). -/
  iir : Int
  iirSteps : Nat
  iirIn : Int
  iirOut : List Int
  pre : List Int
  fineAvg : List Int
  quadAvg : List Int
  pipAvg : List Int
  fine : Sample
  quad : Int
  pip : Sample
  settled : Bool
  fundSettled : Bool
deriving DecidableEq, Repr

/-- Range state of a converter A entry (R243-R248). -/
structure Range where
  gain : Nat
  next : Option Nat
  peak : Nat
  frames : Nat
deriving DecidableEq, Repr

/-- The converters of a Pod (06, 07): ranges, monitors, slices, plausibility, injection, frame counts. -/
structure Converters where
  ranges : Vector Range 16
  cm : Nat
  cmFrames : Vector Nat 5
  frameA : Nat
  frameB : Nat
  offset : Vector Int 8
  gain : Vector Int 8
  skew : Vector Int 8
  residual : Vector Int 2
  solves : Nat
  solve : Option (List (Nat × Int × Int × Int))
  clamped : Bool
  plausStatus : Nat
  plausCount : Nat
  plausD : Nat
  plausL : Nat
  plausStamp : Tick
  plausSkipped : Nat
  plausPairs : List (Int × Int × Bool)
  plausDirty : Bool
  refRatio : Nat
  refSlice : Nat
  refFirst : Bool
  refDeviation : Int
  refStamp : Tick
  refDefer : Nat
  refRuns : Vector Nat 4
  /-- Frames since the injection point last passed, whether its injection is still due, and the converter B entry that an injection
  displaces now. -/
  refFrames : Nat
  refDue : Bool
  displaced : Option Nat
  /-- The estimator interval of converters A and B (R238): its frames; per channel the sum of squared raw codes, the samples used, whether
  one clipped (as bits); and of the last solve point, until it is solved, whether offset and gain with skew had samples. -/
  estFrames : Vector Nat 2
  estSquares : Vector Nat 32
  estSamples : Vector Nat 32
  estClipped : Nat
  estReady : Vector (Option (Bool × Bool)) 2
  /-- Limits of the plausibility window in progress, as `Pod.PlausLimit` stood at its start (R256). -/
  plausFs : Nat
  plausRdg : Nat
deriving DecidableEq, Repr

/-- A half-cycle boundary: instant and whether it is positive-going (R341). -/
structure Crossing where
  stamp : Tick
  rising : Bool
deriving DecidableEq, Repr

/-- Part of a phase that its channel could not sample: input, from, to (R325, R359). -/
structure Bridge where
  input : Nat
  start : Tick
  stop : Tick
deriving DecidableEq, Repr

/-- A mark of R366 that a sample brings to the window that holds its instant; input 15 for a channel that does not meter.
Kinds: 0 unrepaired clip above the lowest allowed gain code, 1 any other unrepaired clip, 2 saturated value, 3
reference-hold, 4 common-mode excursion, 5 stretched frame. -/
structure Note where
  stamp : Tick
  input : Nat
  kind : Nat
deriving DecidableEq, Repr

/-- A half-cycle or window that waits for its values: its instants, kind of its end (R348), whole cycles (0 under R342),
truncated (R345), rising crossings of the reference in it; of a half-cycle, the start of the cycle that ends with it (R348). -/
structure Interval where
  start : Tick
  stop : Tick
  kind : Nat
  cycles : Nat
  truncated : Bool
  rising : List Tick
  cycleFrom : Tick
deriving DecidableEq, Repr

/-- Instants of an input that the pip path books (R326, R358): those after `start` and, once the fine path is back, before `stop`. -/
structure CoarseSpan where
  input : Nat
  start : Tick
  stop : Option Tick
deriving DecidableEq, Repr

/-- Energies of a phase over a half-cycle (R355) and its length in 2^-16 tick: mean powers for a bridge (R359). -/
structure HalfPower where
  p : Int
  p1 : Int
  q1 : Int
  s : Nat
  span : Nat
deriving DecidableEq, Repr

/-- Shares of the arithmetic unit's cycles (R373): their sums over the frames of the interval in progress, and `Pod.UnitLoad`. -/
structure UnitLoad where
  frames : Nat
  sums : Vector Nat 3
  shown : Vector Nat 4
deriving DecidableEq, Repr

/-- `Pod.WindowInfo` (R347). -/
structure WindowRec where
  seq : Nat
  start : Tick
  stop : Tick
  cycles : Nat
  marks : Nat
  error : Nat
  clipped : Nat
  coarse : Nat
deriving DecidableEq, Repr

/-- The arithmetic unit of a Pod (09): logs of delivered values (newest first) in 2^-52 of the primary unit, as the constants in
effect at delivery scale them (R336, R453); timing, quantities, energy accumulators. -/
structure Meter where
  fine : Vector (List Sample) 7
  pip : Vector (List Sample) 7
  fund : Vector (List Phase) 7
  /-- Response outputs before the moving average (R379). -/
  resp : Vector (List Sample) 7
  bridges : List Bridge
  /-- Instants that the pip path books; the last pip value before a reset whose first pip value has not come (R325); the instant up to
  which WAKING made every value coarse (R358). -/
  spans : List CoarseSpan
  bridgeFrom : Vector (Option Tick) 7
  coarseUntil : Tick
  notes : List Note
  /-- Frequency reference (R339): 0 none, 1-3; crossings of each voltage newest first; its run of qualified cycles. -/
  source : Nat
  crossings : Vector (List Crossing) 3
  qualified : Vector Nat 3
  /-- STAMP timing of R342: its first instant, the half-cycles since, the `Pod.NominalFreq` they run on; and since when which value
  of that object has been in effect, newest first. -/
  timedFrom : Tick
  timedCount : Nat
  timedFreq : Nat
  nominal : List (Tick × Nat)
  /-- End of the last half-cycle formed, and of the last booked; half-cycles and windows that wait for their values. -/
  formed : Tick
  boundary : Tick
  halfQueue : List Interval
  winStart : Tick
  winCycles : Nat
  winRising : List Tick
  /-- Half-cycles of R342 in the window in progress. -/
  winHalves : Nat
  winOpen : Bool
  winQueue : List Interval
  halves : Nat
  halfKind : Nat
  halfMarks : Nat
  halfStamp : Tick
  /-- Energies of each phase over its last complete half-cycle (R359). -/
  lastPower : Vector HalfPower 3
  lastQ1Negative : Vector Bool 3
  /-- Half-cycles booked of the window in progress: end, coarse ticks, marks, and the phases that booked as bits. -/
  booked : List (Tick × Nat × Nat × Nat)
  urms : Vector Nat 3
  lastUrms : Vector Nat 3
  irms : Vector Nat 4
  urmsHalf : Vector Nat 3
  irmsHalf : Vector Nat 4
  p : Vector Int 4
  p1 : Vector Int 4
  q1 : Vector Int 4
  s : Vector Nat 4
  pf : Vector Int 4
  freq : Nat
  window : WindowRec
  /-- Accumulators of the fourteen registers of R363, in 2^-40 register LSB (R357). -/
  regs : Vector Nat 14
  coarse : Nat
  lastBooking : Tick
  /-- Start of the interval in which a phase is missing, or unpairable without fundamental values (R350, R361). -/
  missingFrom : Vector (Option Tick) 3
deriving DecidableEq, Repr

/-- `Pod.HarmInfo` (R385). -/
structure HarmRec where
  seq : Nat
  start : Tick
  stop : Tick
  cycles : Nat
  marks : Nat
  status : Nat
  valid : Nat
  highest : Vector Nat 7
  published : Tick
deriving DecidableEq, Repr

/-- A harmonic window whose results are unpublished: instants, cycles, the instants that delimit its cycles, timed under R342, settings it
started with. -/
structure HarmDue where
  start : Tick
  stop : Tick
  cycles : Nat
  rises : List Tick
  timed : Bool
  enabled : Nat
  grouping : Nat
deriving DecidableEq, Repr

/-- Harmonics and phasors of a Pod (10). -/
structure Harm where
  start : Tick
  due : Option HarmDue
  enabled : Nat
  grouping : Nat
  skipped : Bool
  seq : Nat
  info : HarmRec
  mags : Vector (List Nat) 7
  phases : Vector (List Int) 7
  thd : Vector Nat 7
  /-- Instants of the phasor grid that are not published yet, each with the `Time.Quality` at it (R391, R392). -/
  phasorDue : List (Tick × Nat)
  phasorT : Tick
  phasorQuality : Nat
  phasorMarks : Nat
  phasorFreq : Nat
  phasorMag : Vector Nat 7
  phasorAngle : Vector Int 7
deriving DecidableEq, Repr

/-- A Pod event record (R405). -/
structure EventRec where
  stamp : Tick
  kind : Nat
  edge : Nat
  input : Nat
  flags : Nat
  value : Int
  aux : Nat
  seq : Nat
deriving DecidableEq, Repr

/-- An active event: kind, input, onset, extreme (R405). -/
structure ActiveEvent where
  kind : Nat
  input : Nat
  onset : Tick
  extreme : Int
deriving DecidableEq, Repr

/-- Event detectors of a Pod (10). -/
structure Events where
  /-- Event RMS of each input newest first: sum of squares and number of pip values; number 0 where not evaluated. -/
  rms : Vector (List (Nat × Nat)) 7
  active : List ActiveEvent
  /-- Blocked point events: kind, input, end of the block (R401, R402). -/
  blocks : List (Nat × Nat × Tick)
  queue : List EventRec
  seq : Nat
  lost : Bool
  last : EventRec
  refreshAt : Tick
  /-- Refresh grid (R396): an instant of it, the event cycle, whether it runs on the nominal frequency; and the thresholds that the last
  refresh took up (R400): the fast-peak level, the frequency deviation and its hysteresis, the THD limits. -/
  gridAnchor : Tick
  gridCycle : Tick
  gridTimed : Bool
  limits : Vector Nat 10
  idleFrom : Option Tick
deriving DecidableEq, Repr

/-- Doze, sentinel and dormant accounting of a Pod (11). -/
structure Doze where
  sentinel : SentinelCode
  restart : Bool
  idleEntry : Bool
  ticks : Nat
  untransferred : Nat
  /-- The first of the untransferred ticks whose energy stands already, counted before a write of what a tick weighs (R417, R429), and that
  energy in 2^-40 of 1 mWh. -/
  carriedTicks : Nat
  carried : Nat
  saturated : Bool
  armedAt : Tick
  entry : Nat
  tripAt : Tick
  endAt : Tick
  exit : Nat
  latency : Nat
  transfers : Nat
  flags : Nat
  lastTransfer : Tick
  armingFrom : Option Tick
  /-- A comparator trip while HUSK is frozen, latched when it runs again (R420). -/
  tripHeld : Bool
  /-- `Pod.DormantAck` and `Pod.DormantBound`, in 2^-40 of 1 mWh. -/
  ack : Nat
  bound : Nat
deriving DecidableEq, Repr

/-- A spread of one increment over time (R440): energy left in 2^-32 register LSB, PULSE ticks left. -/
structure Spread where
  energy : Nat
  ticks : Nat
deriving DecidableEq, Repr

/-- The pulse emitter of a Pod (12). -/
structure Pulse where
  acc : Nat
  owed : Nat
  spreads : List Spread
  driving : Bool
  ran : Tick
  width : Nat
  lastEdge : Tick
  edgeTicks : Nat
  held : Bool
  test : Bool
  residueCause : Nat
  residueStamp : Tick
  residueSource : Nat
  residueEnergy : Nat
  residuePulses : Nat
  residueTotal : Nat
  residueUnknown : Bool
deriving DecidableEq, Repr

/-- The seal of a Pod (R456-R463). -/
structure Seal where
  code : SealCode
  opens : Nat
  openStamp : Tick
  closeStamp : Tick
  cause : Nat
  session : Nat
  index : Nat
  crcOpen : Nat
  crcClose : Nat
  byCommand : Bool
  audit : List Nat
deriving DecidableEq, Repr

/-- Isolation, lane, monitor and ECC records of a Pod (R674-R678). -/
structure PodFaults where
  isoOpen : Bool
  isoOpens : Nat
  isoStamp : Tick
  isoCause : Nat
  isoPeak : Nat
  current : Nat
  laneTimeouts : Nat
  laneStamp : Tick
  laneRun : Nat
  laneLongest : Nat
  /-- Instant of the latest LANE_TIMEOUT, whose access an item of that instant made (R26). -/
  laneFailed : Option Tick
  monLast : Nat
  monLow : Nat
  monHigh : Nat
  monStamp : Tick
  eccWord : Nat
  eccStamp : Tick
  eccBadWord : Nat
  eccBadStamp : Tick
deriving DecidableEq, Repr

/-- What a Pod does at its next frame boundary (R36-R42, R134, R157, R216, R413). -/
structure PodPlan where
  stop : Bool
  doze : Bool
  reset : Bool
  lean : Bool
  run : Bool
  toRc : Bool
  toSpine : Bool
  freeze : Bool
deriving DecidableEq, Repr

/-- One Pod. -/
structure Pod where
  mode : PodMode
  frozen : Bool
  plan : PodPlan
  command : Nat
  activeGen : Nat
  stagedGen : Nat
  values : Store
  staged : List (Nat × Nat)
  latched : Option (List (Nat × Nat) × Nat)
  hot : List (Nat × Nat)
  prevMode : Nat
  changeStamp : Tick
  changeCause : Nat
  changes : Nat
  restartStored : Nat
  restartState : Nat
  restartStamp : Tick
  restartSource : Nat
  restartSeq : Nat
  restartGap : Nat
  /-- The mode that decides the gap at B7: at the freeze of a chip reset (R33, R213), or of the source record after a
  power-off (R487). -/
  gapMode : PodMode
  /-- Wake pending and its source: 2 START, 1 sentinel, 9 QUIET exit, 8 restart; wake granted, powering up. -/
  wake : Option Nat
  powering : Option Nat
  /-- The granted wake waits for the LEAN entries of its evaluation (R119). -/
  powerWait : Bool
  /-- Entry to LEAN (R122). -/
  leanAt : Tick
  mux : MuxCode
  /-- The POD mux switches to the Pod RC, not to SPINE (R154, R159). -/
  muxToRc : Bool
  rcByCommand : Bool
  /-- Cycles of the Pod RC counted since its start: 512 qualify it (R141). -/
  rcCount : Nat
  framePeriod : Nat
  periodStart : Tick
  periodFrames : Nat
  marker : Tick
  frames : Nat
  /-- Marker of frame 0 since the Pod start. -/
  startAt : Tick
  rescuedFrame : Bool
  conv : Converters
  chans : Vector Channel 32
  meter : Meter
  load : UnitLoad
  harm : Harm
  events : Events
  doze : Doze
  pulse : Pulse
  sealRec : Seal
  faults : PodFaults
  counters : Vector Nat 21
deriving DecidableEq, Repr

/-- A Pod energy record of a slot block or bank (R482): its fields, and the check that stands with them. -/
structure EnergyRec where
  pod : Nat
  seq : Nat
  check : Nat
  mode : Nat
  sealCode : Nat
  saturated : Bool
  lastBooking : Tick
  regs : Vector Nat 14
  ack : Nat
  bound : Nat
  coarse : Nat
  ticks : Nat
  acc : Nat
  owed : Nat
  urms : Vector Nat 3
  transfers : Nat
deriving DecidableEq, Repr

/-- The image of a slot (R464) but for the energy blocks: values in effect, keys, and per Pod the values, state, seal, generation. -/
structure Image where
  dev : Store
  keys : Vector (Option Nat) 3
  devGen : Nat
  pods : Vector Store 64
  modes : Vector PodMode 64
  gens : Vector Nat 64
  seals : Vector SealCode 64
  /-- The Pane's frame buffer, the value in effect of `Pane.FbData` (R60, R544). -/
  buffer : Store
deriving DecidableEq, Repr

/-- A slot (R466, R467): its header's 32 octets as stored, the CRC-32C of the image octets as stored (none where they are torn or
damaged, so that no check matches), its retirement (R478), its image and energy blocks. -/
structure Slot where
  header : List Nat
  imageCheck : Option Nat
  retired : Bool
  image : Image
  energy : Vector EnergyRec 64
deriving DecidableEq, Repr

/-- A snapshot bank (R481): its header's 32 octets as stored, its records. -/
structure Bank where
  header : List Nat
  energy : Vector EnergyRec 64
deriving DecidableEq, Repr

/-- A STORE in progress (R470): phase 1-3, its slot, reasons, what CAPTURE latched. -/
structure StoreRun where
  phase : Nat
  slot : Nat
  reasons : Nat
  repeated : Bool
  startedAt : Tick
  seq : Nat
  stamp : Tick
  quality : Nat
  missed : Nat
  image : Image
  energy : Vector EnergyRec 64
deriving DecidableEq, Repr

/-- A general log record (R492). -/
structure LogRec where
  seq : Nat
  kind : Nat
  inst : Nat
  detail : Nat
  stamp : Tick
  payload : List Nat
  damaged : Bool
deriving DecidableEq, Repr

/-- A protected log record (R494): its 32 bytes. -/
structure AuditRec where
  octets : List Nat
  damaged : Bool
deriving DecidableEq, Repr

/-- A pending energy gap (R489); its power in 2^-40 mW (R488). -/
structure PendingGap where
  pod : Nat
  cause : Nat
  start : Tick
  stop : Tick
  power : Nat
  dormant : Bool
deriving DecidableEq, Repr

/-- `Shell.LastGap` (R490). -/
structure GapRec where
  pod : Nat
  cause : Nat
  start : Tick
  stop : Tick
  bound : Nat
  flags : Nat
deriving DecidableEq, Repr

/-- `Shell.LastStore`. -/
structure LastStore where
  reason : Nat
  reasons : Nat
  slot : Nat
  seq : Nat
  stamp : Tick
  micros : Nat
  outcome : Nat
  missed : Nat
deriving DecidableEq, Repr

/-- `Shell.Recall` (R486). -/
structure RecallRec where
  outcome : Nat
  slot : Nat
  seq : Nat
  highest : Nat
  failed : Nat
  fromBank : Nat
  badRecords : Nat
  gaps : Nat
deriving DecidableEq, Repr

/-- The Shell (13_shell.md). -/
structure Shell where
  slots : Vector Slot 8
  /-- The energy blocks of the working image (R464). -/
  blocks : Vector EnergyRec 64
  banks : Vector Bank 2
  counter : Nat
  run : Option StoreRun
  pending : Nat
  abortedSlot : Option Nat
  lastEnd : Tick
  lastCommandEnd : Option Tick
  command : Nat
  queuePeak : Nat
  busy : Nat
  stores : Nat
  failures : Nat
  last : LastStore
  recallRec : RecallRec
  gapCount : Nat
  lastGap : GapRec
  gaps : List PendingGap
  /-- Source of each Pod's energy at the last RECALL: 0 none, 1 slot, 2 bank; sequence; last booking. -/
  sources : Vector (Nat × Nat × Tick) 64
  recalledModes : Vector PodMode 64
  logReady : Bool
  general : List (Nat × LogRec)
  nextIndex : Nat
  logSeq : Nat
  queue : List LogRec
  drops : Nat
  lostSinceBoot : Nat
  audit : List AuditRec
deriving DecidableEq, Repr

/-- An occurrence (R504): latest source, level, acknowledged, causes present, instant of its burst, the time of its
response timer in ms where it has one, whether that runs, whether an event source raised it or joined it. -/
structure Occ where
  source : Nat
  level : Nat
  acked : Bool
  causes : List Nat
  burst : Tick
  timer : Option Nat
  timing : Bool
  event : Bool
deriving DecidableEq, Repr

/-- The containment of an instance at L3 (R523, R525): exit mode and quiet time it entered with, quiet count start. -/
structure Contain where
  quiet : Bool
  seconds : Nat
  since : Tick
deriving DecidableEq, Repr

/-- A class instance (R503). -/
structure Inst where
  occs : List Occ
  contain : Option Contain
  recoveries : Nat
  lastSource : Nat
deriving DecidableEq, Repr

/-- A history entry (R521). -/
structure HistEntry where
  stamp : Tick
  cls : Nat
  inst : Nat
  source : Nat
  level : Nat
  action : Nat
  flags : Nat
  seq : Nat
  detail : Nat
deriving DecidableEq, Repr

/-- A fault that B4 raises (R520, R525). -/
structure HeldFault where
  cls : FaultClass
  pod : Nat
  source : Nat
  detail : Nat
  stamp : Tick
  present : Bool
  /-- The level at which B4 raises it: 4 for a cause of an L4 that a reset ended (R34, R35), else its source's own. -/
  least : Nat
  /-- A cause that was present when a chip reset ended its level (R525); it falls away when it clears before B4. -/
  kept : Bool
deriving DecidableEq, Repr

/-- Guard (14_guard.md). Instances: 0-5 the classes CLK to TIME, 7 GUARD, 8 + p the POD instances. -/
structure Guard where
  armed : Bool
  insts : Vector Inst 72
  held : List HeldFault
  history : List HistEntry
  histSeq : Nat
  podHistory : Vector (List HistEntry) 64
  raises : Vector Nat 8
  safe : Option (Nat × Nat × Nat × Tick × Nat)
  latched : Bool
  pendingSafe : Bool
  backstop : Bool
  /-- STAMP and monitor count of a backstop record that the history takes at the next BOOT (R508). -/
  backstopEntry : Option (Tick × Nat)
  corrected : Nat
  command : Nat
deriving DecidableEq, Repr

/-- A crack loop (R565-R568). -/
structure Crack where
  verdict : Nat
  loop : Nat
  ground : Nat
  stamp : Tick
  failing : Nat
  postponed : Nat
  completed : Nat
  openRun : Nat
  shortRun : Nat
  openGood : Nat
  shortGood : Nat
deriving DecidableEq, Repr

/-- The panel drivers (15_panels.md). -/
structure Panel where
  mode : Nat
  wanted : Nat
  frames : Nat
  ticks : Nat
  huskTicks : Nat
  paneDischarge : Bool
  paneDone : Bool
  stripDischarge : Bool
  stripDone : Bool
  displayReset : Bool
  frp : Bool
  blankRows : Bool
  buffer : Store
  bandShown : List Nat
  bandAt : Nat × Nat
  /-- Band rows that a tick in FULL marked for the next panel frame (R550). -/
  bandNext : Option ((Nat × Nat) × List Nat)
  autoPod : Nat
  /-- Band ticks for which autorender has shown its Pod; held while its block is gated (R93, R556). -/
  autoFor : Nat
  autoValue : Nat
  autoStamp : Tick
  autoFlags : Nat
  autoMask : Nat
  autoRegister : Nat
  cache : Vector Nat 64
  cacheStamp : Tick
  lit : Bool
  wantLit : Bool
  step : Nat
  limited : Nat
  stripFrames : Nat
  /-- The blink counter as the Strip frame in progress took it (R563). -/
  stripTicks : Nat
  pane : Crack
  strip : Crack
deriving DecidableEq, Repr

/-- A frame of the engine in the link's queue (R641): class 1-5, octets, EVENT sequence or subscription, retry or cache mark. -/
structure TxFrame where
  cls : Nat
  octets : List Nat
  tag : Nat
  disposition : Nat
deriving DecidableEq, Repr

/-- The trunk link (16_trunk_link.md). -/
structure Link where
  code : LinkCode
  control : Nat
  beaconStamp : Tick
  beaconElapsed : Tick
  cycle : Nat
  causes : Nat
  /-- `Link.MaxBurst` as the PLCA cycle in progress runs with it (R583). -/
  maxBurst : Nat
  unreached : Nat
  enteredAt : Tick
  intrusions : List Tick
  stateStamp : Tick
  attempts : Nat
  silentFor : Nat
  queue : List TxFrame
  sent : List TxFrame
  counters : Vector Nat 18
deriving DecidableEq, Repr

/-- A reply cache entry (R615): transaction, service, complete, fragments. -/
structure CacheEntry where
  tid : Nat
  service : Nat
  complete : Bool
  frames : List (List Nat)
deriving DecidableEq, Repr

/-- An open session (R618-R622). -/
structure Session where
  level : Nat
  number : Nat
  counter : Nat
  lastAt : Tick
  unset : Bool
deriving DecidableEq, Repr

/-- A pending open (R619). -/
structure PendingOpen where
  level : Nat
  number : Nat
  nonce : Nat
  at_ : Tick
deriving DecidableEq, Repr

/-- A requester slot (R614). -/
structure Requester where
  used : Bool
  mac : Nat
  node : Nat
  tag : Nat
  lastUsed : Nat
  cache : List CacheEntry
  session : Option Session
  opening : Option PendingOpen
deriving DecidableEq, Repr

/-- An item of a request frame (R606). -/
inductive Item where
  | read (index sub : Nat)
  | readStaged (index sub : Nat)
  | write (index sub typeCode length value : Nat)
  | commit (device : Bool) (pods : BitVec 64)
  /-- RESET of a Pod by its command row, which says whether the lane answers (R216). -/
  | podReset (pod : Nat) (laneAnswers : Bool)
deriving DecidableEq, Repr

/-- A reply item (R607). -/
structure Reply where
  status : Nat
  typeCode : Nat
  octets : List Nat
deriving DecidableEq, Repr

/-- A request frame that executes (R623): its header, its requester, the items left, the replies so far. -/
structure Running where
  who : Who
  mac : Nat
  tag : Nat
  tid : Nat
  service : Nat
  check : Bool
  items : List Item
  replies : List Reply
  held : Bool
  busy : Bool
deriving DecidableEq, Repr

/-- What an executing item waits for. -/
inductive Waiting where
  | start (pod : Fin 64)
  | commit
  /-- The snapshot of a Pod's channel, and the sub-index asked for (R330, R679). -/
  | snapshot (pod : Fin 64) (chan sub : Nat)
  | strip
  | restore
deriving DecidableEq, Repr

/-- A COMMIT in progress (R81-R88): Pods in scope that have not answered, Pods that applied, partial. -/
structure CommitRun where
  waiting : Nat
  applied : Nat
  missed : Nat
  since : Tick
deriving DecidableEq, Repr

/-- A record of the EVENT queue (R628): kind, Pod or 255, 24 bytes. -/
structure EvRec where
  kind : Nat
  pod : Nat
  octets : List Nat
deriving DecidableEq, Repr

/-- An outstanding EVENT frame (R630). -/
structure EvFrame where
  seq : Nat
  records : List EvRec
  awaiting : List Nat
  anyAck : Bool
  retries : Nat
  queued : Bool
  /-- Instant at which its latest transmission ended (R632). -/
  sentAt : Tick
deriving DecidableEq, Repr

/-- A subscription (R634, R637). -/
structure Sub where
  active : Bool
  owner : Nat
  body : SubBody
  level : Nat
  sent : Nat
  misses : Nat
  replaced : Nat
  seq : Nat
  /-- A sampling is due, after the frames that wait (R635). -/
  due : Bool
deriving DecidableEq, Repr

/-- What reached the engine while CORE was held, and waits until it runs (R185): client data of a frame with where it was addressed, its
source and the STAMP of its start-frame delimiter; a TIME body with that STAMP; an item, or another service, without its frame (log 8). -/
inductive RxWait where
  | frame (own : Bool) (mac : Nat) (octets : List Nat) (stamp : Tick)
  | time (node epoch seq body : Nat) (stamp : Tick)
  | item (who : Who) (it : Item)
  | row (command : Instr)
deriving DecidableEq, Repr

/-- An accepted reset that begins after its reply (R208, R627, R665): of a Pod, with whether its lane answers, or of the display. -/
inductive ResetDue where
  | pod (pod : Nat) (laneAnswers : Bool)
  | display
deriving DecidableEq, Repr

/-- The Gezor engine (17_gezor.md). -/
structure Engine where
  opened : Bool
  inbox : List RxWait
  slots : Vector Requester 4
  uses : Nat
  nextSession : Nat
  badProof : Option Tick
  running : Option Running
  waiting : Option Waiting
  frames : List Running
  commit : Option CommitRun
  events : List EvRec
  outstanding : List EvFrame
  evSeq : Nat
  evDropped : Nat
  evUnacked : Nat
  subs : Vector Sub 8
  /-- Outcome of the item or service executed last. -/
  last : Reply
  /-- A chip reset that follows its reply (R61, R208). -/
  afterReply : Option ResetKind
  /-- Other resets that wait for a reply, by the mark of its last frame; 0 is the frame that executes (R208, R665). -/
  resetsDue : List (Nat × ResetDue)
  powerEvent : Bool
  counters : Vector Nat 18
deriving DecidableEq, Repr

/-- A trace record before its sequence byte and check (R683). -/
structure TraceRec where
  kind : Nat
  stamp : Tick
  payload : List Nat
deriving DecidableEq, Repr

/-- Trace port and device counters (20_observation.md). -/
structure Observe where
  queue : List TraceRec
  seq : Nat
  dropped : Nat
  dropStamp : Tick
  syncDue : Bool
  lastSync : Tick
  emitted : Nat
  lost : Nat
  lostStamp : Tick
  out : List (List Nat)
  gated : Nat
  /-- Clock gates as they stood when a mux last held their domain low (R175). -/
  gates : Nat
  hub : Vector Nat 12
deriving DecidableEq, Repr

/-- The whole block. -/
structure State where
  chip : Chip
  power : Power
  clocks : Clocks
  time : TimeBase
  dict : Dict
  pods : Vector Pod 64
  shell : Shell
  guard : Guard
  panel : Panel
  link : Link
  engine : Engine
  obs : Observe
  fresh : Nat
  pending : List Instr
deriving DecidableEq, Repr

/-- Stops of the model that are faults: none. No rule of the spec stops the block; safe, as nothing raises it. -/
inductive Fault where
deriving DecidableEq, Repr

/-- Reasons of a refusal. -/
inductive Refusal where
  /-- Raised by an arm of `exec` whose command has no meaning yet; safe. -/
  | notModelled (mnemonic : String)
deriving DecidableEq, Repr

def noSample : Sample := ⟨0, 0, false, false, 0, false⟩

def Channel.reset : Channel :=
  ⟨false, 0, none, [], .replicate 4 0, .replicate 4 0, 0, [], 0, 0, 0, [], [], [], [], [], noSample, 0, noSample, false, false⟩

def Converters.reset : Converters :=
  ⟨.replicate 16 ⟨0, none, 0, 0⟩, 0, .replicate 5 0, 0, 0, .replicate 8 0, .replicate 8 0, .replicate 8 0, .replicate 2 0,
   0, none, false, 0, 0, 0, 0, 0, 0, [], false, 0, 0, true, 0, 0, 0, .replicate 4 0, 0, false, none, .replicate 2 0, .replicate 32 0, .replicate 32 0, 0,
   .replicate 2 none, 50, 10⟩

def Meter.reset : Meter where
  fine := .replicate 7 []
  pip := .replicate 7 []
  fund := .replicate 7 []
  resp := .replicate 7 []
  bridges := []
  spans := []
  bridgeFrom := .replicate 7 none
  coarseUntil := 0
  notes := []
  source := 0
  crossings := .replicate 3 []
  qualified := .replicate 3 0
  timedFrom := 0
  timedCount := 0
  timedFreq := 0
  nominal := []
  formed := 0
  boundary := 0
  halfQueue := []
  winStart := 0
  winCycles := 10
  winRising := []
  winHalves := 0
  winOpen := false
  winQueue := []
  halves := 0
  halfKind := 0
  halfMarks := 0
  halfStamp := 0
  lastPower := .replicate 3 ⟨0, 0, 0, 0, 0⟩
  lastQ1Negative := .replicate 3 false
  booked := []
  urms := .replicate 3 0
  lastUrms := .replicate 3 0
  irms := .replicate 4 0
  urmsHalf := .replicate 3 0
  irmsHalf := .replicate 4 0
  p := .replicate 4 0
  p1 := .replicate 4 0
  q1 := .replicate 4 0
  s := .replicate 4 0
  pf := .replicate 4 0
  freq := 0
  window := ⟨0, 0, 0, 0, 0, 0, 0, 0⟩
  regs := .replicate 14 0
  coarse := 0
  lastBooking := 0
  missingFrom := .replicate 3 none

def Harm.reset : Harm :=
  ⟨0, none, 0x7F, 0, false, 0, ⟨0, 0, 0, 0, 0, 0, 0, .replicate 7 0, 0⟩, .replicate 7 [], .replicate 7 [], .replicate 7 0,
   [], 0, 0, 0, 0, .replicate 7 0, .replicate 7 0⟩

def UnitLoad.reset : UnitLoad := ⟨0, .replicate 3 0, .replicate 4 0⟩

def noEvent : EventRec := ⟨0, 0, 0, 0, 0, 0, 0, 0⟩

def Events.reset : Events := ⟨.replicate 7 [], [], [], [], 0, false, noEvent, 0, 0, 1310720, true, .replicate 10 0, none⟩

def Doze.reset : Doze := ⟨.off, false, false, 0, 0, 0, 0, false, 0, 0, 0, 0, 0, 0, 0, 0, 0, none, false, 0, 0⟩

def Pulse.reset : Pulse := ⟨0, 0, [], false, 0, 0, 0, 0, false, false, 0, 0, 0, 0, 0, 0, false⟩

def Seal.reset : Seal := ⟨.closed, 0, 0, 0, 0, 0, 0xFFFF, 0, 0, false, []⟩

def PodFaults.reset : PodFaults := ⟨false, 0, 0, 0, 0, 0, 0, 0, 0, 0, none, 0, 0, 0, 0, 0, 0, 0xFFFF, 0⟩

def PodPlan.none : PodPlan := ⟨false, false, false, false, false, false, false, false⟩

def Pod.reset : Pod where
  mode := .stopped
  frozen := false
  plan := .none
  command := 0
  activeGen := 0
  stagedGen := 0
  values := []
  staged := []
  latched := none
  hot := []
  prevMode := 0
  changeStamp := 0
  changeCause := 0
  changes := 0
  restartStored := 0
  restartState := 0
  restartStamp := 0
  restartSource := 0
  restartSeq := 0
  restartGap := 0
  gapMode := .stopped
  wake := none
  powering := none
  powerWait := false
  leanAt := 0
  mux := .off
  muxToRc := false
  rcByCommand := false
  rcCount := 0
  framePeriod := 33554432
  periodStart := 0
  periodFrames := 0
  marker := 0
  frames := 0
  startAt := 0
  rescuedFrame := false
  conv := .reset
  chans := .replicate 32 .reset
  meter := .reset
  load := .reset
  harm := .reset
  events := .reset
  doze := .reset
  pulse := .reset
  sealRec := .reset
  faults := .reset
  counters := .replicate 21 0

/-- No record: its check matches nothing (R482). -/
def noEnergy : EnergyRec :=
  ⟨0, 0, 0, 0, 0, false, 0, .replicate 14 0, 0, 0, 0, 0, 0, 0, .replicate 3 0, 0⟩

def Image.blank : Image :=
  ⟨[], .replicate 3 none, 0, .replicate 64 [], .replicate 64 .stopped, .replicate 64 0, .replicate 64 .closed, []⟩

/-- CRC-32C of an erased image: 65 536 octets 0xFF (R467). -/
def erasedCheck : Nat := 0x545A7F44

/-- An erased header reads 0xFF in every octet (R467). -/
def erasedHeader : List Nat := List.replicate 32 0xFF

def Slot.blank : Slot := ⟨erasedHeader, some erasedCheck, false, .blank, .replicate 64 noEnergy⟩

def Bank.blank : Bank := ⟨erasedHeader, .replicate 64 noEnergy⟩

def Shell.reset : Shell where
  slots := .replicate 8 .blank
  blocks := .replicate 64 noEnergy
  banks := .replicate 2 .blank
  counter := 0
  run := none
  pending := 0
  abortedSlot := none
  lastEnd := 0
  lastCommandEnd := none
  command := 0
  queuePeak := 0
  busy := 0
  stores := 0
  failures := 0
  last := ⟨0, 0, 0, 0, 0, 0, 0, 0⟩
  recallRec := ⟨0, 0, 0, 0, 0, 0, 0, 0⟩
  gapCount := 0
  lastGap := ⟨0, 0, 0, 0, 0, 0⟩
  gaps := []
  sources := .replicate 64 (0, 0, 0)
  recalledModes := .replicate 64 .stopped
  logReady := false
  general := []
  nextIndex := 0
  logSeq := 0
  queue := []
  drops := 0
  lostSinceBoot := 0
  audit := []

def Guard.reset : Guard where
  armed := false
  insts := .replicate 72 ⟨[], none, 0, 0⟩
  held := []
  history := []
  histSeq := 0
  podHistory := .replicate 64 []
  raises := .replicate 8 0
  safe := none
  latched := false
  pendingSafe := false
  backstop := false
  backstopEntry := none
  corrected := 0
  command := 0

def Crack.reset : Crack := ⟨0, 0, 0, 0, 0, 0, 0, 0, 0, 0, 0⟩

def Panel.reset : Panel where
  mode := 0
  wanted := 0
  frames := 0
  ticks := 0
  huskTicks := 0
  paneDischarge := false
  paneDone := false
  stripDischarge := false
  stripDone := false
  displayReset := false
  frp := false
  blankRows := false
  buffer := []
  bandShown := []
  bandAt := (48, 16)
  bandNext := none
  autoPod := 255
  autoFor := 0
  autoValue := 0
  autoStamp := 0
  autoFlags := 0
  autoMask := 0
  autoRegister := 0
  cache := .replicate 64 0
  cacheStamp := 0
  lit := false
  wantLit := false
  step := 0
  limited := 0
  stripFrames := 0
  stripTicks := 0
  pane := .reset
  strip := .reset

def Link.reset : Link where
  code := .off
  control := 0
  beaconStamp := 0
  beaconElapsed := 0
  cycle := 0
  causes := 0
  maxBurst := 0
  unreached := 0
  enteredAt := 0
  intrusions := []
  stateStamp := 0
  attempts := 0
  silentFor := 0
  queue := []
  sent := []
  counters := .replicate 18 0

def Requester.empty : Requester := ⟨false, 0, 0, 0, 0, [], none, none⟩

def Sub.empty : Sub := ⟨false, 255, ⟨0, 0, 0, 0, 0, 0, []⟩, 0, 0, 0, 0, 0, false⟩

def Engine.reset : Engine where
  opened := false
  inbox := []
  slots := .replicate 4 .empty
  uses := 0
  nextSession := 0
  badProof := none
  running := none
  waiting := none
  frames := []
  commit := none
  events := []
  outstanding := []
  evSeq := 0
  evDropped := 0
  evUnacked := 0
  subs := .replicate 8 .empty
  last := ⟨0, 0, []⟩
  afterReply := none
  resetsDue := []
  powerEvent := false
  counters := .replicate 18 0

def Observe.reset : Observe := ⟨[], 0, 0, 0, true, 0, 0, 0, 0, [], 0, 0x7B, .replicate 12 0⟩

/-- A new device before its trunk first rises (R101): UNPOWERED, the ring blank, the log erased. Values that the spec
does not give stand as log 4 names them. -/
def State.reset : State where
  chip := ⟨.unpowered, [], false, true, true, false, false, ⟨0, false, false, 0⟩, none, 0, 0, 0, 0, false, 0, 0, 0, 0, 0, 0⟩
  power :=
    { phase := .idle, trunk := 0, level := 0, vhold := 0, sampled := false, hubTemp := 0, powerTemp := 0, charger := false, onHold := false,
      warning := false, lowRun := 0, highRun := 0, ready := false, readyFault := false, rails := 0,
      cls := 0x11, capMeasured := 0, hold := none, holdStore := false, holdSnap := false, holdWait := false,
      lastHold := ⟨0, 0, 0, 0⟩, triggers := [], decision := ⟨0, 0, 0, 0, 0, 0, 0⟩, decisions := 0, paneLevel := 0 }
  clocks :=
    { oscs := .replicate 6 ⟨.off, 0, false, 0, false⟩, muxes := .replicate 6 ⟨.off, false, false, 0, false, 0⟩, spineOn := false,
      spineLocked := false, spineHfrc := false, disciplined := false, relock := none, frac := 3129484971, hfrcOffset := 0,
      brc := false, freqError := 0, slew := 0, corePll := false, phytx := false, waiting := [], command := 0,
      failedSince := [], rescuedSince := [] }
  time := ⟨0, 0, 0, false, 0, 0, 0, ⟨0, 0, 0, 0⟩, 0, 0, false, none, 0, 0, 0, []⟩
  dict := ⟨[], [], .replicate 3 none⟩
  pods := .replicate 64 .reset
  shell := .reset
  guard := .reset
  panel := .reset
  link := .reset
  engine := .reset
  obs := .reset
  fresh := 0
  pending := []

end Sys2Proof.Machine
end

