-- ==== Sys2Proof/Machine/Catalogue.lean ====
section
/-! DEFINITION. The object catalogue of 18_device_objects.md and 19_pod_objects.md: each row's index or local offset,
shape, read level, write level, apply class, default, range, gate bit, fast and slow marks, and whether the hub
serves it (R647, R659-R663). -/

namespace Sys2Proof.Machine

/-- The types of R51. -/
inductive Ty where
  | bool | u8 | u16 | u32 | u64 | i16 | i32 | i64 | q131 | uq230 | stamp | energy | enum8 | bits16 | bits32
  | octs (n : Nat) | text (n : Nat)
deriving DecidableEq, Repr

/-- The shapes of R48 and R49. -/
inductive Shape where
  | simple (t : Ty)
  | array (n : Nat) (t : Ty)
  | record (ts : List Ty)
deriving DecidableEq, Repr

/-- The apply classes of R68. -/
inductive Apply where
  | hot | warm | cold | none
deriving DecidableEq, Repr

/-- A default of R59: one value for every element, one per sub-index (0 beyond), or the gamma ramp of R537. -/
inductive Default where
  | each (v : Nat)
  | list (vs : List Nat)
  | gamma
deriving DecidableEq, Repr

/-- A catalogue range (R52). -/
inductive Bounds where
  | any
  | range (lo hi : Nat)
  | signed (limit : Nat)
  | oneOf (vs : List Nat)
deriving DecidableEq, Repr

/-- One row of a catalogue. -/
structure Obj where
  index : Nat
  shape : Shape
  read : Nat
  write : Option Nat
  apply : Apply
  default : Default
  bounds : Bounds
  gate : Option Nat
  fast : Bool
  slow : Bool
  hub : Bool
deriving DecidableEq, Repr

def deviceObjects0 : List Obj :=
  [ /- Dev.ProductCode -/ ⟨0x1000, .simple .u32, 0, none, .none, .each 0, .any, none, true, false, false⟩
  , /- Dev.Identity -/ ⟨0x1001, .record [.u16, .u16, .u16, .octs 8, .u32, .u8], 0, none, .none, .each 0, .any, none, false, false, false⟩
  , /- Link.State -/ ⟨0x1100, .record [.enum8, .u8, .enum8, .stamp, .u32, .bits16, .bits16, .u8, .stamp], 0, none, .none, .each 0, .any, none, true, false, false⟩
  , /- Link.PlcaEnable -/ ⟨0x1101, .simple .bool, 1, some 2, .warm, .each 1, .any, none, false, false, false⟩
  , /- Link.NodeCount -/ ⟨0x1102, .simple .u8, 1, some 2, .warm, .each 8, .range 1 255, none, false, false, false⟩
  , /- Link.ToTimer -/ ⟨0x1103, .simple .u8, 1, some 2, .warm, .each 32, .range 16 255, none, false, false, false⟩
  , /- Link.MaxBurst -/ ⟨0x1104, .simple .u8, 1, some 2, .warm, .each 0, .any, none, false, false, false⟩
  , /- Link.BurstTimer -/ ⟨0x1105, .simple .u8, 1, some 2, .warm, .each 128, .any, none, false, false, false⟩
  , /- Link.WakeMinLen -/ ⟨0x1106, .simple .u16, 1, some 2, .hot, .each 40, .range 40 1000, none, false, false, false⟩
  , /- Link.MacAddress -/ ⟨0x1107, .simple (.octs 6), 0, none, .none, .each 0, .any, none, false, false, false⟩
  , /- Link.GroupAddress -/ ⟨0x1108, .simple (.octs 6), 1, some 2, .warm, .each 0x03005A4C6430, .any, none, false, false, false⟩
  , /- Link.EtherType -/ ⟨0x1109, .simple .u16, 1, some 2, .warm, .each 0x88B5, .any, none, false, false, false⟩
  , /- Link.TxFrameLimit -/ ⟨0x110A, .simple .u16, 1, some 2, .warm, .each 1518, .range 64 1518, none, false, false, false⟩
  , /- Link.SymErrLimit -/ ⟨0x110B, .simple .u16, 1, some 2, .hot, .each 100, .range 1 10000, none, false, false, false⟩
  , /- Link.NodeIdStrap -/ ⟨0x1110, .simple .u8, 1, none, .none, .each 0, .any, none, false, false, false⟩
  , /- Link.NodeIdSource -/ ⟨0x1111, .simple .enum8, 1, some 2, .warm, .each 0x00, .range 0 1, none, false, false, false⟩
  , /- Link.NodeIdStored -/ ⟨0x1112, .simple .u8, 1, some 2, .warm, .each 0xFF, .any, none, false, false, false⟩
  , /- Gz.NodeNumber -/ ⟨0x1200, .simple .u16, 1, some 2, .warm, .each 0xFFFF, .any, none, false, false, false⟩
  , /- Gz.CheckMode -/ ⟨0x1201, .simple .enum8, 1, some 2, .hot, .each 0x00, .range 0 1, none, false, false, false⟩
  , /- Gz.SessionIdle -/ ⟨0x1202, .simple .u16, 1, some 2, .hot, .each 120, .range 10 3600, none, false, false, false⟩
  , /- Gz.Requesters -/ ⟨0x1203, .array 4 (.octs 16), 2, none, .none, .each 0, .any, none, false, false, false⟩
  , /- Gz.ReplyCache -/ ⟨0x1204, .array 32 (.octs 8), 2, none, .none, .each 0, .any, none, false, false, false⟩
  , /- Gz.KeyOperator -/ ⟨0x1210, .simple (.octs 16), 2, some 2, .hot, .each 0, .any, none, false, false, false⟩
  , /- Gz.KeyInstaller -/ ⟨0x1211, .simple (.octs 16), 2, some 2, .hot, .each 0, .any, none, false, false, false⟩
  , /- Gz.KeyMetrologist -/ ⟨0x1212, .simple (.octs 16), 3, some 3, .hot, .each 0, .any, none, false, false, false⟩
  , /- Gz.EventState -/ ⟨0x1230, .record [.u32, .u8, .u8, .u32, .u32], 1, none, .none, .each 0, .any, none, false, false, false⟩
  , /- Gz.SubTable -/ ⟨0x1300, .array 8 (.octs 72), 1, none, .none, .each 0, .any, some 5, false, false, false⟩
  , /- Pwr.Class -/ ⟨0x2000, .simple .enum8, 0, none, .none, .each 0, .any, none, false, false, false⟩
  , /- Pwr.TrunkVoltage -/ ⟨0x2001, .simple .u16, 1, none, .none, .each 0, .any, none, true, false, false⟩
  , /- Pwr.HoldVoltage -/ ⟨0x2002, .simple .u16, 1, none, .none, .each 0, .any, none, true, false, false⟩
  , /- Pwr.HoldReady -/ ⟨0x2003, .simple .bool, 1, none, .none, .each 0, .any, none, true, false, false⟩
  , /- Pwr.Temperature -/ ⟨0x2004, .array 2 .i16, 1, none, .none, .each 0, .any, none, false, false, false⟩ ]

def deviceObjects1 : List Obj :=
  [ /- Pwr.PreWarnLevel -/ ⟨0x2005, .simple .u16, 1, some 2, .hot, .each 18000, .range 17000 30000, none, false, false, false⟩
  , /- Pwr.RailStatus -/ ⟨0x2006, .simple .bits16, 1, none, .none, .each 0, .any, none, false, false, false⟩
  , /- Pwr.HoldCapMeasured -/ ⟨0x2007, .simple .u16, 1, none, .none, .each 0, .any, none, false, false, false⟩
  , /- Pwr.Budget -/ ⟨0x2008, .simple .u16, 1, none, .none, .each 0, .any, none, true, false, false⟩
  , /- Pwr.Charge -/ ⟨0x2009, .array 4 .u16, 1, none, .none, .each 0, .any, none, true, false, false⟩
  , /- Pwr.PodRank -/ ⟨0x2010, .array 64 .u8, 1, some 2, .hot, .each 0x80, .any, none, false, false, false⟩
  , /- Pwr.DimFloor -/ ⟨0x2011, .simple .u8, 1, some 2, .hot, .each 0, .any, none, false, false, false⟩
  , /- Pwr.RestoreHold -/ ⟨0x2012, .simple .u16, 1, some 2, .hot, .each 60, .range 1 3600, none, false, false, false⟩
  , /- Pwr.PaneGranted -/ ⟨0x2013, .simple .u8, 1, none, .none, .each 0, .any, none, true, false, false⟩
  , /- Pwr.LastDecision -/ ⟨0x2018, .record [.stamp, .enum8, .u8, .enum8, .u8, .u8, .u8], 1, none, .none, .each 0, .any, none, false, false, false⟩
  , /- Pwr.DecisionCount -/ ⟨0x2019, .simple .u32, 1, none, .none, .each 0, .any, none, false, false, false⟩
  , /- Pwr.LastHold -/ ⟨0x2020, .record [.stamp, .u16, .bits16, .enum8], 1, none, .none, .each 0, .any, none, false, false, false⟩
  , /- Clk.Command -/ ⟨0x2100, .simple .u32, 1, some 2, .hot, .each 0, .any, none, false, false, false⟩
  , /- Clk.MuxState -/ ⟨0x2101, .array 6 .enum8, 1, none, .none, .each 0, .any, none, false, false, false⟩
  , /- Clk.OscState -/ ⟨0x2102, .array 6 .enum8, 1, none, .none, .each 0, .any, none, false, false, false⟩
  , /- Clk.QualCount -/ ⟨0x2103, .array 6 .u32, 1, none, .none, .each 0, .any, none, false, false, false⟩
  , /- Clk.ReturnDelay -/ ⟨0x2105, .simple .u16, 1, some 2, .hot, .each 10, .range 0 3600, none, false, false, false⟩
  , /- Clk.SpineFrac -/ ⟨0x2106, .simple .u32, 1, none, .none, .each 0, .any, none, false, false, false⟩
  , /- Clk.SpineState -/ ⟨0x2107, .simple .enum8, 1, none, .none, .each 0, .any, none, true, false, false⟩
  , /- Clk.FreqSourceNode -/ ⟨0x2108, .simple .u8, 1, some 2, .hot, .each 0x00, .any, none, false, false, false⟩
  , /- Clk.FreqError -/ ⟨0x2109, .simple .i32, 1, none, .none, .each 0, .any, none, false, false, false⟩
  , /- Clk.SscCore -/ ⟨0x2110, .simple .u16, 1, some 2, .hot, .each 0x0000, .any, none, false, false, false⟩
  , /- Clk.SscAmpix -/ ⟨0x2111, .simple .u16, 1, some 2, .hot, .each 0x0000, .any, none, false, false, false⟩
  , /- Clk.AmpixDiv -/ ⟨0x2112, .array 2 .u8, 1, some 2, .cold, .list [5, 2], .any, none, false, false, false⟩
  , /- Clk.StripDiv -/ ⟨0x2113, .array 2 .u8, 1, some 2, .cold, .list [25, 12], .any, none, false, false, false⟩
  , /- Clk.RescueCount -/ ⟨0x2114, .array 6 .u32, 1, none, .none, .each 0, .any, none, false, false, false⟩
  , /- Clk.LfxoEnable -/ ⟨0x2115, .simple .bool, 1, some 2, .hot, .each 1, .any, none, false, false, false⟩
  , /- Clk.SscStrip -/ ⟨0x2117, .simple .u16, 1, some 2, .hot, .each 0x0000, .any, none, false, false, false⟩
  , /- Shell.Command -/ ⟨0x2200, .simple .u32, 1, some 1, .hot, .each 0, .any, none, false, false, false⟩
  , /- Shell.CheckpointPeriod -/ ⟨0x2201, .simple .u16, 1, some 2, .hot, .each 15, .range 1 1440, none, false, false, false⟩
  , /- Shell.State -/ ⟨0x2202, .simple .enum8, 1, none, .none, .each 0, .any, none, true, false, false⟩
  , /- Shell.Status -/ ⟨0x2203, .record [.u8, .u8, .u32, .u8, .u8, .u32, .u32, .u32, .bits16], 1, none, .none, .each 0, .any, none, false, false, false⟩ ]

def deviceObjects2 : List Obj :=
  [ /- Shell.LastStore -/ ⟨0x2204, .record [.enum8, .bits16, .u8, .u32, .stamp, .u32, .enum8, .u64], 1, none, .none, .each 0, .any, none, false, false, false⟩
  , /- Shell.Recall -/ ⟨0x2205, .record [.enum8, .u8, .u32, .u32, .u8, .u64, .u8, .u8], 1, none, .none, .each 0, .any, none, false, false, false⟩
  , /- Shell.SlotSeq -/ ⟨0x2206, .array 8 .u32, 1, none, .none, .each 0, .any, none, false, false, false⟩
  , /- Shell.SlotState -/ ⟨0x2207, .array 8 .enum8, 1, none, .none, .each 0, .any, none, false, false, false⟩
  , /- Shell.SlotWear -/ ⟨0x2208, .array 8 .u32, 1, none, .none, .each 0, .any, none, false, false, false⟩
  , /- Shell.SlotStamp -/ ⟨0x2209, .array 8 .stamp, 1, none, .none, .each 0, .any, none, false, false, false⟩
  , /- Shell.SlotReason -/ ⟨0x220A, .array 8 .enum8, 1, none, .none, .each 0, .any, none, false, false, false⟩
  , /- Shell.SnapInfo -/ ⟨0x2210, .record [.u8, .u32, .enum8, .stamp, .u64], 1, none, .none, .each 0, .any, none, false, false, false⟩
  , /- Shell.GapCount -/ ⟨0x2211, .simple .u32, 1, none, .none, .each 0, .any, none, false, false, false⟩
  , /- Shell.LastGap -/ ⟨0x2212, .record [.u8, .enum8, .stamp, .stamp, .energy, .bits16], 1, none, .none, .each 0, .any, none, false, false, false⟩
  , /- Shell.GapPending -/ ⟨0x2213, .simple .u8, 1, none, .none, .each 0, .any, none, false, false, false⟩
  , /- Shell.AuditFree -/ ⟨0x2220, .simple .u16, 1, none, .none, .each 0, .any, none, false, false, false⟩
  , /- Shell.LogCursor -/ ⟨0x9000, .simple .u16, 1, some 1, .hot, .each 0, .range 0 1023, none, false, false, false⟩
  , /- Shell.LogWindow -/ ⟨0x9001, .array 16 (.octs 40), 1, none, .none, .each 0, .any, none, false, true, false⟩
  , /- Shell.LogStatus -/ ⟨0x9002, .record [.u16, .u32, .u16, .u16, .u16, .u16, .u32], 1, none, .none, .each 0, .any, none, false, false, false⟩
  , /- Guard.Command -/ ⟨0x2300, .simple .u32, 1, some 1, .hot, .each 0, .any, none, false, false, false⟩
  , /- Guard.Level -/ ⟨0x2301, .array 8 .enum8, 0, none, .none, .each 0, .any, none, true, false, false⟩
  , /- Guard.PodLevel -/ ⟨0x2302, .array 64 .enum8, 0, none, .none, .each 0, .any, none, true, false, false⟩
  , /- Guard.Unacked -/ ⟨0x2303, .simple .bits16, 0, none, .none, .each 0, .any, none, true, false, false⟩
  , /- Guard.PodUnacked -/ ⟨0x2304, .simple .u64, 0, none, .none, .each 0, .any, none, true, false, false⟩
  , /- Guard.RespTime -/ ⟨0x2305, .simple .u8, 1, some 2, .hot, .each 10, .range 1 100, none, false, false, false⟩
  , /- Guard.ExitMode -/ ⟨0x2306, .array 8 .enum8, 1, some 2, .hot, .list [1, 1, 0, 1, 1, 1, 1, 0], .range 0 1, none, false, false, false⟩
  , /- Guard.QuietTime -/ ⟨0x2307, .array 8 .u16, 1, some 2, .hot, .list [60, 10, 60, 5, 60, 10, 60, 60], .range 1 3600, none, false, false, false⟩
  , /- Guard.RecoveryLimit -/ ⟨0x2308, .array 8 .u8, 1, some 2, .hot, .list [3, 5, 1, 15, 3, 15, 3, 1], .range 1 15, none, false, false, false⟩
  , /- Guard.RecoveryCount -/ ⟨0x2309, .array 8 .u8, 1, none, .none, .each 0, .any, none, false, false, false⟩
  , /- Guard.PodRecoveryCount -/ ⟨0x230A, .array 64 .u8, 1, none, .none, .each 0, .any, none, false, false, false⟩
  , /- Guard.SafeInfo -/ ⟨0x230B, .record [.enum8, .u8, .u8, .stamp, .enum8], 1, none, .none, .each 0, .any, none, false, false, false⟩
  , /- Guard.SelfStatus -/ ⟨0x230C, .record [.u32, .u64], 1, none, .none, .each 0, .any, none, false, false, false⟩
  , /- Guard.RaiseCount -/ ⟨0x230D, .array 8 .u32, 1, none, .none, .each 0, .any, none, false, false, false⟩
  , /- Guard.History -/ ⟨0x2310, .array 16 (.octs 24), 1, none, .none, .each 0, .any, none, false, false, false⟩
  , /- Pane.Mode -/ ⟨0x2400, .simple .enum8, 1, some 1, .hot, .each 0x01, .range 0 2, some 0, false, false, false⟩
  , /- Pane.Level -/ ⟨0x2401, .simple .u8, 1, some 1, .hot, .each 128, .any, some 0, false, false, false⟩ ]

def deviceObjects3 : List Obj :=
  [ /- Pane.State -/ ⟨0x2402, .record [.enum8, .bits16, .u32, .u32, .u16], 1, none, .none, .each 0, .any, some 0, false, false, false⟩
  , /- Pane.Timing -/ ⟨0x2403, .record [.u16, .u8, .u16, .u8], 1, some 2, .cold, .list [2450, 4, 730, 20], .any, some 0, false, false, false⟩
  , /- Pane.Vcom -/ ⟨0x2404, .simple .u16, 1, some 2, .hot, .each 1650, .range 1500 1800, some 0, false, false, false⟩
  , /- Pane.Gamma -/ ⟨0x2405, .array 192 .u16, 1, some 2, .hot, .gamma, .any, some 0, false, false, false⟩
  , /- Pane.FbCursor -/ ⟨0x2406, .simple .u8, 1, some 1, .hot, .each 0, .range 0 127, some 0, false, false, false⟩
  , /- Pane.FbData -/ ⟨0x2407, .array 4 (.octs 144), 1, some 1, .hot, .each 0, .any, some 0, false, false, false⟩
  , /- Pane.BandHeight -/ ⟨0x2410, .simple .enum8, 1, some 1, .warm, .each 0x02, .range 1 3, some 0, false, false, false⟩
  , /- Pane.BandTop -/ ⟨0x2411, .simple .u8, 1, some 1, .warm, .each 48, .oneOf [0, 8, 16, 24, 32, 40, 48, 56], some 0, false, false, false⟩
  , /- Pane.BandData -/ ⟨0x2412, .array 24 (.octs 48), 1, some 1, .hot, .each 0, .any, some 0, false, false, false⟩
  , /- Pane.BandStandby -/ ⟨0x2413, .simple .bool, 1, some 1, .hot, .each 1, .any, some 0, false, false, false⟩
  , /- Pane.Blink -/ ⟨0x2414, .array 48 .u8, 1, some 1, .hot, .each 0, .range 0 3, some 0, false, false, false⟩
  , /- Pane.AutoPods -/ ⟨0x2420, .simple .u64, 1, some 1, .hot, .each 0xFFFFFFFFFFFFFFFF, .any, some 4, false, false, false⟩
  , /- Pane.AutoRegister -/ ⟨0x2421, .simple .enum8, 1, some 1, .hot, .each 0x01, .range 1 14, some 4, false, false, false⟩
  , /- Pane.AutoDecimals -/ ⟨0x2422, .simple .u8, 1, some 1, .hot, .each 1, .range 0 3, some 4, false, false, false⟩
  , /- Pane.AutoDwell -/ ⟨0x2423, .simple .u8, 1, some 1, .hot, .each 5, .range 1 60, some 4, false, false, false⟩
  , /- Pane.AutoColour -/ ⟨0x2424, .simple .u8, 1, some 1, .hot, .each 0x07, .any, some 4, false, false, false⟩
  , /- Pane.AutoEnable -/ ⟨0x2425, .simple .bool, 1, some 1, .hot, .each 1, .any, some 4, false, false, false⟩
  , /- Pane.AutoNow -/ ⟨0x2426, .record [.u8, .u64, .stamp, .bits16], 0, none, .none, .each 0, .any, some 4, false, false, false⟩
  , /- Strip.Enable -/ ⟨0x2480, .simple .bool, 1, some 1, .hot, .each 0, .any, some 1, false, false, false⟩
  , /- Strip.Current -/ ⟨0x2481, .simple .u8, 1, some 1, .hot, .each 100, .any, some 1, false, false, false⟩
  , /- Strip.PreLevel -/ ⟨0x2482, .simple .u8, 1, some 2, .hot, .each 16, .range 0 32, some 1, false, false, false⟩
  , /- Strip.PreTime -/ ⟨0x2483, .simple .u8, 1, some 2, .hot, .each 32, .range 0 96, some 1, false, false, false⟩
  , /- Strip.Data -/ ⟨0x2484, .array 8 (.octs 48), 1, some 1, .hot, .each 0, .any, some 1, false, false, false⟩
  , /- Strip.Blink -/ ⟨0x2485, .array 4 .u32, 1, some 1, .hot, .each 0, .any, some 1, false, false, false⟩
  , /- Strip.State -/ ⟨0x2486, .record [.bool, .bits16, .u8, .u32, .u32], 1, none, .none, .each 0, .any, some 1, false, false, false⟩
  , /- Pane.CrackPeriod -/ ⟨0x24C0, .simple .u16, 1, some 2, .hot, .each 1, .range 1 3600, some 6, false, false, false⟩
  , /- Pane.CrackStatus -/ ⟨0x24C1, .record [.enum8, .u16, .u16, .stamp, .u8, .u32, .u32], 1, none, .none, .each 0, .any, some 6, false, false, false⟩
  , /- Strip.CrackStatus -/ ⟨0x24C2, .record [.enum8, .u16, .u16, .stamp, .u8, .u32, .u32], 1, none, .none, .each 0, .any, some 6, false, false, false⟩
  , /- Time.Epoch -/ ⟨0x2500, .simple .u64, 0, some 2, .hot, .each 0, .any, none, false, false, false⟩
  , /- Time.Now -/ ⟨0x2501, .simple .stamp, 0, none, .none, .each 0, .any, none, true, false, false⟩
  , /- Time.Quality -/ ⟨0x2502, .simple .enum8, 0, none, .none, .each 0, .any, none, true, false, false⟩
  , /- Time.MasterNode -/ ⟨0x2503, .simple .u16, 1, some 2, .hot, .each 0xFFFF, .any, none, false, false, false⟩ ]

def deviceObjects4 : List Obj :=
  [ /- Time.StepThreshold -/ ⟨0x2504, .simple .u32, 1, some 2, .hot, .each 65536, .range 1 4294967295, none, false, false, false⟩
  , /- Time.LastOffset -/ ⟨0x2505, .simple .i32, 1, none, .none, .each 0, .any, none, false, false, false⟩
  , /- Time.GapCount -/ ⟨0x2506, .simple .u32, 1, none, .none, .each 0, .any, none, false, false, false⟩
  , /- Time.LastGap -/ ⟨0x2507, .record [.enum8, .stamp, .stamp, .u32], 1, none, .none, .each 0, .any, none, false, false, false⟩
  , /- Time.RejectCount -/ ⟨0x2508, .simple .u32, 1, none, .none, .each 0, .any, none, false, false, false⟩
  , /- Dev.Command -/ ⟨0x2600, .simple .u32, 1, some 1, .hot, .each 0, .any, none, false, false, false⟩
  , /- Dev.ChipState -/ ⟨0x2601, .simple .enum8, 0, none, .none, .each 0, .any, none, true, false, false⟩
  , /- Dev.GateEnable -/ ⟨0x2602, .simple .bits32, 1, some 2, .hot, .each 0x0000007B, .any, none, false, false, false⟩
  , /- Dev.GateMap -/ ⟨0x2603, .simple .bits32, 1, none, .none, .each 0, .any, none, false, false, false⟩
  , /- Dev.ActiveGen -/ ⟨0x2604, .simple .u32, 1, none, .none, .each 0, .any, none, true, false, false⟩
  , /- Dev.StagedGen -/ ⟨0x2605, .simple .u32, 1, none, .none, .each 0, .any, none, true, false, false⟩
  , /- Dev.CommitCount -/ ⟨0x2606, .simple .u32, 1, none, .none, .each 0, .any, none, false, false, false⟩
  , /- Dev.CommitResult -/ ⟨0x2607, .simple .u64, 1, none, .none, .each 0, .any, none, true, false, false⟩
  , /- Dev.ResetCause -/ ⟨0x2608, .record [.enum8, .enum8, .stamp, .enum8], 1, none, .none, .each 0, .any, none, false, false, false⟩
  , /- Obs.GatedAccesses -/ ⟨0x8004, .simple .u32, 1, none, .none, .each 0, .any, none, false, false, false⟩
  , /- Obs.LinkCounters -/ ⟨0x8010, .array 18 .u32, 1, none, .none, .each 0, .any, none, false, false, false⟩
  , /- Obs.GezorCounters -/ ⟨0x8011, .array 18 .u32, 1, none, .none, .each 0, .any, none, false, false, false⟩
  , /- Obs.HubCounters -/ ⟨0x8012, .array 12 .u32, 1, none, .none, .each 0, .any, none, false, false, false⟩
  , /- Obs.TraceSelect -/ ⟨0x8100, .simple .bits32, 1, some 2, .hot, .each 0x00000000, .any, some 2, false, false, false⟩
  , /- Obs.TraceStatus -/ ⟨0x8101, .record [.u32, .u32, .enum8, .stamp], 1, none, .none, .each 0, .any, some 2, false, false, false⟩ ]

def deviceObjects : List Obj :=
  deviceObjects0 ++ deviceObjects1 ++ deviceObjects2 ++ deviceObjects3 ++ deviceObjects4

def podObjects0 : List Obj :=
  [ /- Pod.State -/ ⟨0x00, .simple .enum8, 0, none, .none, .each 0, .any, none, true, false, true⟩
  , /- Pod.Command -/ ⟨0x01, .simple .u32, 1, some 1, .hot, .each 0, .any, none, false, false, false⟩
  , /- Pod.ActiveGen -/ ⟨0x02, .simple .u32, 1, none, .none, .each 0, .any, none, true, false, false⟩
  , /- Pod.StagedGen -/ ⟨0x03, .simple .u32, 1, none, .none, .each 0, .any, none, false, false, false⟩
  , /- Pod.ClockState -/ ⟨0x04, .simple .enum8, 1, none, .none, .each 0, .any, none, true, false, false⟩
  , /- Pod.FramePeriod -/ ⟨0x05, .simple .u32, 1, none, .none, .each 0, .any, none, false, false, true⟩
  , /- Pod.Name -/ ⟨0x06, .simple (.text 16), 0, some 2, .hot, .each 0, .any, none, false, false, false⟩
  , /- Pod.StateInfo -/ ⟨0x07, .record [.enum8, .stamp, .enum8, .u32], 1, none, .none, .each 0, .any, none, false, false, true⟩
  , /- Pod.RestartInfo -/ ⟨0x08, .record [.enum8, .enum8, .stamp, .enum8, .u32, .enum8], 1, none, .none, .each 0, .any, none, false, false, true⟩
  , /- Pod.InputKind -/ ⟨0x10, .array 7 .enum8, 1, some 2, .cold, .list [1, 1, 1, 1, 16, 16, 16], .oneOf [0, 1, 2, 3, 4, 16, 17], none, false, false, false⟩
  , /- Pod.RangeNow -/ ⟨0x11, .array 16 .u8, 1, none, .none, .each 0, .any, none, false, false, false⟩
  , /- Pod.RangeLimit -/ ⟨0x12, .record [.u8, .u8], 1, some 2, .hot, .list [0, 5], .range 0 5, none, false, false, false⟩
  , /- Pod.CmStatus -/ ⟨0x13, .simple .bits16, 1, none, .none, .each 0, .any, none, false, false, false⟩
  , /- Pod.SeqA -/ ⟨0x20, .array 16 .u16, 1, some 2, .warm, .list [0x0670, 0x0671, 0x0672, 0x0673, 0x0A04, 0x0A05, 0x0A06], .any, none, false, false, false⟩
  , /- Pod.SeqB -/ ⟨0x21, .array 16 .u16, 1, some 2, .warm, .each 0x0000, .any, none, false, false, false⟩
  , /- Pod.SeqTiming -/ ⟨0x22, .array 32 .u8, 1, none, .none, .each 0, .any, none, false, false, false⟩
  , /- Pod.GroupLoad -/ ⟨0x23, .array 8 .u8, 1, none, .none, .each 0, .any, none, false, false, false⟩
  , /- Pod.BMode -/ ⟨0x24, .simple .enum8, 1, some 2, .warm, .each 0x00, .range 0 2, none, false, false, false⟩
  , /- Pod.PlausChannel -/ ⟨0x25, .simple .enum8, 1, some 2, .warm, .each 0x0, .range 0 6, none, false, false, false⟩
  , /- Pod.PlausGainB -/ ⟨0x26, .simple .u8, 1, some 2, .warm, .each 0x0, .range 0 5, none, false, false, false⟩
  , /- Pod.PlausLimit -/ ⟨0x27, .record [.u16, .u16], 1, some 2, .hot, .list [50, 10], .range 1 1000, none, false, false, false⟩
  , /- Pod.PlausState -/ ⟨0x28, .record [.enum8, .u8, .u32, .u32, .stamp, .u32], 1, none, .none, .each 0, .any, none, false, false, false⟩
  , /- Pod.SliceOffset -/ ⟨0x30, .array 8 .i16, 1, none, .none, .each 0, .any, none, false, false, false⟩
  , /- Pod.SliceGain -/ ⟨0x31, .array 8 .i16, 1, none, .none, .each 0, .any, none, false, false, false⟩
  , /- Pod.SliceSkew -/ ⟨0x32, .array 8 .i16, 1, none, .none, .each 0, .any, none, false, false, false⟩
  , /- Pod.SliceResidual -/ ⟨0x33, .array 2 .i16, 1, none, .none, .each 0, .any, none, false, false, false⟩
  , /- Pod.SliceSolveCount -/ ⟨0x34, .simple .u32, 1, none, .none, .each 0, .any, none, false, false, false⟩
  , /- Pod.SliceControl -/ ⟨0x36, .simple .enum8, 1, some 2, .hot, .each 0x01, .range 0 2, none, false, false, false⟩
  , /- Pod.RefCheck -/ ⟨0x38, .record [.uq230, .uq230, .u8, .i32, .stamp, .u8], 1, none, .none, .each 0, .any, none, false, false, false⟩
  , /- Pod.FilterSel -/ ⟨0x40, .array 32 .enum8, 1, some 2, .warm, .each 0x00, .range 0 7, none, false, false, false⟩
  , /- Pod.PhaseDelay -/ ⟨0x41, .array 32 .u16, 1, some 2, .warm, .each 0, .range 0 4095, none, false, false, false⟩
  , /- Pod.AvgLength -/ ⟨0x42, .array 32 .u16, 1, some 2, .warm, .each 1, .range 1 1024, none, false, false, false⟩ ]

def podObjects1 : List Obj :=
  [ /- Pod.PipLength -/ ⟨0x43, .array 32 .u8, 1, some 2, .warm, .each 1, .range 1 64, none, false, false, false⟩
  , /- Pod.ChanValid -/ ⟨0x44, .simple .bits32, 0, none, .none, .each 0, .any, none, true, false, false⟩
  , /- Pod.ChanSelect -/ ⟨0x45, .simple .u8, 1, some 1, .hot, .each 0, .range 0 31, none, false, false, false⟩
  , /- Pod.ChanSample -/ ⟨0x46, .record [.i32, .stamp, .bool, .u32, .i32, .stamp, .bits16, .i32], 1, none, .none, .each 0, .any, none, true, false, false⟩
  , /- Pod.FilterSnap -/ ⟨0x47, .record [.i64, .i64, .i64, .i64, .i64, .i64, .i64, .i64, .u32, .i64, .stamp], 1, none, .none, .each 0, .any, none, false, false, false⟩
  , /- Pod.GroupDelay -/ ⟨0x48, .array 32 .u32, 1, none, .none, .each 0, .any, none, false, false, false⟩
  , /- Pod.CalRatio -/ ⟨0x50, .array 7 .u32, 1, some 3, .warm, .list [100000, 100000, 100000, 100000, 500000, 500000, 500000], .range 1 4294967295, none, false, false, false⟩
  , /- Pod.CalGain -/ ⟨0x51, .array 7 .uq230, 1, some 3, .warm, .each 0x40000000, .range 536870912 2147483647, none, false, false, false⟩
  , /- Pod.CalOffset -/ ⟨0x52, .array 7 .i32, 1, some 3, .warm, .each 0, .signed 41943, none, false, false, false⟩
  , /- Pod.CalPhase -/ ⟨0x53, .array 7 .u16, 1, some 3, .warm, .each 0, .range 0 4095, none, false, false, false⟩
  , /- Pod.CalLabel -/ ⟨0x54, .simple (.octs 16), 1, some 3, .warm, .each 0, .any, none, false, false, false⟩
  , /- Pod.CalCrc -/ ⟨0x55, .simple .u32, 0, none, .none, .each 0, .any, none, true, false, false⟩
  , /- Pod.Urms -/ ⟨0x60, .array 3 .u32, 0, none, .none, .each 0, .any, none, true, false, false⟩
  , /- Pod.Irms -/ ⟨0x61, .array 4 .u32, 0, none, .none, .each 0, .any, none, true, false, false⟩
  , /- Pod.UrmsHalf -/ ⟨0x62, .array 3 .u32, 0, none, .none, .each 0, .any, none, true, false, false⟩
  , /- Pod.IrmsHalf -/ ⟨0x63, .array 4 .u32, 0, none, .none, .each 0, .any, none, true, false, false⟩
  , /- Pod.P -/ ⟨0x64, .array 4 .i32, 0, none, .none, .each 0, .any, none, true, false, false⟩
  , /- Pod.P1 -/ ⟨0x65, .array 4 .i32, 0, none, .none, .each 0, .any, none, true, false, false⟩
  , /- Pod.Q1 -/ ⟨0x66, .array 4 .i32, 0, none, .none, .each 0, .any, none, true, false, false⟩
  , /- Pod.S -/ ⟨0x67, .array 4 .u32, 0, none, .none, .each 0, .any, none, true, false, false⟩
  , /- Pod.PF -/ ⟨0x68, .array 4 .q131, 0, none, .none, .each 0, .any, none, true, false, false⟩
  , /- Pod.Freq -/ ⟨0x69, .simple .u32, 0, none, .none, .each 0, .any, none, true, false, false⟩
  , /- Pod.FreqSource -/ ⟨0x6A, .simple .enum8, 0, none, .none, .each 0, .any, none, true, false, false⟩
  , /- Pod.WindowInfo -/ ⟨0x6B, .record [.u32, .stamp, .stamp, .u8, .bits16, .u32, .u32, .u32], 0, none, .none, .each 0, .any, none, true, false, false⟩
  , /- Pod.HalfInfo -/ ⟨0x6C, .record [.u32, .stamp, .enum8, .bits16], 0, none, .none, .each 0, .any, none, true, false, false⟩
  , /- Pod.CoarseEnergy -/ ⟨0x6D, .simple .energy, 0, none, .none, .each 0, .any, none, false, false, false⟩
  , /- Pod.UnitLoad -/ ⟨0x6E, .record [.u8, .u8, .u8, .u8], 1, none, .none, .each 0, .any, none, false, false, false⟩
  , /- Pod.Wiring -/ ⟨0x70, .simple .enum8, 1, some 2, .cold, .each 0x00, .range 0 2, none, false, false, false⟩
  , /- Pod.WindowCycles -/ ⟨0x71, .simple .u8, 1, some 2, .hot, .each 10, .range 1 60, none, false, false, false⟩
  , /- Pod.NominalFreq -/ ⟨0x72, .simple .enum8, 1, some 2, .hot, .each 0x00, .range 0 1, none, false, false, false⟩
  , /- Pod.CreepLevel -/ ⟨0x73, .simple .u16, 1, some 2, .hot, .each 50, .any, none, false, false, false⟩
  , /- Pod.EnergyAPlus -/ ⟨0x80, .simple .energy, 0, none, .none, .each 0, .any, none, true, false, false⟩ ]

def podObjects2 : List Obj :=
  [ /- Pod.EnergyAPlus -/ ⟨0x81, .simple .energy, 0, none, .none, .each 0, .any, none, true, false, false⟩
  , /- Pod.EnergyAPlus -/ ⟨0x82, .simple .energy, 0, none, .none, .each 0, .any, none, true, false, false⟩
  , /- Pod.EnergyAPlus -/ ⟨0x83, .simple .energy, 0, none, .none, .each 0, .any, none, true, false, false⟩
  , /- Pod.EnergyAPlus -/ ⟨0x84, .simple .energy, 0, none, .none, .each 0, .any, none, true, false, false⟩
  , /- Pod.EnergyAPlus -/ ⟨0x85, .simple .energy, 0, none, .none, .each 0, .any, none, true, false, false⟩
  , /- Pod.EnergyAPlus -/ ⟨0x86, .simple .energy, 0, none, .none, .each 0, .any, none, true, false, false⟩
  , /- Pod.EnergyAPlus -/ ⟨0x87, .simple .energy, 0, none, .none, .each 0, .any, none, true, false, false⟩
  , /- Pod.EnergyAPlus -/ ⟨0x88, .simple .energy, 0, none, .none, .each 0, .any, none, true, false, false⟩
  , /- Pod.EnergyAPlus -/ ⟨0x89, .simple .energy, 0, none, .none, .each 0, .any, none, true, false, false⟩
  , /- Pod.EnergyAPlus -/ ⟨0x8A, .simple .energy, 0, none, .none, .each 0, .any, none, true, false, false⟩
  , /- Pod.EnergyAPlus -/ ⟨0x8B, .simple .energy, 0, none, .none, .each 0, .any, none, true, false, false⟩
  , /- Pod.EnergyAPlus -/ ⟨0x8C, .simple .energy, 0, none, .none, .each 0, .any, none, true, false, false⟩
  , /- Pod.EnergyAPlus -/ ⟨0x8D, .simple .energy, 0, none, .none, .each 0, .any, none, true, false, false⟩
  , /- Pod.EnergySet -/ ⟨0x8E, .record [.energy, .energy, .energy, .energy, .energy, .energy, .energy, .energy, .energy, .energy, .energy, .energy, .energy, .energy, .stamp], 0, none, .none, .each 0, .any, none, true, false, false⟩
  , /- Pod.HarmEnable -/ ⟨0x90, .simple .bits16, 1, some 2, .hot, .each 0x007F, .any, none, false, false, false⟩
  , /- Pod.HarmGrouping -/ ⟨0x91, .simple .enum8, 1, some 2, .hot, .each 0x00, .range 0 2, none, false, false, false⟩
  , /- Pod.HarmSelect -/ ⟨0x92, .simple .u8, 1, some 1, .hot, .each 0x0, .range 0 6, none, false, false, false⟩
  , /- Pod.HarmInfo -/ ⟨0x93, .record [.u32, .stamp, .stamp, .u8, .bits16, .bits16, .bits16, .u8, .stamp, .u8], 0, none, .none, .each 0, .any, none, false, false, false⟩
  , /- Pod.HarmMag -/ ⟨0x94, .array 63 .u32, 0, none, .none, .each 0, .any, none, false, true, false⟩
  , /- Pod.HarmPhase -/ ⟨0x95, .array 63 .i16, 0, none, .none, .each 0, .any, none, false, true, false⟩
  , /- Pod.Thd -/ ⟨0x96, .array 7 .u16, 0, none, .none, .each 0, .any, none, false, false, false⟩
  , /- Pod.PhasorInterval -/ ⟨0x97, .simple .enum8, 1, some 2, .hot, .each 0x01, .range 0 2, none, false, false, false⟩
  , /- Pod.Phasor -/ ⟨0x98, .record [.stamp, .enum8, .bits16, .u32, .u32, .u32, .u32, .u32, .u32, .u32, .u32, .i32, .i32, .i32, .i32, .i32, .i32, .i32], 0, none, .none, .each 0, .any, none, true, false, false⟩
  , /- Pod.EventEnable -/ ⟨0xA0, .simple .bits16, 1, some 2, .hot, .each 0x0207, .any, none, false, false, false⟩
  , /- Pod.DeclaredU -/ ⟨0xA1, .simple .u32, 1, some 2, .hot, .each 230000, .any, none, false, false, false⟩
  , /- Pod.VoltThresh -/ ⟨0xA2, .record [.u16, .u16, .u16, .u16], 1, some 2, .hot, .list [900, 1100, 50, 20], .any, none, false, false, false⟩
  , /- Pod.CurrThresh -/ ⟨0xA3, .record [.u32, .u32, .u32, .u16, .u32, .u16], 1, some 2, .hot, .list [100000, 200000, 500, 40, 1000, 20], .any, none, false, false, false⟩
  , /- Pod.FreqThresh -/ ⟨0xA4, .record [.u16, .u16], 1, some 2, .hot, .list [500, 50], .any, none, false, false, false⟩
  , /- Pod.ThdLimit -/ ⟨0xA5, .array 7 .u16, 1, some 2, .hot, .each 800, .any, none, false, false, false⟩
  , /- Pod.PresenceArm -/ ⟨0xA6, .simple .bool, 1, some 1, .hot, .each 0, .any, none, false, false, false⟩
  , /- Pod.EventActive -/ ⟨0xA7, .simple .bits16, 0, none, .none, .each 0, .any, none, true, false, false⟩
  , /- Pod.EventLast -/ ⟨0xA8, .record [.stamp, .enum8, .enum8, .u8, .bits16, .i32, .u32, .u32], 0, none, .none, .each 0, .any, none, true, false, false⟩ ]

def podObjects3 : List Obj :=
  [ /- Pod.EventQueueLevel -/ ⟨0xA9, .simple .u8, 1, none, .none, .each 0, .any, none, false, false, false⟩
  , /- Pod.IdleLevel -/ ⟨0xB0, .simple .u32, 1, some 2, .hot, .each 0, .range 0 10000000, none, false, false, false⟩
  , /- Pod.IdleTime -/ ⟨0xB1, .simple .u16, 1, some 2, .hot, .each 10, .range 1 3600, none, false, false, false⟩
  , /- Pod.SentinelInput -/ ⟨0xB2, .simple .enum8, 1, some 2, .hot, .each 0x0, .range 0 3, none, false, false, false⟩
  , /- Pod.SentinelThresh -/ ⟨0xB3, .simple .u16, 1, some 2, .hot, .each 2000, .range 200 20000, none, false, false, false⟩
  , /- Pod.DormantVolt -/ ⟨0xB4, .simple .u32, 1, some 2, .hot, .each 230000, .range 1000 1000000, none, false, false, false⟩
  , /- Pod.SentinelState -/ ⟨0xB5, .simple .enum8, 1, none, .none, .each 0, .any, none, false, false, false⟩
  , /- Pod.SentinelTicks -/ ⟨0xB6, .simple .u64, 1, none, .none, .each 0, .any, none, false, false, false⟩
  , /- Pod.DormantAck -/ ⟨0xB7, .simple .energy, 0, none, .none, .each 0, .any, none, false, false, false⟩
  , /- Pod.DormantPending -/ ⟨0xB8, .simple .energy, 0, none, .none, .each 0, .any, none, false, false, false⟩
  , /- Pod.DormantBound -/ ⟨0xB9, .simple .energy, 0, none, .none, .each 0, .any, none, false, false, false⟩
  , /- Pod.DozeInfo -/ ⟨0xBA, .record [.stamp, .enum8, .stamp, .stamp, .enum8, .u32, .u32, .u16, .bits16], 1, none, .none, .each 0, .any, none, false, false, false⟩
  , /- Pod.PlsSource -/ ⟨0xC0, .simple .enum8, 1, some 2, .warm, .each 0x00, .range 0 12, some 3, false, false, false⟩
  , /- Pod.PlsConstant -/ ⟨0xC1, .simple .u32, 1, some 2, .warm, .each 1000, .range 1 1000000, some 3, false, false, false⟩
  , /- Pod.PlsWidth -/ ⟨0xC2, .simple .u8, 1, some 2, .warm, .each 20, .range 2 80, some 3, false, false, false⟩
  , /- Pod.PlsMode -/ ⟨0xC3, .simple .enum8, 1, some 2, .cold, .each 0x00, .range 0 3, some 3, false, false, false⟩
  , /- Pod.PlsTest -/ ⟨0xC4, .simple .bool, 1, some 3, .hot, .each 0, .any, some 3, false, false, false⟩
  , /- Pod.PlsState -/ ⟨0xC5, .record [.u32, .u32, .bits16, .stamp, .u32], 1, none, .none, .each 0, .any, some 3, false, false, false⟩
  , /- Pod.PlsResidue -/ ⟨0xC6, .record [.enum8, .stamp, .enum8, .energy, .u32, .u32, .bits16], 1, none, .none, .each 0, .any, some 3, false, false, false⟩
  , /- Pod.SealState -/ ⟨0xC8, .simple .enum8, 0, none, .none, .each 0, .any, none, true, false, false⟩
  , /- Pod.SealInfo -/ ⟨0xC9, .record [.u32, .stamp, .stamp, .enum8, .u32, .u16, .u32, .u32], 1, none, .none, .each 0, .any, none, false, false, false⟩
  , /- Pod.SealTimeout -/ ⟨0xCA, .simple .u32, 1, some 3, .hot, .each 3600, .range 60 86400, none, false, false, false⟩
  , /- Pod.AuditList -/ ⟨0xCB, .array 8 .u16, 1, none, .none, .each 0, .any, none, false, false, true⟩
  , /- Pod counters, as listed under "Counters" -/ ⟨0xD0, .simple .u32, 1, none, .none, .each 0, .any, none, false, false, false⟩
  , /- Pod counters, as listed under "Counters" -/ ⟨0xD1, .simple .u32, 1, none, .none, .each 0, .any, none, false, false, false⟩
  , /- Pod counters, as listed under "Counters" -/ ⟨0xD2, .simple .u32, 1, none, .none, .each 0, .any, none, false, false, false⟩
  , /- Pod counters, as listed under "Counters" -/ ⟨0xD3, .simple .u32, 1, none, .none, .each 0, .any, none, false, false, false⟩
  , /- Pod counters, as listed under "Counters" -/ ⟨0xD4, .simple .u32, 1, none, .none, .each 0, .any, none, false, false, false⟩
  , /- Pod counters, as listed under "Counters" -/ ⟨0xD5, .simple .u32, 1, none, .none, .each 0, .any, none, false, false, false⟩
  , /- Pod counters, as listed under "Counters" -/ ⟨0xD6, .simple .u32, 1, none, .none, .each 0, .any, none, false, false, false⟩
  , /- Pod counters, as listed under "Counters" -/ ⟨0xD7, .simple .u32, 1, none, .none, .each 0, .any, none, false, false, false⟩
  , /- Pod counters, as listed under "Counters" -/ ⟨0xD8, .simple .u32, 1, none, .none, .each 0, .any, none, false, false, false⟩ ]

def podObjects4 : List Obj :=
  [ /- Pod counters, as listed under "Counters" -/ ⟨0xD9, .simple .u32, 1, none, .none, .each 0, .any, none, false, false, false⟩
  , /- Pod counters, as listed under "Counters" -/ ⟨0xDA, .simple .u32, 1, none, .none, .each 0, .any, none, false, false, false⟩
  , /- Pod counters, as listed under "Counters" -/ ⟨0xDB, .simple .u32, 1, none, .none, .each 0, .any, none, false, false, false⟩
  , /- Pod counters, as listed under "Counters" -/ ⟨0xDC, .simple .u32, 1, none, .none, .each 0, .any, none, false, false, false⟩
  , /- Pod counters, as listed under "Counters" -/ ⟨0xDD, .simple .u32, 1, none, .none, .each 0, .any, none, false, false, false⟩
  , /- Pod counters, as listed under "Counters" -/ ⟨0xDE, .simple .u32, 1, none, .none, .each 0, .any, none, false, false, false⟩
  , /- Pod counters, as listed under "Counters" -/ ⟨0xDF, .simple .u32, 1, none, .none, .each 0, .any, none, false, false, false⟩
  , /- Pod counters, as listed under "Counters" -/ ⟨0xE0, .simple .u32, 1, none, .none, .each 0, .any, none, false, false, false⟩
  , /- Pod counters, as listed under "Counters" -/ ⟨0xE1, .simple .u32, 1, none, .none, .each 0, .any, none, false, false, false⟩
  , /- Pod counters, as listed under "Counters" -/ ⟨0xE2, .simple .u32, 1, none, .none, .each 0, .any, none, false, false, false⟩
  , /- Pod counters, as listed under "Counters" -/ ⟨0xE3, .simple .u32, 1, none, .none, .each 0, .any, none, false, false, false⟩
  , /- Pod counters, as listed under "Counters" -/ ⟨0xE4, .simple .u32, 1, none, .none, .each 0, .any, none, false, false, false⟩
  , /- Pod.FaultState -/ ⟨0xF0, .record [.enum8, .bool, .u8, .u8, .stamp, .u8, .enum8, .u16, .bool], 1, none, .none, .each 0, .any, none, true, false, true⟩
  , /- Pod.FaultHistory -/ ⟨0xF1, .array 4 (.octs 24), 1, none, .none, .each 0, .any, none, false, false, true⟩
  , /- Pod.IsoState -/ ⟨0xF2, .record [.enum8, .u32, .stamp, .enum8, .u16], 1, none, .none, .each 0, .any, none, false, false, true⟩
  , /- Pod.SupplyCurrent -/ ⟨0xF3, .simple .u16, 1, none, .none, .each 0, .any, none, true, false, true⟩
  , /- Pod.LaneStatus -/ ⟨0xF4, .record [.enum8, .u32, .stamp, .u8, .u16], 1, none, .none, .each 0, .any, none, false, false, true⟩
  , /- Pod.MonitorCount -/ ⟨0xF5, .record [.u16, .u16, .u16, .stamp], 1, none, .none, .each 0, .any, none, false, false, true⟩
  , /- Pod.EccInfo -/ ⟨0xF6, .record [.u16, .stamp, .u16, .stamp], 1, none, .none, .each 0, .any, none, false, false, true⟩ ]

def podObjects : List Obj :=
  podObjects0 ++ podObjects1 ++ podObjects2 ++ podObjects3 ++ podObjects4


/-- Type code and wire length of a type (R51). -/
def Ty.code : Ty → Nat
  | .bool => 1 | .u8 => 2 | .u16 => 3 | .u32 => 4 | .u64 => 5 | .i16 => 6 | .i32 => 7 | .i64 => 8 | .q131 => 9 | .uq230 => 10
  | .stamp => 11 | .energy => 12 | .enum8 => 13 | .bits16 => 14 | .bits32 => 15 | .octs _ => 16 | .text _ => 17

def Ty.size : Ty → Nat
  | .bool => 1 | .u8 => 1 | .u16 => 2 | .u32 => 4 | .u64 => 8 | .i16 => 2 | .i32 => 4 | .i64 => 8 | .q131 => 4 | .uq230 => 4
  | .stamp => 8 | .energy => 12 | .enum8 => 1 | .bits16 => 2 | .bits32 => 4 | .octs n => n | .text n => n

/-- Number of the highest sub-index (R49); 0 for a simple object. -/
def Obj.subs (o : Obj) : Nat :=
  match o.shape with
  | .simple _ => 0
  | .array n _ => n
  | .record ts => ts.length

/-- The type at a sub-index that holds a value. -/
def Obj.tyAt (o : Obj) (sub : Nat) : Option Ty :=
  match o.shape with
  | .simple t => if sub = 0 then some t else none
  | .array n t => if sub = 0 then some .u8 else if sub ≤ n then some t else none
  | .record ts => if sub = 0 then some .u8 else ts[sub - 1]?

def Obj.isSimple (o : Obj) : Bool :=
  match o.shape with
  | .simple _ => true
  | _ => false

/-- The catalogue default at a sub-index (R59). -/
def Obj.defaultAt (o : Obj) (sub : Nat) : Nat :=
  match o.default with
  | .each v => v
  | .list vs => vs.getD (sub - 1) 0
  | .gamma => 1400 * ((sub - 1) % 64) / 63

/-- Lookup of a device object, and of a Pod object by local offset (R45, R648, R660). -/
def deviceObj (index : Nat) : Option Obj := deviceObjects.find? (·.index == index)

def podObj (loc : Nat) : Option Obj := podObjects.find? (·.index == loc)

/-- Keys of the stores: index and sub-index as one number. -/
def keyOf (index sub : Nat) : Nat := index * 256 + sub

def deviceDefault (key : Nat) : Nat :=
  match deviceObj (key / 256) with
  | some o => o.defaultAt (key % 256)
  | none => 0

def podDefault (key : Nat) : Nat :=
  match podObj (key / 256) with
  | some o => o.defaultAt (key % 256)
  | none => 0

end Sys2Proof.Machine
end

