-- ==== Sys2Proof/Machine/Checks.lean ====
section
/-! DEFINITION. Octet strings and the checks over them: CRC-32C (R9), CRC-16 (R683), SHA-256 and HMAC (R67, R620). -/

namespace Sys2Proof.Machine

/-- The n octets of a number, big-endian (R8), and the number that octets spell. -/
def beOctets : Nat → Nat → List Nat
  | 0, _ => []
  | n + 1, v => (v / 256 ^ n % 256) :: beOctets n v

def beValue (os : List Nat) : Nat := os.foldl (fun a o => a * 256 + o % 256) 0

/-- Two's complement of w bits: the number a raw value stands for, and the raw value of a number. -/
def signedOf (w v : Nat) : Int := if v % 2 ^ w < 2 ^ (w - 1) then (v % 2 ^ w : Nat) else (v % 2 ^ w : Nat) - (2 ^ w : Nat)

def rawOf (w : Nat) (i : Int) : Nat := (i % (2 ^ w : Nat)).toNat

def crcBit (poly : BitVec 32) (c : BitVec 32) : BitVec 32 := if c.getLsbD 0 then (c >>> 1) ^^^ poly else c >>> 1

def crcOctet (c : BitVec 32) (o : Nat) : BitVec 32 :=
  (List.range 8).foldl (fun c _ => crcBit 0x82F63B78#32 c) (c ^^^ BitVec.ofNat 32 (o % 256))

/-- CRC-32C, Castagnoli: reflected, initial value and final XOR all ones (R9). -/
def crc32c (os : List Nat) : Nat := ((os.foldl crcOctet 0xFFFFFFFF#32) ^^^ 0xFFFFFFFF#32).toNat

def crc16Octet (c : BitVec 16) (o : Nat) : BitVec 16 :=
  (List.range 8).foldl (fun c _ => if c.getLsbD 15 then (c <<< 1) ^^^ 0x1021#16 else c <<< 1) (c ^^^ BitVec.ofNat 16 (o % 256 * 256))

/-- CRC-16 of trace records: polynomial 0x1021, initial value 0xFFFF, not reflected (R683). -/
def crc16 (os : List Nat) : Nat := (os.foldl crc16Octet 0xFFFF#16).toNat

/-! ### SHA-256 and HMAC (R67, R620) -/

/-- The primes below 312: sixty-four of them. -/
def smallPrimes : List Nat := (List.range 312).filter (fun n => decide (2 ≤ n) && (List.range 18).all (fun d => d < 2 || n ≤ d || n % d != 0))

/-- The whole part of the k-th root of n, found bit by bit below 2^bits from a. -/
def wholeRoot (k n : Nat) : Nat → Nat → Nat
  | 0, a => a
  | bits + 1, a => wholeRoot k n bits (if (a + 2 ^ bits) ^ k ≤ n then a + 2 ^ bits else a)

/-- The first 32 bits behind the point of the k-th root of a prime: the constants of SHA-256, by the hash's own definition. -/
def rootWord (k prime : Nat) : BitVec 32 := BitVec.ofNat 32 (wholeRoot k (prime * 2 ^ (32 * k)) 40 0)

/-- The digest while a block passes: the two histories of four words that a step feeds, newest first, and the sixteen words of the
schedule that come next. -/
structure Digest where
  upper : List (BitVec 32)
  lower : List (BitVec 32)
  ahead : List (BitVec 32)

/-- The sum modulo 2 of a word's rotations. -/
def turned (x : BitVec 32) (by_ : List Nat) : BitVec 32 := by_.foldl (fun a n => a ^^^ x.rotateRight n) 0

/-- One of the sixty-four steps, with the cube-root constant of its prime. -/
def digestStep (d : Digest) (prime : Nat) : Digest :=
  let u (k : Nat) := d.upper.getD k 0
  let l (k : Nat) := d.lower.getD k 0
  let w (k : Nat) := d.ahead.getD k 0
  let chosen := l 2 ^^^ (l 0 &&& (l 1 ^^^ l 2))
  let common := (u 0 &&& u 1) ||| (u 2 &&& (u 0 ||| u 1))
  let feed := rootWord 3 prime + w 0 + chosen + turned (l 0) [25, 11, 6] + l 3
  let next := w 9 + w 0 + (turned (w 1) [18, 7] ^^^ (w 1 >>> 3)) + (turned (w 14) [19, 17] ^^^ (w 14 >>> 10))
  ⟨(turned (u 0) [22, 13, 2] + common + feed) :: d.upper.take 3, (u 3 + feed) :: d.lower.take 3, d.ahead.drop 1 ++ [next]⟩

/-- Block b of a padded message changes the eight words of the hash. -/
def digestBlock (m : List Nat) (h : List (BitVec 32)) (b : Nat) : List (BitVec 32) :=
  let words := (List.range 16).map (fun k => BitVec.ofNat 32 (beValue ((m.drop (64 * b + 4 * k)).take 4)))
  let d := smallPrimes.foldl digestStep ⟨h.take 4, h.drop 4, words⟩
  (h.zip (d.upper ++ d.lower)).map (fun x => x.2 + x.1)

/-- SHA-256 of octets, as 32 octets. -/
def sha256 (os : List Nat) : List Nat :=
  let blocks := (os.length + 72) / 64
  let m := os ++ 0x80 :: List.replicate (64 * blocks - 9 - os.length) 0 ++ beOctets 8 (8 * os.length)
  ((List.range blocks).foldl (digestBlock m) ((smallPrimes.take 8).map (rootWord 2))).flatMap (fun w => beOctets 4 w.toNat)

/-- A key as a block, each octet changed by the pad. -/
def keyBlock (key : List Nat) (pad : Nat) : List Nat := (List.range 64).map (fun k => key.getD k 0 ^^^ pad)

/-- HMAC-SHA-256 with a key of at most 64 octets (R620). -/
def hmac256 (key msg : List Nat) : List Nat := sha256 (keyBlock key 0x5C ++ sha256 (keyBlock key 0x36 ++ msg))

/-- The fingerprint of a level's key: octets 0-3 of SHA-256 over the level code and the key; 0 when never written (R67). -/
def fingerprint (level : Nat) (key : Option Nat) : Nat :=
  match key with
  | none => 0
  | some k => beValue ((sha256 (level :: beOctets 16 k)).take 4)

end Sys2Proof.Machine
end

