-- ==== Sys2Proof/Machine/Ops.lean ====
section
/-! DEFINITION. The named operations over the state: sparse stores, values in effect, counters, free values, the trace
queue, the log queue, the EVENT queue, changes of chip and Pod state, and the derived readings of status. -/

namespace Sys2Proof.Machine

/-! ### Arithmetic -/

/-- The nearest integer to n / d, ties to even (R295, R357). -/
def roundTies (n : Int) (d : Nat) : Int :=
  let q := n / d
  let r := n % d
  if 2 * r < d then q else if 2 * r > d then q + 1 else if q % 2 = 0 then q else q + 1

/-- n / d rounded to one of its two neighbours, the spec not saying which (log 6). -/
def roundOpen (n : Int) (d : Nat) : Int :=
  if n % d = 0 then n / d else if Config.roundUp n d then n / d + 1 else n / d

def clampInt (lo hi v : Int) : Int := if v < lo then lo else if hi < v then hi else v

/-- The nearest integer to the square root of n / d (R348, R355). -/
def rootNearest (n d : Nat) : Nat := if d = 0 then 0 else (Nat.sqrt (4 * n / d) + 1) / 2

def wrap32 (n : Nat) : Nat := n % 4294967296

def bit (v k : Nat) : Bool := v.testBit k

def setBit (v k : Nat) : Nat := if v.testBit k then v else v + 2 ^ k

def clearBit (v k : Nat) : Nat := if v.testBit k then v - 2 ^ k else v

def putBit (v k : Nat) (b : Bool) : Nat := if b then setBit v k else clearBit v k

def b2n (b : Bool) : Nat := if b then 1 else 0

def bump {n : Nat} (v : Vector Nat n) (k : Nat) (by_ : Nat := 1) : Vector Nat n := v.setIfInBounds k (wrap32 (v.getD k 0 + by_))

def putAt {α : Type} {n : Nat} (v : Vector α n) (k : Nat) (x : α) : Vector α n := v.setIfInBounds k x

/-! ### Sparse stores -/

/-- The value at a key: the entry's, or what an unlisted key reads as. -/
def storeGet (dflt : Nat → Nat) (st : Store) (k : Nat) : Nat :=
  match st with
  | [] => dflt k
  | (a, b) :: r => if a = k then b else storeGet dflt r k

def storeInsert (k v : Nat) : Store → Store
  | [] => [(k, v)]
  | (a, b) :: r => if k < a then (k, v) :: (a, b) :: r else if k = a then (k, v) :: r else (a, b) :: storeInsert k v r

def storeErase (k : Nat) (st : Store) : Store := st.filter (fun e => e.1 != k)

/-- A write keeps the canonical form: writing what an unlisted key reads as removes the entry. -/
def storePut (dflt : Nat → Nat) (st : Store) (k v : Nat) : Store :=
  if v = dflt k then storeErase k st else storeInsert k v st

/-- The canonical form: keys strictly rising, no entry equal to what an unlisted key reads as. -/
def storeWf (dflt : Nat → Nat) (st : Store) : Bool :=
  decide (st.Pairwise (fun a b => a.1 < b.1)) && st.all (fun e => e.2 != dflt e.1)

def storePutAll (dflt : Nat → Nat) (st : Store) (es : List (Nat × Nat)) : Store :=
  es.foldl (fun a e => storePut dflt a e.1 e.2) st

/-- What an unlisted half-row of the frame buffer reads as: zero (R544). -/
def blackRow (_ : Nat) : Nat := 0

/-! ### Values in effect and staged values -/

/-- The value in effect of a device object (R63). -/
def devVal (s : State) (index sub : Nat) : Nat := storeGet deviceDefault s.dict.values (keyOf index sub)

/-- The value in effect of a Pod object, by local offset. -/
def Pod.val (d : Pod) (loc sub : Nat) : Nat := storeGet podDefault d.values (keyOf loc sub)

/-- The staged value, or the value in effect while nothing is staged (R64). -/
def stagedGet (es : List (Nat × Nat)) (k inEffect : Nat) : Nat :=
  match es.find? (fun e => e.1 == k) with
  | some e => e.2
  | none => inEffect

def devStaged (s : State) (index sub : Nat) : Nat := stagedGet s.dict.staged (keyOf index sub) (devVal s index sub)

def Pod.stagedVal (d : Pod) (loc sub : Nat) : Nat := stagedGet d.staged (keyOf loc sub) (d.val loc sub)

def podAt (s : State) (p : Nat) : Pod := s.pods.getD p .reset

def modPod (p : Nat) (f : Pod → Pod) (s : State) : State := { s with pods := putAt s.pods p (f (podAt s p)) }

def podList : List Nat := List.range 64

def onPods (f : Nat → State → State) (s : State) : State := podList.foldl (fun s p => f p s) s

def setDev (index sub v : Nat) (s : State) : State :=
  { s with dict := { s.dict with values := storePut deviceDefault s.dict.values (keyOf index sub) v } }

def Pod.setVal (d : Pod) (loc sub v : Nat) : Pod := { d with values := storePut podDefault d.values (keyOf loc sub) v }

def sampling (m : PodMode) : Bool := m == .waking || m == .run || m == .lean


/-! ### Codes of states -/

def ChipState.code : ChipState → Nat
  | .unpowered => 0xFF | .boot => 0 | .active => 1 | .standby => 2 | .hold => 3 | .safe => 4

def PodMode.code : PodMode → Nat
  | .stopped => 0 | .doze => 1 | .waking => 2 | .run => 3 | .lean => 4 | .fault => 5

def OscCode.code : OscCode → Nat
  | .off => 0 | .qualifying => 1 | .qualified => 2 | .failed => 3

def MuxCode.code : MuxCode → Nat
  | .off => 0 | .primary => 1 | .alternate => 2 | .switching => 3 | .rescueWait => 4 | .rescueRelease => 5

def SentinelCode.code : SentinelCode → Nat
  | .off => 0 | .arming => 1 | .armed => 2 | .tripped => 3 | .pending => 4

def SealCode.code : SealCode → Nat
  | .closed => 0 | .opened => 1 | .closing => 2

def LinkCode.code : LinkCode → Nat
  | .off => 0 | .wakeListen => 1 | .joining => 2 | .follower => 3 | .coordinator => 4 | .csma => 5 | .fallback => 6 | .silent => 7
  | .listenOnly => 8

def ResetKind.code : ResetKind → Nat
  | .powerOn => 1 | .holdRestart => 2 | .pin => 3 | .gezor => 4 | .restore => 5 | .backstop => 6

def FaultClass.code : FaultClass → Nat
  | .clk => 1 | .pwr => 2 | .shell => 3 | .link => 4 | .disp => 5 | .time => 6 | .pod => 7 | .guard => 8

/-- A BOOT phase has ended. -/
def booted (s : State) (k : Nat) : Bool := s.chip.phases.contains k

/-! ### Free values -/

/-- Takes the next free value (log 5). -/
def takeFree (s : State) : Nat × State := (Config.freeWord s.fresh, { s with fresh := s.fresh + 1 })

/-! ### Clocks and time -/

def oscAt (s : State) (k : Nat) : Osc := s.clocks.oscs.getD k ⟨.off, 0, false, 0, false⟩

def muxAt (s : State) (k : Nat) : Mux := s.clocks.muxes.getD k ⟨.off, false, false, 0, false, 0⟩

def qualified (s : State) (k : Nat) : Bool := (oscAt s k).code == .qualified

/-- Hub muxes as numbers 0-5 in the order of R154; a POD mux has none. -/
def muxNumber : MuxName → Option Nat
  | .husk => some 0 | .core => some 1 | .spineRef => some 2 | .ampix => some 3 | .strip => some 4 | .trace => some 5 | .pod _ => none

/-- A mux holds its domain low (R154). -/
def MuxCode.holds (c : MuxCode) : Bool := c == .switching || c == .rescueWait || c == .rescueRelease

/-- A mux lets its domain run (R154). -/
def MuxCode.runs (c : MuxCode) : Bool := c == .primary || c == .alternate

/-- HUSK has a clock: its mux rests on a source, and no rescue freezes it (R154, R165). -/
def huskRuns (s : State) : Bool := (muxAt s 0).code.runs && !s.time.huskFrozen

/-- CORE has a clock (R154, R162). -/
def coreRuns (s : State) : Bool := (muxAt s 1).code.runs

/-- The hub mux of a gate bit's domain (R92, R152): Pane AMPIX, Strip STRIP, trace TRACE, autorender HUSK, streams and the
crack probe CORE; the Pulse gates sit in the Pods. -/
def gateMux (k : Nat) : Option Nat :=
  if k = 0 then some 3 else if k = 1 then some 4 else if k = 2 then some 5 else if k = 4 then some 0
  else if k = 5 ∨ k = 6 then some 1 else none

/-- A gate lets its block run: as `Dev.GateEnable` says (R92), but while a mux holds the gate's domain low it stays as it
stood when the hold began (R175). -/
def gateOn (s : State) (k : Nat) : Bool :=
  let held := match gateMux k with
    | some m => (muxAt s m).code.holds
    | none => false
  if held then bit s.obs.gates k else bit (devVal s 0x2602 0) k

/-- The Pulse gate of a Pod: it closes at the end of the pulse in progress (R175). -/
def pulseGate (s : State) (p : Nat) : Bool := gateOn s 3 || (podAt s p).pulse.driving

/-- A block is gated for an access: where it covers a Pod's pulse registers, by that Pod's own gate (R175). -/
def blockOpen (s : State) (k : Nat) (pod : Option Nat) : Bool :=
  match pod with
  | some p => if k = 3 then pulseGate s p else gateOn s k
  | none => gateOn s k

/-- `Dev.GateMap` (R92, R175): bit 3 stands while any Pod's Pulse gate is open. -/
def gateMap (s : State) : Nat :=
  (List.range 7).foldl (fun a k => putBit a k (if k = 3 then podList.any (pulseGate s) else gateOn s k)) 0

/-- HUSK keeps STAMP (R184). -/
def huskKept (s : State) : Bool := !s.clocks.spineLocked

/-- A TIME frame from the master was accepted within the last 2 s (R148). -/
def timeFresh (s : State) : Bool :=
  match s.time.lastTime with
  | some t => s.time.elapsed ≤ t + 131072000
  | none => false

/-- HUSK runs on a qualified LFXO. -/
def huskOnLfxo (s : State) : Bool := (muxAt s 0).code == .primary && qualified s 0

/-- `Clk.SpineState` (R148). -/
def spineState (s : State) : Nat :=
  if !s.clocks.spineOn then 0 else if !s.clocks.spineLocked then 1
  else if timeFresh s then 4 else if s.clocks.brc then 3
  else if s.clocks.spineHfrc then 6
  else if s.clocks.disciplined then 5 else 2

/-- Whether TIME is at L3 of Guard, with its frames frozen (R523). -/
def contained (s : State) (k : Nat) : Bool := ((s.guard.insts.getD k ⟨[], none, 0, 0⟩).contain).isSome

/-- `Time.Quality` (R182, R523). -/
def timeQuality (s : State) : Nat :=
  if !s.time.stepped then 0 else if huskKept s then 5 else if s.clocks.spineHfrc then 4
  else if spineState s == 4 && !contained s 5 then 1 else if s.clocks.brc then 2 else 3

/-! ### Trace port (R685-R690) -/

/-- Records are generated while the block is enabled and the chip is in BOOT after B5, ACTIVE, SAFE or HOLD (R690). -/
def traceOn (s : State) : Bool :=
  gateOn s 2 && (s.chip.state == .active || s.chip.state == .safe || s.chip.state == .hold || (s.chip.state == .boot && booted s 5))

/-- A record enters the queue of 64, or drops under R688. -/
def traceAdd (kind stamp : Nat) (payload : List Nat) (s : State) : State :=
  if traceOn s && bit (devVal s 0x8100 0) kind then
    let n := s.obs.queue.length
    if 64 ≤ n ∨ (56 ≤ n ∧ kind ≠ 1) then
      { s with obs := { s.obs with
          lost := wrap32 (s.obs.lost + 1), lostStamp := stamp, dropped := min 4294967295 (s.obs.dropped + 1),
          dropStamp := if s.obs.dropped = 0 then stamp else s.obs.dropStamp } }
    else { s with obs := { s.obs with queue := s.obs.queue ++ [⟨kind, stamp, payload⟩] } }
  else s

/-- A CLOCK record: object, Pod or 255, states before and after, cause. -/
def traceClock (obj pod before after cause : Nat) (s : State) : State :=
  if before = after then s else traceAdd 2 s.time.stamp [obj, pod, before, after, cause, 0] s

def hubCount (k : Nat) (s : State) : State := { s with obs := { s.obs with hub := bump s.obs.hub k } }

/-! ### Black-box log queue (R495) -/

def logRecOf (s : State) (kind inst detail : Nat) (payload : List Nat) : LogRec :=
  ⟨0, kind, inst, detail, s.time.stamp, (payload ++ List.replicate 16 0).take 16, false⟩

/-- A general append: through the queue of 16, with LOG-LOSS in the first place free after drops. -/
def logAdd (kind inst detail : Nat) (payload : List Nat) (s : State) : State :=
  let r := logRecOf s kind inst detail payload
  let sh := s.shell
  let drop (q : List LogRec) (n : Nat) : State :=
    hubCount 7 { s with shell := { sh with queue := q, drops := n, lostSinceBoot := wrap32 (sh.lostSinceBoot + 1) } }
  if 16 ≤ sh.queue.length then drop sh.queue (sh.drops + 1)
  else if sh.drops = 0 then { s with shell := { sh with queue := sh.queue ++ [r] } }
  else
    let q := sh.queue ++ [logRecOf s 0x0E 0xFF (min 65535 sh.drops) []]
    if 16 ≤ q.length then drop q 1
    else { s with shell := { sh with queue := q ++ [r], drops := 0 } }

/-! ### EVENT records (R629) -/

/-- An event subscription asks for the records of a Pod. -/
def podEventWanted (s : State) (p : Nat) : Bool :=
  s.engine.subs.toList.any (fun x => x.active && x.body.kind == 1 && x.body.mask.getLsbD p)

/-- A record enters the hub queue of 64, a Pod record only where a subscription asks for it: a Pod record drops when the
queue is full, a Guard record displaces the oldest Pod record. -/
def evAdd (r : EvRec) (s : State) : State :=
  let e := s.engine
  if r.kind = 2 ∧ podEventWanted s r.pod = false then s
  else if e.events.length < 64 then { s with engine := { e with events := e.events ++ [r] } }
  else
    let lost := wrap32 (e.evDropped + 1)
    if r.kind = 1 ∧ e.events.any (fun x => x.kind == 2) then
      { s with engine := { e with events := (e.events.eraseP (fun x => x.kind == 2)) ++ [r], evDropped := lost } }
    else { s with engine := { e with evDropped := lost } }

/-! ### Governor triggers (R117) -/

/-- A trigger of the governor falls due. -/
def trigger (code pod : Nat) (s : State) : State :=
  { s with power := { s.power with triggers := s.power.triggers ++ [⟨code, pod, s.time.stamp⟩] } }

/-! ### Changes of state -/

/-- `Pod.State` changes (R36): `Pod.StateInfo` in the same step (R667), its trace record, its POD mux off where it stops
sampling (R154), the end of WAKING's coarse booking (R358), the governor triggered where it leaves WAKING, RUN or LEAN (R117). -/
def setMode (p : Nat) (m : PodMode) (cause : Nat) (s : State) : State :=
  let d := podAt s p
  if d.mode = m then s
  else
    let off := !sampling m && sampling d.mode
    let s1 := modPod p (fun d => { d with
      mode := m, prevMode := d.mode.code, changeStamp := s.time.stamp, changeCause := cause, changes := wrap32 (d.changes + 1),
      meter := if d.mode == .waking then { d.meter with coarseUntil := d.marker } else d.meter,
      mux := if sampling m then d.mux else .off, rcCount := if sampling m then d.rcCount else 0,
      rcByCommand := if sampling m then d.rcByCommand else false }) s
    let s2 := traceAdd 6 s.time.stamp [p, d.mode.code, m.code, cause, 0, 0] s1
    let s3 := if off then traceClock 0x10 p d.mux.code 0 0 s2 else s2
    if off then trigger 3 p s3 else s3

def setMux (k : Nat) (m : Mux) (cause : Nat) (s : State) : State :=
  let old := muxAt s k
  let s := if m.code.holds && !old.code.holds then { s with obs := { s.obs with gates := gateMap s } } else s
  traceClock (k + 1) 0xFF old.code.code m.code.code cause { s with clocks := { s.clocks with muxes := putAt s.clocks.muxes k m } }

def setOsc (k : Nat) (o : Osc) (cause : Nat) (s : State) : State :=
  let old := oscAt s k
  traceClock (0x21 + k) 0xFF old.code.code o.code.code cause { s with clocks := { s.clocks with oscs := putAt s.clocks.oscs k o } }

def setPodMux (p : Nat) (c : MuxCode) (cause : Nat) (s : State) : State :=
  let old := (podAt s p).mux
  traceClock 0x10 p old.code c.code cause (modPod p (fun d => { d with mux := c }) s)

/-- A command object as it reads back (R65): code, argument, completion. -/
def commandWord (code arg completion : Nat) : Nat := completion * 16777216 + arg % 256 * 65536 + code % 65536

def setCompletion (word completion : Nat) : Nat := completion * 16777216 + word % 16777216

def podCommand (p code arg completion : Nat) (s : State) : State :=
  modPod p (fun d => { d with command := commandWord code arg completion }) s

def podComplete (p completion : Nat) (s : State) : State :=
  modPod p (fun d => { d with command := setCompletion d.command completion }) s

def podCount (p k : Nat) (by_ : Nat) (s : State) : State := modPod p (fun d => { d with counters := bump d.counters k by_ }) s

/-- The rails that serve the chip are in regulation (R111, R112). -/
def railsGood (s : State) : Bool := s.power.rails % 16 == 15

/-- `PWR_GOOD` (R112). -/
def pwrGood (s : State) : Bool :=
  railsGood s && !s.power.warning &&
    (s.chip.state == .boot || s.chip.state == .active || s.chip.state == .standby || s.chip.state == .safe)

def instAt (s : State) (k : Nat) : Inst := s.guard.insts.getD k ⟨[], none, 0, 0⟩

def Inst.unacked (i : Inst) : Bool := i.occs.any (fun o => decide (1 ≤ o.level) && !o.acked)

/-- The level of an instance: the highest of its open occurrences, none without one (R505). -/
def Inst.level (i : Inst) : Option Nat :=
  i.occs.foldl (fun a o => some (max (a.getD 0) o.level)) none

def levelCode (l : Option Nat) : Nat := l.getD 0xFF

/-- `EVENT_N` is asserted (R511); without power it is in high impedance (R204). -/
def eventAsserted (s : State) : Bool :=
  s.chip.state != .unpowered && (s.guard.insts.toList.any Inst.unacked || s.chip.state == .safe || s.guard.pendingSafe || s.chip.tstHeld || s.guard.backstop)

/-- The nominal ticks of a number of milliseconds, and the microseconds of ticks. -/
def msTicks (n : Nat) : Tick := n * 65536

def microsOf (t : Tick) : Nat := t * 1000000 / 65536000

end Sys2Proof.Machine
end

