-- ==== Sys2Proof/Machine/Operands.lean ====
section
/-! DEFINITION. The operands that items write: the layout of a sequence (R266-R291), the metering channels (R269), and
the checks that a written value passes (R52, R53 and each object's own rule). -/

namespace Sys2Proof.Machine

/-! ### Item statuses (R610) -/

def stOk : Nat := 0x00
def stNoObject : Nat := 0x01
def stDenied : Nat := 0x02
def stReadOnly : Nat := 0x03
def stBadType : Nat := 0x04
def stBadValue : Nat := 0x05
def stSealed : Nat := 0x06
def stNeedsStop : Nat := 0x07
def stWrongState : Nat := 0x08
def stPodUnavailable : Nat := 0x09
def stCommitPartial : Nat := 0x0A
def stBusy : Nat := 0x0B
def stNoBudget : Nat := 0x0C
def stAuditFull : Nat := 0x0D
def stTooBig : Nat := 0x0E

/-! ### Sequence entries (R266) -/

def entryInput (v : Nat) : Nat := v % 16
def entryGain (v : Nat) : Nat := v / 16 % 8
def entryMark (v : Nat) : Bool := v.testBit 7
def entryAcq (v : Nat) : Nat := v / 256 % 16
def entryUsed (v : Nat) : Bool := entryAcq v != 0

def isCurrent (input : Nat) : Bool := decide (input ≤ 3)
def isVoltage (input : Nat) : Bool := decide (4 ≤ input ∧ input ≤ 6)

/-- Input and gain of an entry keep R219 and R227. -/
def entryGainOk (onB : Bool) (v : Nat) : Bool :=
  let i := entryInput v
  let g := entryGain v
  if isCurrent i then g != 6 && !(onB && g == 7)
  else if isVoltage i then decide (g ≤ 1)
  else (i == 8 || i == 9 || i == 10) && g == 0

/-- An entry's own checks (R267). -/
def entryOk (onB : Bool) (v : Nat) : Bool :=
  if entryAcq v = 1 then false
  else if entryUsed v then entryGainOk onB v
  else v % 256 == 0

/-- The shared entry: the lowest converter A entry that names the plausibility channel, in PLAUSIBILITY (R253). -/
def sharedIndex (a : List Nat) (mode chan : Nat) : Option Nat :=
  if mode = 2 then (List.range 16).find? (fun k => entryUsed (a.getD k 0) && entryInput (a.getD k 0) == chan) else none

/-- Start of converter A entry k in the walk of R271, R272. -/
def startA (a : List Nat) (k : Nat) : Nat :=
  ((List.range k).filter (fun j => j % 4 == k % 4 && entryUsed (a.getD j 0))).foldl (fun t j => t + entryAcq (a.getD j 0) + 17) 0

def instantA (a : List Nat) (k : Nat) : Nat := startA a k + entryAcq (a.getD k 0)

/-- The walk of one converter B group (R272, R273): entry, start, acquisition; none where it does not fit. -/
def walkB (a b : List Nat) (shared : Option Nat) : List Nat → Nat → Option (List (Nat × Nat × Nat))
  | [], t => if t > 128 then none else some []
  | k :: ks, t =>
    if shared = some k then
      if t > startA a k then none
      else (walkB a b shared ks (startA a k + entryAcq (a.getD k 0) + 17)).map ((k, startA a k, entryAcq (a.getD k 0)) :: ·)
    else if entryUsed (b.getD k 0) then
      (walkB a b shared ks (t + entryAcq (b.getD k 0) + 17)).map ((k, t, entryAcq (b.getD k 0)) :: ·)
    else walkB a b shared ks t

def groupIndices (g : Nat) : List Nat := [g, g + 4, g + 8, g + 12]

def layoutB (a b : List Nat) (shared : Option Nat) : Option (List (Nat × Nat × Nat)) :=
  (List.range 4).foldl (fun acc g => acc.bind (fun l => (walkB a b shared (groupIndices g) 0).map (l ++ ·))) (some [])

/-- The sequences in effect and as staged. -/
def Pod.seqA (d : Pod) : List Nat := (List.range 16).map (fun k => d.val 0x20 (k + 1) % 4096)
def Pod.seqB (d : Pod) : List Nat := (List.range 16).map (fun k => d.val 0x21 (k + 1) % 4096)

/-- The entries that LEAN keeps: the marked ones, then the lowest unmarked ones, 8 in all (R289). -/
def keptEntries (a : List Nat) : List Nat :=
  let used := (List.range 16).filter (fun k => entryUsed (a.getD k 0))
  let marked := used.filter (fun k => entryMark (a.getD k 0))
  let rest := used.filter (fun k => !entryMark (a.getD k 0))
  (marked ++ rest.take (8 - marked.length)).take (max 8 marked.length)

def activeA (d : Pod) (k : Nat) : Bool :=
  entryUsed (d.seqA.getD k 0) && (d.mode != .lean || (keptEntries d.seqA).contains k)

/-- The metering channel of an input (R269). -/
def meterChan (d : Pod) (input : Nat) : Option Nat :=
  (List.range 16).find? (fun k => activeA d k && entryInput (d.seqA.getD k 0) == input)

/-- Converter B is off (R252, R279). -/
def bOff (d : Pod) : Bool := d.val 0x24 0 == 0 || d.mode == .lean

def Pod.shared (d : Pod) : Option Nat := sharedIndex d.seqA (d.val 0x24 0) (d.val 0x25 0)

/-- Whether a converter B entry converts, its start and acquisition, in the layout in effect. -/
def bEntry (d : Pod) (k : Nat) : Option (Nat × Nat) :=
  if bOff d then none
  else ((layoutB d.seqA d.seqB d.shared).bind (fun l => l.find? (fun e => e.1 == k))).map (·.2)

/-- `Pod.SeqTiming` and `Pod.GroupLoad` of given sequences (R278, R279). -/
def seqTiming (a b : List Nat) (bIsOff : Bool) (shared : Option Nat) (kept : Option (List Nat)) (c : Nat) : Nat :=
  if c < 16 then
    if entryUsed (a.getD c 0) && (kept.elim true (·.contains c)) then instantA a c else 0xFF
  else if bIsOff then 0xFF
  else match (layoutB a b shared).bind (fun l => l.find? (fun e => e.1 == c - 16)) with
    | some e => e.2.1 + e.2.2
    | none => 0xFF

def groupLoad (a b : List Nat) (bIsOff : Bool) (shared : Option Nat) (kept : Option (List Nat)) (g : Nat) : Nat :=
  if g < 4 then
    ((groupIndices g).filter (fun k => entryUsed (a.getD k 0) && (kept.elim true (·.contains k)))).foldl
      (fun t k => t + entryAcq (a.getD k 0) + 17) 0
  else if bIsOff then 0
  else ((layoutB a b shared).getD []).foldl (fun t e => if e.1 % 4 = g - 4 then t + e.2.2 + 17 else t) 0

/-! ### Checks of a written value -/

/-- Reserved bits are ignored on input and stored as zero (R10, R266). -/
def maskReserved (pod : Bool) (index v : Nat) : Nat :=
  if pod then
    if index = 0x20 ∨ index = 0x21 then v % 4096
    else if index = 0x90 then v % 128
    else if index = 0xA0 then v % 2048
    else v
  else if index = 0x2602 then v % 128
  else if index = 0x2110 ∨ index = 0x2111 ∨ index = 0x2117 then v % 128
  else if index = 0x2424 then v % 64
  else if index = 0x2485 then v % 128 + v / 256 % 128 * 256 + v / 65536 % 4 * 65536
  else v

/-- TEXT: octets 0x20-0x7E, then zeros (R52). -/
def textOk : List Nat → Bool
  | [] => true
  | o :: os => if o = 0 then os.all (· == 0) else decide (0x20 ≤ o ∧ o ≤ 0x7E) && textOk os

/-- The checks of the type and of the catalogue range (R52). -/
def rangeOk (o : Obj) (t : Ty) (v : Nat) : Bool :=
  (match t with
   | .bool => decide (v ≤ 1)
   | .text n => textOk (beOctets n v)
   | _ => true) &&
  (match o.bounds with
   | .any => true
   | .range lo hi => decide (lo ≤ v ∧ v ≤ hi)
   | .signed lim => decide ((signedOf (8 * t.size) v).natAbs ≤ lim)
   | .oneOf vs => vs.contains v)

/-- Rogowski inputs and response F5 go together, on every used entry (R311). `kind`, `sel` read by sub-index. -/
def rogowskiOk (a b : List Nat) (kind sel : Nat → Nat) : Bool :=
  (List.range 32).all (fun c =>
    let v := if c < 16 then a.getD c 0 else b.getD (c - 16) 0
    if entryUsed v then
      let rog := isCurrent (entryInput v) && kind (entryInput v + 1) == 3
      (sel (c + 1) == 5) == rog
    else true)

/-- The whole phase delay of a channel stays in range (R297). -/
def delaysOk (a b : List Nat) (user cal : Nat → Nat) : Bool :=
  (List.range 32).all (fun c =>
    let v := if c < 16 then a.getD c 0 else b.getD (c - 16) 0
    let extra := if entryUsed v && decide (entryInput v ≤ 6) then cal (entryInput v + 1) else 0
    decide (user (c + 1) + extra ≤ 4095))

def sequenceOk (a b : List Nat) (mode chan : Nat) : Bool :=
  a.all (entryOk false) && b.all (entryOk true) &&
  decide ((a.filter (fun v => entryUsed v && entryMark v)).length ≤ 8) && a.any entryUsed &&
  (layoutB a b (sharedIndex a mode chan)).isSome

/-- The own checks of a Pod object's rule, on a reading of the values as they would stand after the write. -/
def podRuleOk (val : Nat → Nat → Nat) (loc : Nat) : Bool :=
  let a := (List.range 16).map (fun k => val 0x20 (k + 1) % 4096)
  let b := (List.range 16).map (fun k => val 0x21 (k + 1) % 4096)
  if loc = 0x10 then
    (List.range 7).all (fun i => if i < 4 then decide (val 0x10 (i + 1) ≤ 4) else [0, 0x10, 0x11].contains (val 0x10 (i + 1))) &&
    rogowskiOk a b (val 0x10) (val 0x40) && (let k := val 0x10 (val 0xB2 0 + 1); k != 0 && k != 3)
  else if loc = 0x12 then decide (val 0x12 1 ≤ val 0x12 2)
  else if loc = 0x20 ∨ loc = 0x21 then
    sequenceOk a b (val 0x24 0) (val 0x25 0) && rogowskiOk a b (val 0x10) (val 0x40) && delaysOk a b (val 0x41) (val 0x53)
  else if loc = 0x24 ∨ loc = 0x25 then
    (layoutB a b (sharedIndex a (val 0x24 0) (val 0x25 0))).isSome && (loc == 0x24 || isCurrent (val 0x25 0) || decide (val 0x26 0 ≤ 1))
  else if loc = 0x26 then isCurrent (val 0x25 0) || decide (val 0x26 0 ≤ 1)
  else if loc = 0x40 then rogowskiOk a b (val 0x10) (val 0x40)
  else if loc = 0x41 ∨ loc = 0x53 then delaysOk a b (val 0x41) (val 0x53)
  else if loc = 0xA2 then
    decide (val 0xA2 3 < val 0xA2 1 ∧ val 0xA2 1 < 1000 ∧ 1000 < val 0xA2 2 ∧ val 0xA2 2 ≤ 2000 ∧ 1 ≤ val 0xA2 4 ∧ val 0xA2 4 ≤ 100)
  else if loc = 0xA3 then decide (5 ≤ val 0xA3 4 ∧ val 0xA3 4 ≤ 95 ∧ 1 ≤ val 0xA3 6 ∧ val 0xA3 6 ≤ 500)
  else if loc = 0xA4 then decide (val 0xA4 2 < val 0xA4 1)
  else if loc = 0xB2 then (let k := val 0x10 (val 0xB2 0 + 1); k != 0 && k != 3)
  else true

/-- Own checks of a device object's rule. -/
def devRuleOk (val : Nat → Nat → Nat) (cursor index sub v : Nat) : Bool :=
  if index = 0x1108 then v / 2 ^ 40 % 2 == 1 && v != 0xFFFFFFFFFFFF
  else if index = 0x1109 then
    decide (0x0600 ≤ v) && !([0x0800, 0x0806, 0x8100, 0x86DD, 0x88A8].contains v)
  else if index = 0x2110 ∨ index = 0x2111 ∨ index = 0x2117 then decide (v % 16 ≤ 8)
  else if index = 0x2112 then (if sub = 1 then decide (5 ≤ v ∧ v ≤ 50) else decide (2 ≤ v ∧ v ≤ 24))
  else if index = 0x2113 then (if sub = 1 then decide (13 ≤ v ∧ v ≤ 50) else decide (6 ≤ v ∧ v ≤ 24))
  else if index = 0x2306 then sub != 8 || v == 0
  else if index = 0x2403 then
    decide (1600 ≤ val index 1 ∧ val index 1 ≤ 4095 ∧ 2 ≤ val index 2 ∧ val index 2 ≤ 16 ∧ 200 ≤ val index 3 ∧ val index 3 ≤ 1200 ∧
      10 ≤ val index 4 ∧ val index 4 ≤ 100 ∧ 4 * val index 4 + 3 * val index 3 + 20 ≤ val index 1)
  else if index = 0x2404 ∨ index = 0x2405 then
    (List.range 192).all (fun c =>
      let g := val 0x2405 (c + 1)
      decide (g + 100 ≤ val 0x2404 0 ∧ val 0x2404 0 + g ≤ 3200))
  else if index = 0x2407 then decide (cursor + (sub - 1) ≤ 127)
  else if index = 0x2410 ∨ index = 0x2411 then decide (val 0x2411 0 + 8 * val 0x2410 0 ≤ 64)
  else if index = 0x2485 then decide (v % 128 ≤ v / 256 % 128 ∧ v / 256 % 128 ≤ 95)
  else if index = 0x8100 then v % 2 == 0 && decide (v < 512)
  else true

/-- The value as it would stand after a write of v at (index, sub), over a reading of the others. -/
def afterWrite (val : Nat → Nat → Nat) (index sub v : Nat) (i j : Nat) : Nat := if i = index ∧ j = sub then v else val i j

/-- A value in effect, or the one of a HOT write that waits for the next boundary (R69). -/
def Pod.dueVal (d : Pod) (loc sub : Nat) : Nat := stagedGet d.hot.reverse (keyOf loc sub) (d.val loc sub)

/-- The staged copy as a check sees it. -/
def Pod.plannedVal (d : Pod) (loc sub : Nat) : Nat := stagedGet d.staged (keyOf loc sub) (d.dueVal loc sub)

/-- All value checks of a write to a Pod object: staged copy and values in effect, HOT writes that wait
among them (R52, R267, R297, R311, R411). "In effect" checks the written value beside the other values in effect (log 51). -/
def podValueOk (d : Pod) (o : Obj) (t : Ty) (sub v : Nat) : Bool :=
  rangeOk o t v &&
  podRuleOk (afterWrite d.plannedVal o.index sub v) o.index &&
  (if o.index = 0x10 ∨ o.index = 0xB2 then podRuleOk (afterWrite d.dueVal o.index sub v) o.index
   else if o.index = 0x53 ∨ o.index = 0x41 ∨ o.index = 0x40 then podRuleOk (afterWrite d.dueVal o.index sub v) o.index
   else if o.index = 0x20 ∨ o.index = 0x21 then
     let val := afterWrite d.dueVal o.index sub v
     rogowskiOk ((List.range 16).map (fun k => val 0x20 (k + 1) % 4096)) ((List.range 16).map (fun k => val 0x21 (k + 1) % 4096)) (val 0x10) (val 0x40)
   else true)

def devValueOk (s : State) (o : Obj) (t : Ty) (sub v : Nat) : Bool :=
  rangeOk o t v && devRuleOk (afterWrite (devStaged s) o.index sub v) (devVal s 0x2406 0) o.index sub v

end Sys2Proof.Machine
end

