-- ==== Sys2Proof/Machine/Chain.lean ====
section
/-! DEFINITION. One sequence frame of a Pod: conversion with ranges, slices, repair and holds (06), alignment (07), and the
chain of each channel from the phase delay to the fine output, the pip value and the fundamental path (08, R337). -/

namespace Sys2Proof.Machine

/-- A converted sample: raw code, normalised value, instant in POD cycles, skew in 1/64 ns, raw code clipped, displaced. -/
structure Conv where
  raw : Int
  x : Int
  at_ : Nat
  skew : Int
  clipped : Bool
  held : Bool
deriving DecidableEq, Repr

/-- What a channel delivers in a frame. -/
structure Delivery where
  fine : Option Sample
  pip : Option Sample
  fund : Option Phase
  resp : Option Sample
  saturations : Nat
deriving DecidableEq, Repr

/-! ### Conversion (R223-R250) -/

/-- The raw code of an entry: zero on an input whose front end is unused (R223). -/
def rawCode (d : Pod) (entry : Nat) (code : Int) : Int :=
  if decide (entryInput entry ≤ 6) && d.val 0x10 (entryInput entry + 1) == 0 then 0 else clampInt (-32768) 32767 code

/-- R228. -/
def isClipped (code : Int) : Bool := decide (32767 ≤ code ∨ code ≤ -32768)

/-- The slice offset and gain corrections, rounded and saturated at the code limits (R250 step 2). -/
def sliceFix (offset gain code : Int) : Int :=
  clampInt (-32768) 32767 (roundTies ((16 * code + offset) * (1048576 + gain)) 16777216)

def isAuto (entry : Nat) : Bool := entryGain entry == 7

def lowestGain (d : Pod) (entry : Nat) : Nat := if isAuto entry then d.val 0x12 1 else entryGain entry

/-- The gain code in use for converter A entry k. -/
def gainNow (d : Pod) (k : Nat) : Nat :=
  let e := d.seqA.getD k 0
  if isAuto e then (d.conv.ranges.getD k ⟨0, none, 0, 0⟩).gain else entryGain e

def convertWith (d : Pod) (onB : Bool) (k frame entry gain at_ : Nat) (code : Int) : Conv :=
  let sl := (k + frame) % 4 + (if onB then 4 else 0)
  let raw := rawCode d entry code
  ⟨raw, sliceFix (d.conv.offset.getD sl 0) (d.conv.gain.getD sl 0) raw * 2 ^ (5 - gain), at_, d.conv.skew.getD sl 0, isClipped raw, false⟩

def convertA (d : Pod) (codes : List Int) (k : Nat) : Option Conv :=
  if activeA d k then
    some (convertWith d false k d.conv.frameA (d.seqA.getD k 0) (gainNow d k) (instantA d.seqA k) (codes.getD k 0))
  else none

/-- The channel whose settings a channel runs: the shared converter A channel for the shared B stream (R293). -/
def settingsChannel (d : Pod) (c : Nat) : Nat :=
  if bOff d then c else match d.shared with
    | some k => if c = 16 + k then k else c
    | none => c

def channelEntry (d : Pod) (c : Nat) : Nat :=
  if c < 16 then d.seqA.getD c 0
  else if settingsChannel d c = c then d.seqB.getD (c - 16) 0 else d.seqA.getD (c - 16) 0

/-- The shift of a converter B entry behind a displacing injection in its group (R275). -/
def injectionShift (d : Pod) (k : Nat) : Nat :=
  match d.conv.displaced with
  | some x => if x % 4 = k % 4 ∧ x < k then 15 - entryAcq (channelEntry d (16 + x)) else 0
  | none => 0

def convertB (d : Pod) (codes : List Int) (k : Nat) : Option Conv :=
  (bEntry d k).map (fun e =>
    let g := if settingsChannel d (16 + k) = 16 + k then entryGain (d.seqB.getD k 0) else d.val 0x26 0
    let c := convertWith d true k d.conv.frameB (channelEntry d (16 + k)) g (e.1 + e.2 + injectionShift d k) (codes.getD (16 + k) 0)
    if d.conv.displaced = some k then
      let prev := ((d.chans.getD (16 + k) .reset).previous).getD (0, c.at_, c.skew)
      ⟨0, prev.1, e.1 + e.2, prev.2.2, false, true⟩
    else c)

/-- Clip repair of the shared entry (R260), by B's sample of the same instant with the skew of the slice that took it (R280): the sample
that enters the filter, and whether it was repaired. -/
def repairedA (d : Pod) (codes : List Int) (k : Nat) (c : Conv) : Conv × Bool :=
  if c.clipped && !bOff d && d.shared == some k then
    match convertB d codes k with
    | some b => if b.clipped || b.held || b.at_ != c.at_ then (c, false) else ({ c with x := b.x, skew := b.skew }, true)
    | none => (c, false)
  else (c, false)

/-- The range state after a frame (R245, R246): the peak, and the next gain after a code of 7/8 of full scale. -/
def rangeStep (d : Pod) (k : Nat) (code : Int) : Range :=
  let r := d.conv.ranges.getD k ⟨0, none, 0, 0⟩
  let m := (rawCode d (d.seqA.getD k 0) code).natAbs
  if isAuto (d.seqA.getD k 0) && activeA d k then
    if 28672 ≤ m ∧ d.val 0x12 1 < r.gain then { r with next := some (r.gain - 1), peak := max r.peak m, frames := r.frames + 1 }
    else { r with peak := max r.peak m, frames := r.frames + 1 }
  else r

/-! ### Alignment and phase delay (R280, R298) -/

/-- The weight of R280 in 2^-16; skews in 1/64 ns are 4/15625 POD cycle. -/
def alignWeight (s0 : Nat) (k0 : Int) (s1 : Nat) (k1 : Int) : Int :=
  let num := (128 - (s0 : Int)) * 15625 - 4 * k0
  let den := (128 + (s1 : Int) - s0) * 15625 + 4 * k1 - 4 * k0
  roundOpen (65536 * num) den.toNat

/-- The aligned sample with 16 fraction bits; the first of a channel has no sample before it (log 5). -/
def alignedSample (previous : Option (Int × Nat × Int)) (c : Conv) : Int :=
  match previous with
  | some (x0, s0, k0) => 65536 * x0 + alignWeight s0 k0 c.at_ c.skew * (c.x - x0)
  | none => Config.firstAligned c.x

/-- The delayed sample with 20 fraction bits, over the aligned samples newest first. -/
def delayedSample (line : List Int) (delay : Nat) : Int :=
  (16 - (delay % 16 : Nat)) * line.getD (delay / 16) 0 + (delay % 16 : Nat) * line.getD (delay / 16 + 1) 0

/-! ### CIC decimator (R302): registers of 40 bits, with the 20 fraction bits of their input below (log 12) -/

def wrapCic (v : Int) : Int := signedOf 60 (rawOf 60 v)

def integrate (r : Vector Int 4) (u : Int) : Vector Int 4 :=
  let a := wrapCic (r.getD 0 0 + u)
  let b := wrapCic (r.getD 1 0 + a)
  let c := wrapCic (r.getD 2 0 + b)
  #v[a, b, c, wrapCic (r.getD 3 0 + c)]

/-- The combs over the last integrator: the output and the new delay registers. -/
def combStep (z : Vector Int 4) (v : Int) : Int × Vector Int 4 :=
  let a := wrapCic (v - z.getD 0 0)
  let b := wrapCic (a - z.getD 1 0)
  let c := wrapCic (b - z.getD 2 0)
  (wrapCic (c - z.getD 3 0), #v[v, a, b, c])

/-- The sum of the CIC weights that the inputs of output j carried, of 65536 (R324). -/
def cicWeight (j : Nat) : Int := if j ≤ 1 then 36856 else if j = 2 then 63716 else 65536

/-! ### Responses (R307-R310), pip path (R313), rounding (R295, R296) -/

/-- Sum of products with the coefficients of a ROM, newest value first, over n taps; the denominator of each value is 2^`step` of the
one before it, so that the sum has the newest value's. -/
def firSum (rom n step : Nat) (xs : List Int) : Int :=
  ((List.range n).map (fun i => (Config.romTap rom i).toInt * xs.getD i 0 * 2 ^ (step * i))).foldl (· + ·) 0

/-- The 56-bit accumulator of a response over CIC outputs (R295). -/
def accumulate (rom n : Nat) (cic : List Int) : Int := signedOf 56 (rawOf 56 (firSum rom n 0 cic))

def saturate24 (v : Int) : Int × Bool := (clampInt (-8388607) 8388607 v, decide (8388607 < v ∨ v < -8388607))

/-- Taps, twice the response delay in frames, settle count, frames per output (R307, R318). -/
def respTaps (r : Nat) : Nat := [63, 127, 63, 255, 255, 63, 0, 63].getD r 0
def respDelay2 (r : Nat) : Nat := [992, 2016, 992, 34528, 34528, 1008, 0, 992].getD r 0
def respSettle (r : Nat) : Nat := [71, 135, 72, 2176, 2176, 9287, 8, 36935].getD r 0
def respFrames (r : Nat) : Nat := if r = 2 then 32 else if r = 3 ∨ r = 4 then 128 else 16

/-- A fine output falls due at CIC output j. -/
def respDue (r j : Nat) : Bool := if r = 2 then j % 2 == 1 else if r = 3 ∨ r = 4 then j % 8 == 7 else decide (1 ≤ j)

/-- A delay of n half frames in ticks (R317, R319). -/
def delayTicks (d : Pod) (halfFrames : Nat) : Nat :=
  if d.framePeriod = 33554432 then halfFrames * 256 else (roundOpen (halfFrames * d.framePeriod : Nat) 131072).toNat

/-- The delay of a channel in samples' frames, for a moving average of n outputs (R317). -/
def chanDelay2 (r n : Nat) : Nat := 60 + respDelay2 r + (n - 1) * respFrames r

/-- Bits that each step of the IIR stage adds to the denominator of its exact state (R309, R310). -/
def iirBits (r : Nat) : Nat := if r = 5 then 10 else if r = 7 then 12 else 0

/-- The IIR stage of F5 and F7 on a CIC output, exact (R295, R309, R310): the numerator of the new state, over 2^(bits * steps) and over 2
for F5's halved sum or over the fraction of F0's taps for F7; and what the next step takes from this input. -/
def iirStep (r : Nat) (ch : Channel) (cic : List Int) : Int × Int :=
  if r = 5 then (1023 * ch.iir + (cic.getD 0 0 + ch.iirIn) * 2 ^ (10 * (ch.iirSteps + 1)), cic.getD 0 0)
  else if r = 7 then
    let v := accumulate 0 63 cic
    (4095 * (ch.iir + (v - ch.iirIn) * 2 ^ (12 * ch.iirSteps)), v)
  else (0, 0)

/-- The number of binary places of the IIR state after n steps. -/
def iirPlaces (r n : Nat) : Nat := iirBits r * n + (if r = 5 then 1 else Config.romFraction 0)

/-- The response output rounded to 24 bits; n counts the steps of the IIR stage. -/
def respOutput (r n : Nat) (cic iirOut pre : List Int) (iir : Int) : Int :=
  if r = 3 ∨ r = 4 then roundTies (firSum 4 255 0 pre) (2 ^ (Config.romFraction 8 + Config.romFraction 4 + 2))
  else if r = 5 then roundTies (firSum 5 63 10 iirOut) (2 ^ (iirPlaces 5 n + Config.romFraction 5 + 2))
  else if r = 6 then roundTies (cic.getD 0 0) 4
  else if r = 7 then roundTies iir (2 ^ (iirPlaces 7 n + 2))
  else roundTies (accumulate r (respTaps r) cic) (2 ^ (Config.romFraction r + 2))

def quadOutput (pre : List Int) : Int := roundTies (firSum 9 255 0 pre) (2 ^ (Config.romFraction 8 + Config.romFraction 9 + 2))

/-- The pip value before its moving average: from the CIC output, or from the F5 integrator (R313, R324). -/
def pipValue (r j n : Nat) (cicOut iir : Int) : Int :=
  if r = 5 then roundTies (iir * Config.pipScaleF5 * 65536) (cicWeight j * 2 ^ (iirPlaces 5 n + 22)).toNat
  else roundTies (cicOut * 65536) (cicWeight j * 2 ^ 34).toNat

/-- The IIR state that `Pod.FilterSnap` shows, 0 without an IIR stage (R330); its rounding is open (log 6). -/
def iirShown (r : Nat) (ch : Channel) : Int :=
  if r = 5 ∨ r = 7 then roundOpen (ch.iir * 2 ^ Config.iirFraction) (2 ^ iirPlaces r ch.iirSteps) else 0

/-- The fundamental outputs of a channel: in-phase and quadrature; after the F5 integrator corrected by one complex
factor at the measured frequency (R337). -/
def fundValue (d : Pod) (r n : Nat) (pre : List Int) : Int × Int :=
  let fb := if r = 5 then iirPlaces 5 n else 0
  let step := if r = 5 then 80 else 0
  let i := roundTies (firSum 4 255 step pre) (2 ^ (Config.romFraction 8 + Config.romFraction 4 + 2 + fb))
  let q := roundTies (firSum 9 255 step pre) (2 ^ (Config.romFraction 8 + Config.romFraction 9 + 2 + fb))
  if r = 5 then
    let c := Config.fundFactorF5 (if d.meter.freq = 0 then (if d.val 0x72 0 = 1 then 60000 else 50000) else d.meter.freq)
    (roundOpen (i * c.1 + q * c.2) 1073741824, roundOpen (q * c.1 - i * c.2) 1073741824)
  else (i, q)

/-- Settings of a channel: response, delay D, average length, pip length (R293, R297). -/
def chanResp (d : Pod) (c : Nat) : Nat := d.val 0x40 (settingsChannel d c + 1)

def chanDelay (d : Pod) (c : Nat) : Nat :=
  let i := entryInput (channelEntry d c)
  d.val 0x41 (settingsChannel d c + 1) + (if i ≤ 6 then d.val 0x53 (i + 1) else 0)

def chanAvg (d : Pod) (c : Nat) : Nat := d.val 0x42 (settingsChannel d c + 1)
def chanPip (d : Pod) (c : Nat) : Nat := d.val 0x43 (settingsChannel d c + 1)

/-- CIC outputs until the first fine output with VALID = 1 (R318, R321). -/
def settleCount (d : Pod) (c : Nat) : Nat := respSettle (chanResp d c) + (chanDelay d c + 255) / 256

/-- A stamp behind the marker by a delay. -/
def stampBehind (d : Pod) (halfFrames : Nat) : Tick := d.marker - delayTicks d halfFrames

def rcTimed (d : Pod) : Bool := d.mux == .alternate

/-- A delivered sample; none where its instant does not follow what the path delivered before (R325). -/
def delivered (d : Pod) (before : Sample) (value : Int) (half frames : Nat) (valid : Bool) : Option Sample :=
  let v := saturate24 value
  let t := stampBehind d half
  if t ≤ before.stamp then none else some ⟨v.1, t, valid, v.2, frames * d.framePeriod, rcTimed d⟩

def average (xs : List Int) : Int := roundTies (xs.foldl (· + ·) 0) xs.length

/-- The values that a moving average of length n holds after a response output that falls due; none before VALID = 1 (R312, R323). -/
def movingStep (due valid : Bool) (n : Nat) (v : Int) (xs : List Int) : List Int :=
  if !due then xs else if valid then (v :: xs).take n else []

/-- The averaged output, of the response output itself while VALID = 0 (R323). -/
def movingValue (valid : Bool) (v : Int) (xs : List Int) : Int := if valid then average xs else v

/-- What CIC output j (j ≥ 1) makes of a channel: pip, response, moving averages, fundamental path (R304-R324, R337). -/
def outputStep (d : Pod) (c : Nat) (ch : Channel) (j : Nat) (out : Int) : Channel × Delivery :=
  let r := chanResp d c
  let cic := (roundTies out 4294967296 :: ch.cic).take 127
  let (iir, iirIn) := iirStep r ch cic
  let n := ch.iirSteps + 1
  let iirOut := if r = 5 then (iir :: ch.iirOut).take 127 else []
  let pre := if j % 8 = 7 then ((if r = 5 then firSum 8 127 10 iirOut else accumulate 8 127 cic) :: ch.pre).take 255 else ch.pre
  let pipRaw := saturate24 (pipValue r j n out iir)
  let pipAvg := (pipRaw.1 :: ch.pipAvg).take (chanPip d c)
  let pip := (delivered d ch.pip (average pipAvg) (60 + (pipAvg.length - 1) * 16) 16 (decide (4 ≤ j))).map
    (fun x => { x with saturated := pipRaw.2 })
  let due := respDue r j
  let valid := decide (settleCount d c ≤ j + 1)
  let raw := saturate24 (respOutput r n cic iirOut pre iir)
  let quadRaw := if r = 3 then saturate24 (quadOutput pre) else (0, false)
  let fineAvg := movingStep due valid (chanAvg d c) raw.1 ch.fineAvg
  let quadAvg := movingStep due valid (chanAvg d c) quadRaw.1 ch.quadAvg
  let fine := if due then
      (delivered d ch.fine (movingValue valid raw.1 fineAvg) (chanDelay2 r (max 1 fineAvg.length)) (respFrames r) valid).map
        (fun x => { x with saturated := raw.2 || quadRaw.2 })
    else none
  let fv := fundValue d r n pre
  let fund : Option Phase := if j % 8 = 7 then some ⟨fv.1, fv.2, fv.1, stampBehind d 34588, decide (2176 ≤ j + 1)⟩ else none
  ({ ch with
      cic := cic, iir := iir, iirSteps := n, iirIn := iirIn, iirOut := iirOut, pre := pre, pipAvg := pipAvg, fineAvg := fineAvg,
      quadAvg := quadAvg, pip := pip.getD ch.pip, fine := fine.getD ch.fine,
      quad := if due then movingValue valid quadRaw.1 quadAvg else ch.quad },
   ⟨fine, pip, fund, if due then some ⟨raw.1, stampBehind d (chanDelay2 r 1), valid, raw.2, respFrames r * d.framePeriod, rcTimed d⟩ else none, b2n (fine.isSome && raw.2) + b2n (fine.isSome && quadRaw.2) + b2n (pip.isSome && pipRaw.2)⟩)

def noDelivery : Delivery := ⟨none, none, none, none, 0⟩

/-- One frame of a channel (R292). -/
def channelStep (d : Pod) (c : Nat) (cv : Conv) (ch : Channel) : Channel × Delivery :=
  let line := (alignedSample ch.previous cv :: ch.delayLine).take 257
  let ints := integrate ch.integrators (delayedSample line (chanDelay d c))
  let ch1 := { ch with previous := some (cv.x, cv.at_, cv.skew), delayLine := line, integrators := ints, frames := ch.frames + 1 }
  if ch.frames % 16 = 15 then
    let (out, combs) := combStep ch.combs (ints.getD 3 0)
    let ch2 := { ch1 with combs := combs, outputs := ch.outputs + 1 }
    if ch.outputs = 0 then (ch2, noDelivery) else outputStep d c ch2 ch.outputs out
  else (ch1, noDelivery)

/-! ### The frame of a Pod -/

/-- The conversion that enters the filter of channel c. -/
def enters (d : Pod) (codes : List Int) (c : Nat) : Option Conv :=
  if c < 16 then (convertA d codes c).map (fun v => (repairedA d codes c v).1) else convertB d codes (c - 16)

def repaired (d : Pod) (codes : List Int) (c : Nat) : Bool :=
  if c < 16 then ((convertA d codes c).map (fun v => (repairedA d codes c v).2)).getD false else false

def convClipped (d : Pod) (codes : List Int) (c : Nat) : Bool :=
  (if c < 16 then convertA d codes c else convertB d codes (c - 16)).elim false (·.clipped)

/-- The metering input of a channel, 15 for a channel that does not meter. -/
def noteInput (d : Pod) (c : Nat) : Nat :=
  let i := entryInput (channelEntry d c)
  if c < 16 ∧ i ≤ 6 ∧ meterChan d i = some c then i else 15

/-- The marks that a channel's sample of this frame and the values it delivers bring (R249, R263, R296). -/
def frameNotes (d : Pod) (codes : List Int) (c : Nat) (x : Delivery) : List Note :=
  let e := channelEntry d c
  let i := noteInput d c
  let ofSample (v : Option Sample) : List Note := match v with
    | some a => if a.saturated then [⟨a.stamp, i, 2⟩] else []
    | none => []
  (if c < 16 && convClipped d codes c && !repaired d codes c then
    [⟨d.marker, i, if isAuto e && decide (d.val 0x12 1 < gainNow d c) then 0 else 1⟩] else []) ++
  (if 16 ≤ c ∧ d.conv.displaced = some (c - 16) then [⟨d.marker, i, 3⟩] else []) ++ ofSample x.fine ++ ofSample x.pip

/-- Common-mode excursions mark the samples of their input; bit 4 stands for VN, the return of every voltage (R231). -/
def cmNotes (d : Pod) (cm : Nat) : List Note :=
  ((List.range 7).filter (fun i => bit cm (min i 4) && (meterChan d i).isSome)).map (fun i => ⟨d.marker, i, 4⟩)

/-- The metering input of a channel. -/
def meterInput (d : Pod) (c : Nat) : Option Nat := if noteInput d c ≤ 6 then some (noteInput d c) else none

/-- A value after gain, offset and ratio, in primary units of 2^-52: mA or mV (R335, R336, R453). -/
def scaled (d : Pod) (i : Nat) (v : Int) : Int :=
  (d.val 0x51 (i + 1) : Int) * (v - signedOf 32 (d.val 0x52 (i + 1))) * d.val 0x50 (i + 1)

def scaledPhase (d : Pod) (i : Nat) (x : Phase) : Phase := { x with i := scaled d i x.i, q := scaled d i x.q }

/-- A value joins the log of its input, scaled; where the metering role has moved, no instant is logged twice (R316). -/
def pushSample (d : Pod) (v : Vector (List Sample) 7) (i : Nat) (x : Option Sample) : Vector (List Sample) 7 :=
  match x with
  | some a =>
    let l := v.getD i []
    if decide (a.stamp ≤ (l.headD noSample).stamp) && !l.isEmpty then v else putAt v i ({ a with value := scaled d i a.value } :: l)
  | none => v

/-- The first pip value after a reset of the metering channel ends the bridge interval (R325). -/
def endBridge (i : Nat) (x : Option Sample) (m : Meter) : Meter :=
  match x, m.bridgeFrom.getD i none with
  | some v, some t => { m with bridges := m.bridges ++ [⟨i, t, v.stamp⟩], bridgeFrom := putAt m.bridgeFrom i none }
  | _, _ => m

/-- The first fine output with VALID = 1 ends the span that the pip path books (R326); in WAKING, and for instants of it, none does
(R358). -/
def endSpan (d : Pod) (i : Nat) (x : Option Sample) (m : Meter) : Meter :=
  match x with
  | some v =>
    if v.valid && d.mode != .waking && decide (m.coarseUntil ≤ v.stamp) then
      { m with spans := m.spans.map (fun g =>
          if g.input = i ∧ g.stop = none ∧ g.start < v.stamp then { g with stop := some v.stamp } else g) }
    else m
  | none => m

/-- What a metering input receives of a frame (R269, R316). -/
def meterDelivery (d : Pod) (i : Nat) (x : Delivery) (m : Meter) : Meter :=
  endSpan d i x.fine (endBridge i x.pip { m with
    fine := pushSample d m.fine i x.fine, pip := pushSample d m.pip i x.pip, resp := pushSample d m.resp i x.resp,
    fund := match x.fund with
      | some f => putAt m.fund i (scaledPhase d i f :: m.fund.getD i [])
      | none => m.fund })

/-- One channel of the frame: its chain, and what its metering input receives. -/
def runChannel (codes : List Int) (d : Pod) (c : Nat) : Pod :=
  let ch := d.chans.getD c .reset
  match enters d codes c with
  | none => d
  | some cv =>
    if !ch.live then d else
    let (ch1, x) := channelStep d c cv ch
    let m := { d.meter with notes := d.meter.notes ++ frameNotes d codes c x }
    let m1 := match meterInput d c with
      | some i => meterDelivery d i x m
      | none => m
    { d with chans := d.chans.setIfInBounds c ch1, meter := m1, counters := bump d.counters 7 x.saturations }

/-- The plausibility comparison: fine outputs of the shared streams of one frame (R255, R257). -/
def plausStep (before d : Pod) (codes : List Int) (k : Nat) : Converters :=
  let cv := d.conv
  let a := d.chans.getD k .reset
  let b := d.chans.getD (16 + k) .reset
  let dirty := cv.plausDirty || repaired before codes k || convClipped before codes (16 + k) || before.conv.displaced == some k
  if a.fine.stamp ≠ (before.chans.getD k .reset).fine.stamp then
    if cv.plausPairs.isEmpty && !(a.fine.valid && b.fine.valid) then { cv with plausDirty := false }
    else
      { cv with
        plausPairs := cv.plausPairs ++ [(a.fine.value, b.fine.value, a.fine.valid && b.fine.valid && !dirty)], plausDirty := false,
        plausFs := if cv.plausPairs.isEmpty then d.val 0x27 1 else cv.plausFs,
        plausRdg := if cv.plausPairs.isEmpty then d.val 0x27 2 else cv.plausRdg }
  else { cv with plausDirty := dirty }

/-! ### The slice estimator's intervals (R237-R242) -/

/-- The estimator of a converter runs: not in FREEZE, not in LEAN, not while converter B is off (R241, R242). -/
def estimates (d : Pod) (onB : Bool) : Bool := d.val 0x36 0 == 1 && d.mode != .lean && !(onB && bOff d)

/-- The conversion of a channel before any repair. -/
def converted (d : Pod) (codes : List Int) (c : Nat) : Option Conv :=
  if c < 16 then convertA d codes c else convertB d codes (c - 16)

/-- The samples of a frame join the sums of their interval, but for those that a reference injection replaced (R238). -/
def estimateSample (d : Pod) (codes : List Int) (cv : Converters) (c : Nat) : Converters :=
  match converted d codes c with
  | some x =>
    if estimates d (decide (16 ≤ c)) && !x.held then
      { cv with
        estSquares := putAt cv.estSquares c (cv.estSquares.getD c 0 + x.raw.natAbs * x.raw.natAbs),
        estSamples := putAt cv.estSamples c (cv.estSamples.getD c 0 + 1),
        estClipped := if x.clipped then setBit cv.estClipped c else cv.estClipped }
    else cv
  | none => cv

/-- The channels of a converter. -/
def converterChannels (onB : Bool) : List Nat := (List.range 16).map (· + if onB then 16 else 0)

/-- The RMS of an entry's raw codes is at least 2 % of full scale, 655.36 codes, and no code of the interval clipped (R238). -/
def entryQualifies (cv : Converters) (c : Nat) : Bool :=
  decide (0 < cv.estSamples.getD c 0 ∧ cv.estSamples.getD c 0 * 4294967296 ≤ cv.estSquares.getD c 0 * 10000) && !bit cv.estClipped c

/-- A frame of a converter's interval ends (R238, R239): at the solve point the interval's samples are judged, a solve that has not
completed is discarded and counted, and the next interval starts. -/
def solvePoint (d : Pod) (onB : Bool) (x : Converters × Nat) : Converters × Nat :=
  let b := b2n onB
  if !estimates d onB then x
  else
    let cv := x.1
    if cv.estFrames.getD b 0 + 1 < 128000 then ({ cv with estFrames := putAt cv.estFrames b (cv.estFrames.getD b 0 + 1) }, x.2)
    else
      let cs := converterChannels onB
      ({ cv with
          estFrames := putAt cv.estFrames b 0,
          estSquares := cs.foldl (fun v c => putAt v c 0) cv.estSquares,
          estSamples := cs.foldl (fun v c => putAt v c 0) cv.estSamples,
          estClipped := cs.foldl clearBit cv.estClipped,
          estReady := putAt cv.estReady b (some (cs.any (fun c => decide (0 < cv.estSamples.getD c 0)), cs.any (entryQualifies cv))) },
       x.2 + b2n (cv.estReady.getD b none).isSome)

/-- The estimator's part of a frame: the converters, and the solves it discards. -/
def estimateFrame (d : Pod) (codes : List Int) (cv : Converters) : Converters × Nat :=
  solvePoint d true (solvePoint d false ((List.range 32).foldl (estimateSample d codes) cv, 0))

/-- The injection point passes once every 128 000 frames, whether converter B runs or not; an injection stays due while it runs (R261,
R265). -/
def injectionPoint (d : Pod) (cv : Converters) : Converters :=
  let passes := decide (128000 ≤ cv.refFrames + 1)
  { cv with refFrames := if passes then 0 else cv.refFrames + 1, refDue := !bOff d && (cv.refDue || passes) }

/-- The frame that ends: counts, common-mode status, ranges, chains, plausibility streams (06, 07, 08). -/
def frameRun (codes : List Int) (cm : Nat) (d : Pod) : Pod :=
  let clips := ((List.range 32).filter (convClipped d codes)).length
  let fixes := ((List.range 16).filter (repaired d codes)).length
  let newCm := ((List.range 5).filter (fun b => bit cm b && !bit d.conv.cm b)).length
  let cv := { d.conv with
    cm := cm % 32,
    cmFrames := Vector.ofFn (fun b : Fin 5 => if bit cm b then d.conv.cmFrames[b] + 1 else 0),
    ranges := Vector.ofFn (fun k : Fin 16 => rangeStep d k (codes.getD k 0)) }
  let est := estimateFrame d codes (injectionPoint d cv)
  let d1 := (List.range 32).foldl (runChannel codes) d
  let d2 := { d1 with
    conv := { est.1 with frameA := d.conv.frameA + 1, frameB := if bOff d then d.conv.frameB else d.conv.frameB + 1 },
    meter := { d1.meter with notes := d1.meter.notes ++ cmNotes d cm ++
      (if d.rescuedFrame then [Note.mk d.marker 15 5] else []) },
    counters := bump (bump (bump (bump d1.counters 0 clips) 1 fixes) 3 newCm) 6 est.2, rescuedFrame := false }
  let d3 := match bOff d, d.shared with
    | false, some k => { d2 with conv := plausStep d d2 codes k }
    | _, _ => d2
  { d3 with conv := { d3.conv with displaced := none } }

end Sys2Proof.Machine
end

