-- ==== Sys2Proof/Machine/Trig.lean ====
section
/-! DEFINITION. Angles of the phasors and harmonics (R383, R390): sine and cosine in 2^-64 by their series, and the angle of
a complex number by bisection to 2^-48 turn. Both lie far below the reported units (log 17). -/

namespace Sys2Proof.Machine

/-- 2^64 times half a turn in radians. -/
def piFixed : Int := 57952155664616982739

def oneFixed : Int := 18446744073709551616

/-- Terms of a series: the k-th follows from the one before by -x²/((2k-1)(2k)), or (2k)(2k+1) for the sine. -/
def seriesSum (x2 : Int) (odd : Nat) : Nat → Nat → Int → Int → Int
  | 0, _, _, acc => acc
  | n + 1, k, term, acc =>
    let next := -(term * x2 / (oneFixed * ((2 * k + odd - 1) * (2 * k + odd) : Nat)))
    seriesSum x2 odd n (k + 1) next (acc + next)

/-- Cosine and sine of an angle of at most a quarter turn, given in 2^-48 turn. -/
def quarterCosSin (a : Nat) : Int × Int :=
  let x := piFixed * 2 * a / 281474976710656
  let x2 := x * x / oneFixed
  (seriesSum x2 0 16 1 oneFixed oneFixed, seriesSum x2 1 16 1 x x)

/-- Cosine and sine of an angle in 2^-48 turn. -/
def cosSin (angle : Int) : Int × Int :=
  let a := (angle % 281474976710656).toNat
  let q := a / 70368744177664
  let (c, s) := quarterCosSin (a % 70368744177664)
  if q = 0 then (c, s) else if q = 1 then (-s, c) else if q = 2 then (-c, -s) else (s, -c)

/-- The largest angle in steps down to 2^-48 turn whose ray does not lie beyond (x, y) in the first quarter. -/
def bisectAngle (x y : Int) : Nat → Nat → Nat
  | 0, a => a
  | n + 1, a =>
    let cs := quarterCosSin (a + 2 ^ n)
    bisectAngle x y n (if 0 ≤ y * cs.1 - x * cs.2 then a + 2 ^ n else a)

/-- The angle of a complex number in 2^-48 turn, from 0 up to a turn; zero for zero. -/
def angleOf (re im : Int) : Nat :=
  if 0 < re ∧ 0 ≤ im then bisectAngle re im 46 0
  else if re ≤ 0 ∧ 0 < im then 70368744177664 + bisectAngle im (-re) 46 0
  else if re < 0 ∧ im ≤ 0 then 140737488355328 + bisectAngle (-re) (-im) 46 0
  else if 0 ≤ re ∧ im < 0 then 211106232532992 + bisectAngle (-im) re 46 0
  else 0

/-- A turn-valued angle in a unit of which `turn` make one turn, wrapped to half a turn on either side, the negative end
left out (R390). -/
def wrapAngle (angle : Int) (turn : Nat) : Int :=
  let v := roundOpen (angle % 281474976710656 * turn) 281474976710656
  if turn < 2 * v then v - turn else v

end Sys2Proof.Machine
end

