-- ==== Sys2Proof/Machine/Meter.lean ====
section
/-! DEFINITION. The arithmetic unit of a Pod (09_quantities_energy.md): crossings and timing, half-cycles and windows, RMS,
powers, booking into the registers, marks and declared error. Sums are exact; log 6 names the open roundings. -/

namespace Sys2Proof.Machine

/-! ### Series of an input -/

/-- A value of a metering input that enters sums: instant, value, span in 2^-16 tick, from the pip path. -/
structure Point where
  stamp : Tick
  value : Int
  span : Nat
  coarse : Bool
deriving DecidableEq, Repr

/-- Instants of two paths count as equal within the errors of their markers (R28) and roundings (log 16). -/
def sameInstant (a b : Tick) : Bool := decide (a ≤ b + 8 ∧ b ≤ a + 8)

/-- The latest stamp below t and the earliest from t on, of a list. -/
def stampBelow (ts : List Tick) (t : Tick) : Option Tick :=
  ts.foldl (fun a x => if x < t then some (match a with | some y => max x y | none => x) else a) none

def stampFrom (ts : List Tick) (t : Tick) : Option Tick :=
  ts.foldl (fun a x => if t ≤ x then some (match a with | some y => min x y | none => x) else a) none

/-- The pip path books an instant of an input (R326, R358): it lies in a span, and at no fine instant that bounds it. -/
def pipCounts (d : Pod) (i : Nat) (t : Tick) : Bool :=
  d.meter.spans.any (fun g => g.input == i && decide (g.start < t) && !sameInstant g.start t &&
    g.stop.elim true (fun u => decide (t < u) && !sameInstant t u))

/-- The fine path books an instant of an input: it lies inside no span. -/
def fineCounts (d : Pod) (i : Nat) (t : Tick) : Bool :=
  !d.meter.spans.any (fun g => g.input == i && decide (g.start < t) && g.stop.elim true (fun u => decide (t < u)))

/-- Some bridge of an input meets an interval. -/
def bridged (d : Pod) (i : Nat) (a b : Tick) : Bool := d.meter.bridges.any (fun g => g.input == i && decide (g.start < b ∧ a < g.stop))

/-- The pip values of an input that no bridge covers. -/
def pipSeries (d : Pod) (i : Nat) : List Point :=
  ((d.meter.pip.getD i []).filter (fun x => !bridged d i x.stamp x.stamp)).map (fun x => ⟨x.stamp, x.value, x.span, true⟩)

/-- The values of an input that quantities and booking use: outside its coarse spans fine outputs with VALID = 1, inside them pip
values that no bridge covers (R326, R358). -/
def seriesOf (d : Pod) (i : Nat) : List Point :=
  ((d.meter.fine.getD i []).filter (fun x => x.valid && fineCounts d i x.stamp)).map (fun x => ⟨x.stamp, x.value, x.span, false⟩) ++
  (pipSeries d i).filter (fun x => pipCounts d i x.stamp)

def inside (a b : Tick) (x : Point) : Bool := decide (a ≤ x.stamp ∧ x.stamp < b)

/-- Every value of an input with an instant before t has been delivered; an input that has no metering channel delivers none. -/
def inputDelivered (d : Pod) (t : Tick) (i : Nat) : Bool :=
  (meterChan d i).isNone || (seriesOf d i).any (fun x => decide (t ≤ x.stamp + x.span / 65536))

/-! ### RMS (R348) -/

/-- Sum of squares of scaled values and their number, over the instants of an interval. -/
def squares (d : Pod) (i : Nat) (a b : Tick) : Nat × Nat :=
  let xs := (seriesOf d i).filter (inside a b)
  (xs.foldl (fun s x => s + x.value.natAbs ^ 2) 0, xs.length)

/-- The root of n / d at one of its two neighbours (log 6). -/
def rootOpen (n d : Nat) : Nat :=
  if d = 0 then 0 else
  let r := Nat.sqrt (n / d)
  if r * r * d = n then r else if Config.roundUp n d then r + 1 else r

/-- RMS of an input over an interval, in mA or mV; zero without samples; saturated at the limit of its type (R352). -/
def rmsFull (d : Pod) (i : Nat) (a b : Tick) : Nat :=
  let q := squares d i a b
  rootOpen q.1 (q.2 * 2 ^ 104)

def rmsOf (d : Pod) (i : Nat) (a b : Tick) : Nat := min 4294967295 (rmsFull d i a b)

/-- The RMS of an input is below a level of parts per 100 000 of its gain-1 full scale RMS (R353); never without samples. -/
def rmsBelow (d : Pod) (i : Nat) (a b : Tick) (level : Nat) : Bool :=
  let q := squares d i a b
  decide (20000000000 * q.1 < level ^ 2 * d.val 0x50 (i + 1) ^ 2 * q.2 * 2 ^ 104)

/-! ### Phases (R332-R334, R349, R350) -/

def formedPhases (d : Pod) : List Nat := if d.val 0x70 0 = 0 then [0, 1, 2] else if d.val 0x70 0 = 1 then [0, 2] else [0]

/-- An input yields nothing in an interval: neither a value nor a bridge over it. -/
def noValue (d : Pod) (i : Nat) (a b : Tick) : Bool := (squares d i a b).2 == 0 && !bridged d i a b

/-- A phase is missing in an interval in which one of its inputs yields nothing (R334). -/
def missingPhase (d : Pod) (ph : Nat) (a b : Tick) : Bool := noValue d ph a b || noValue d (4 + ph) a b

/-- The rates differ, or the delays differ by more than 640 output samples (R350). -/
def unpairable (d : Pod) (ph : Nat) : Bool :=
  match meterChan d ph, meterChan d (4 + ph) with
  | some c, some v =>
    let f := respFrames (chanResp d c)
    let dc := chanDelay2 (chanResp d c) (chanAvg d c)
    let dv := chanDelay2 (chanResp d v) (chanAvg d v)
    f != respFrames (chanResp d v) || decide (1280 * f < max dc dv - min dc dv)
  | _, _ => false

/-- 65 536 times the voltage at an instant (R349): the value there; half-way between two values their mean; elsewhere between them, where
the counts of the two channels are not in step, the value on the line through them (log 16). -/
def voltageAt (us : List Point) (t wide : Tick) : Option (Int × Bool) :=
  match us.find? (fun u => sameInstant u.stamp t) with
  | some u => some (65536 * u.value, u.coarse)
  | none =>
    let ts := us.map (·.stamp)
    match stampBelow ts t, stampFrom ts t with
    | some a, some b =>
      match us.find? (fun u => u.stamp == a), us.find? (fun u => u.stamp == b) with
      | some x, some y =>
        let w : Int := if sameInstant (2 * t) (a + b) then 32768 else roundOpen (65536 * (t - a) : Nat) (b - a)
        if wide < b - a then none else some ((65536 - w) * x.value + w * y.value, x.coarse || y.coarse)
      | _, _ => none
    | _, _ => none

/-- The pairs of a phase in an interval: 65 536 times the voltage, the current, the span, coarse (R349). A current sample of the pip path
pairs with the voltage's pip values where the voltage's fine outputs come at another rate. -/
def pairsOf (d : Pod) (ph : Nat) (a b : Tick) : List (Int × Int × Nat × Bool) :=
  let fine := seriesOf d (4 + ph)
  let slow := (meterChan d (4 + ph)).elim false (fun c => respFrames (chanResp d c) != 16)
  let pips := if slow then pipSeries d (4 + ph) else fine
  ((seriesOf d ph).filter (inside a b)).filterMap (fun x =>
    if bridged d (4 + ph) x.stamp x.stamp then none
    else
      let us := if x.coarse then pips else fine
      (voltageAt us x.stamp (2 * (max x.span ((us.headD ⟨0, 0, 0, false⟩).span)) / 65536 + 16)).map
        (fun u => (u.1, x.value, x.span, u.2 || x.coarse)))

/-- An output rotated to an instant at a frequency in mHz: parts in 2^-52 of the primary unit, times 2^64. -/
def rotated (x : Phase) (t : Tick) (freq : Nat) : Int × Int :=
  let cs := cosSin (((t : Int) - x.stamp) * freq * 281474976710656 / 65536000000)
  (x.i * cs.1 - x.q * cs.2, x.i * cs.2 + x.q * cs.1)

/-- The two outputs of a fundamental path around an instant. -/
def bracket (fund : List Phase) (t : Tick) : Option (Phase × Phase) :=
  let ts := fund.map (·.stamp)
  match stampBelow ts (t + 1), stampFrom ts t with
  | some a, some b =>
    match fund.find? (fun x => x.stamp == a), fund.find? (fun x => x.stamp == b) with
    | some x, some y => some (x, y)
    | _, _ => none
  | _, _ => none

/-- `Pod.NominalFreq` in mHz, and the measured frequency, or the nominal one while none is valid. -/
def nominalMilli (d : Pod) : Nat := if d.val 0x72 0 = 1 then 60000 else 50000
def frequencyNow (d : Pod) : Nat := if d.meter.freq = 0 then nominalMilli d else d.meter.freq

/-- Two outputs rotated to an instant between them and weighted by proximity (R390): the sums, and what they are to be divided by. -/
def weighted (xy : Phase × Phase) (t : Tick) (freq : Nat) : Int × Int × Nat :=
  let u := rotated xy.1 t freq
  let v := rotated xy.2 t freq
  let wide := xy.2.stamp - xy.1.stamp
  let wu : Int := if wide = 0 then 1 else ((xy.2.stamp - t : Nat) : Int)
  let wv : Int := if wide = 0 then 0 else ((t - xy.1.stamp : Nat) : Int)
  (u.1 * wu + v.1 * wv, u.2 * wu + v.2 * wv, max 1 wide)

/-- The output of a fundamental path at an instant of the grid that the paths of a Pod share (R337): its own one there, or, where its
count began in another frame, formed from the two around as R390 forms it (log 16). -/
def fundAt (d : Pod) (fund : List Phase) (t : Tick) : Option Phase :=
  match fund.find? (fun u => sameInstant u.stamp t) with
  | some u => some u
  | none => (bracket fund t).map (fun xy =>
      let w := weighted xy t (frequencyNow d)
      ⟨roundOpen w.1 (w.2.2 * 2 ^ 64), roundOpen w.2.1 (w.2.2 * 2 ^ 64), 0, t, xy.1.settled && xy.2.settled⟩)

/-- Sums over fundamental products of a phase at the instants of an interval that `keep` takes: P1, Q1, their span; and whether every
output there was settled. -/
def fundSums (d : Pod) (ph : Nat) (a b : Tick) (keep : Tick → Bool) : Int × Int × Nat × Bool :=
  let us := d.meter.fund.getD (4 + ph) []
  let is := (d.meter.fund.getD ph []).filter (fun x => decide (a ≤ x.stamp ∧ x.stamp < b) && keep x.stamp)
  let span := 128 * d.framePeriod
  is.foldl (fun s x =>
    match fundAt d us x.stamp with
    | some u =>
      if u.settled && x.settled then
        (s.1 + 65536 * u.i * x.i * span, s.2.1 + 65536 * u.q * x.i * span, s.2.2.1 + span, s.2.2.2)
      else (s.1, s.2.1, s.2.2.1, false)
    | none => (s.1, s.2.1, s.2.2.1, false)) (0, 0, 0, !is.isEmpty)

/-! ### Energies (R355, R358-R360) -/

/-- Energies of a phase over an interval as numerators over `energyDen` register LSB; ticks booked coarse and the active
energy of them; marks of R366. -/
structure Energy where
  p : Int
  p1 : Int
  q1 : Int
  s : Nat
  coarseP : Int
  coarseTicks : Nat
  marks : Nat
deriving DecidableEq, Repr

/-- Numerators that make one register LSB: 65 536 times the product, 2^-104 primary, 2^-16 tick, 3.6 J. -/
def energyDen : Nat := 2 ^ 120 * 65536 * 65536000 * 3600000

/-- The length of the bridge intervals of a phase within an interval (R359). -/
def bridgeTicks (d : Pod) (ph : Nat) (a b : Tick) : Nat :=
  let parts := (d.meter.bridges.filter (fun g => g.input == ph || g.input == 4 + ph)).map (fun g => (max a g.start, min b g.stop))
  (parts.foldl (fun (acc : Nat × Tick) x => if acc.2 < x.2 then (acc.1 + (x.2 - max acc.2 x.1), max acc.2 x.2) else acc) (0, a)).1

/-- A share of an energy in proportion to time. -/
def shareOf (e : Int) (ticks whole : Nat) : Int := if whole = 0 then 0 else roundTies (e * (ticks * 65536 : Nat)) whole

/-- The reactive energy that stands in while the fundamental path settles (R360). -/
def substituteQ (s : Nat) (p : Int) (negative : Bool) : Int :=
  let q : Int := Nat.sqrt (s * s - p.natAbs * p.natAbs)
  if negative then -q else q

/-- The apparent energy of a phase over some ticks, at the RMS values of an interval (R355). -/
def apparentEnergy (d : Pod) (ph : Nat) (a b ticks : Tick) : Nat :=
  let su := squares d (4 + ph) a b
  let si := squares d ph a b
  rootNearest (65536 ^ 2 * su.1 * si.1 * (ticks * 65536) ^ 2) (su.2 * si.2)

/-- A phase over an interval (R355): the energies of its pairs and fundamental outputs, these substituted while the path settles (R360);
its bridges at the mean powers of its last complete half-cycle (R359); none where an unpairable phase has no fundamental values (R350).
An interval that bridges cover wholly has no RMS values: its apparent energy is a bridge's too (log 52). -/
def phaseEnergy (d : Pod) (ph : Nat) (a b : Tick) : Option Energy :=
  let ps := pairsOf d ph a b
  let last := d.meter.lastPower.getD ph ⟨0, 0, 0, 0, 0⟩
  let gap := bridgeTicks d ph a b
  let share (e : Int) : Int := shareOf e gap last.span
  let product (xs : List (Int × Int × Nat × Bool)) : Int := xs.foldl (fun s x => s + x.1 * x.2.1 * (x.2.2.1 : Int)) 0
  let p := product ps
  let coarse := ps.filter (·.2.2.2)
  let cp := product coarse + share last.p
  let ct := coarse.foldl (fun s x => s + x.2.2.1) 0 / 65536 + gap
  let whole := (squares d (4 + ph) a b).2 == 0 || (squares d ph a b).2 == 0
  let s := if whole then (share last.s).toNat else apparentEnergy d ph a b (b - a)
  let f := fundSums d ph a b (fun t => !bridged d ph t t && !bridged d (4 + ph) t t)
  let all := fundSums d ph a b (fun _ => true)
  let neg := d.meter.lastQ1Negative.getD ph false
  let mk := if ct = 0 then 0 else 1
  if unpairable d ph then
    if all.2.2.2 then some ⟨all.1, all.1, all.2.1, s, 0, 0, mk + 128⟩ else none
  else
    let mark := mk + if all.2.2.2 then 0 else 512
    if f.2.2.2 then some ⟨p + share last.p, f.1 + share last.p1, f.2.1 + share last.q1, s, cp, ct, mark⟩
    else
      let rest := apparentEnergy d ph a b (b - a - gap)
      some ⟨p + share last.p, p + share last.p1, substituteQ rest p neg + share last.q1, s, cp, ct, mark⟩

/-- Marks that samples of an interval bring (R366). -/
def noteMarks (d : Pod) (a b : Tick) : Nat :=
  let ns := d.meter.notes.filter (fun n => decide (a ≤ n.stamp ∧ n.stamp < b))
  let has (k : Nat) : Bool := ns.any (fun n => n.kind == k)
  let rc := (List.range 7).any (fun i => ((d.meter.pip.getD i []) ++ (d.meter.fine.getD i [])).any
    (fun x => x.rc && decide (a ≤ x.stamp ∧ x.stamp < b)))
  2 * b2n (has 0 || has 1 || has 2 || has 4) + 4 * b2n (has 5) + 8 * b2n rc + 16 * b2n (has 3) + 32 * b2n (has 2)

/-- An energy gap of a phase: phase, start, end (R350, R361). -/
abbrev PhaseGap := Nat × Tick × Tick

/-- What a half-cycle does to one phase: the energy it books, or that it misses (R350, R353, R361). -/
inductive PhaseHalf where
  | books (e : Energy)
  | creeps
  | misses (marks : Nat)
deriving DecidableEq, Repr

def phaseHalf (d : Pod) (ph : Nat) (a b cycleFrom : Tick) : PhaseHalf :=
  if missingPhase d ph a b then .misses 256
  else if rmsBelow d ph cycleFrom b (d.val 0x73 0) then .creeps
  else match phaseEnergy d ph a b with
    | some e => .books e
    | none => .misses (128 + 512)

def addReg (m : Meter) (k : Nat) (num : Int) : Meter :=
  { m with regs := putAt m.regs k (m.regs.getD k 0 + (roundTies (max num 0) (energyDen / 2 ^ 40)).toNat) }

/-- The registers of R356 receive the energies of a half-cycle. -/
def addEnergies (m : Meter) (es : List (Nat × Energy)) : Meter :=
  let sum (f : Energy → Int) : Int := es.foldl (fun s e => s + f e.2) 0
  let p := sum (·.p)
  let p1 := sum (·.p1)
  let q := sum (·.q1)
  let s := sum (fun e => (e.s : Int))
  let m1 := addReg (addReg m 0 p) 1 (-p)
  let m2 := addReg (addReg m1 2 p1) 3 (-p1)
  let m3 := addReg (addReg m2 4 (if 0 ≤ p1 then q else 0)) 5 (if p1 < 0 then q else 0)
  let m4 := addReg (addReg m3 6 (if p1 < 0 then -q else 0)) 7 (if 0 ≤ p1 then -q else 0)
  let m5 := es.foldl (fun m e => addReg m (9 + e.1) e.2.p) (addReg m4 8 s)
  { m5 with coarse := m5.coarse + (roundTies (sum (·.coarseP)).natAbs (energyDen / 2 ^ 40)).toNat }

/-- The bound of a gap over some ticks, in 2^-40 mWh: the voltages of some phases, each its last Urms, or its ratio over
the root of 2 where that is zero, times the gain-1 full scale of the current (R361, R488). -/
def gapBound (d : Pod) (urms : Nat → Nat) (phases : List Nat) (ticks : Tick) : Nat :=
  let a := (phases.filter (fun k => urms k != 0)).foldl (fun s k => s + urms k * d.val 0x50 (k + 1)) 0
  let b := (phases.filter (fun k => urms k == 0)).foldl (fun s k => s + d.val 0x50 (5 + k) * d.val 0x50 (k + 1)) 0
  let num : Int := ((rootNearest ((a * ticks) ^ 2 * 2 ^ 119) 1 + b * ticks * 2 ^ 59 : Nat) : Int)
  (roundTies num (2 ^ 20 * 65536000 * 3600000)).toNat

/-- The part of an interval in which an input yields values or a bridge stands for them, and the span of its samples. -/
def inputPart (d : Pod) (i : Nat) (a b : Tick) : Option (Tick × Tick × Nat) :=
  let xs := (seriesOf d i).filter (inside a b)
  let gs := d.meter.bridges.filter (fun g => g.input == i && decide (g.start < b ∧ a < g.stop))
  if xs.isEmpty && gs.isEmpty then none
  else
    some (gs.foldl (fun m g => min m (max a g.start)) (xs.foldl (fun m x => min m x.stamp) b),
      gs.foldl (fun m g => max m (min b g.stop)) (xs.foldl (fun m x => max m (x.stamp + x.span / 65536)) a),
      (xs.headD ⟨0, 0, 0, false⟩).span / 65536)

/-- The part of an interval over which both inputs of a phase yield values: all of it but for ends of two samples or more without
any (R334, R361); none where one of them yields nothing. -/
def presentPart (d : Pod) (ph : Nat) (a b : Tick) : Option (Tick × Tick) :=
  match inputPart d (4 + ph) a b, inputPart d ph a b with
  | some u, some i =>
    let span := max u.2.2 i.2.2
    let lo := max u.1 i.1
    let hi := min u.2.1 i.2.1
    let apart (x y : Tick) : Bool := decide (x + max 1 (2 * span) ≤ y)
    if b ≤ lo ∨ hi ≤ a ∨ hi ≤ lo then none
    else some (if apart a lo then lo else a, if apart hi b then hi else b)
  | _, _ => none

/-- What a half-cycle does to a phase: the part over which it is present, what it does there, whether it misses it all. -/
structure PhasePart where
  phase : Nat
  start : Tick
  stop : Tick
  half : PhaseHalf
deriving DecidableEq, Repr

def phasePart (d : Pod) (a b cycleFrom : Tick) (ph : Nat) : PhasePart :=
  match presentPart d ph a b with
  | none => ⟨ph, b, b, .misses 256⟩
  | some (lo, hi) =>
    match phaseHalf d ph lo hi cycleFrom with
    | .misses k => ⟨ph, b, b, .misses k⟩
    | h => ⟨ph, lo, hi, h⟩

/-- Length of an interval that a phase misses. -/
def PhasePart.missed (x : PhasePart) (a b : Tick) : Tick := (x.start - a) + (b - x.stop)

/-- The energies of a phase over the part of a half-cycle in which it is formed, creeping or not; none where a bridge lies in it (R359). -/
def halfPower (d : Pod) (x : PhasePart) : Option HalfPower :=
  if decide (x.start < x.stop) && bridgeTicks d x.phase x.start x.stop == 0 then
    (phaseEnergy d x.phase x.start x.stop).map (fun e => ⟨e.p, e.p1, e.q1, e.s, (x.stop - x.start) * 65536⟩)
  else none

/-- Books one half-cycle (R354-R361): registers, coarse time, marks, gaps that end. A partial one refreshes no half-cycle
quantity (R374). -/
def bookHalf (d : Pod) (iv : Interval) (whole : Bool) : Pod × List PhaseGap :=
  let a := iv.start
  let b := iv.stop
  let m := d.meter
  let from_ := iv.cycleFrom
  let parts := (formedPhases d).map (phasePart d a b from_)
  let es := parts.filterMap (fun x => match x.half with | .books e => some (x.phase, e) | _ => none)
  let marks := parts.foldl (fun k x => (match x.half with | .books e => k ||| e.marks | .misses q => k ||| q | .creeps => k) |||
    (if a < x.start ∧ x.start < b ∨ a < x.stop ∧ x.stop < b then 256 else 0)) 0
  let ct := es.foldl (fun t e => max t e.2.coarseTicks) 0
  let ended := parts.filterMap (fun x => if x.start = b then none else match m.missingFrom.getD x.phase none with
    | some t => some (x.phase, t, x.start)
    | none => if a < x.start then some (x.phase, a, x.start) else none)
  let miss := Vector.ofFn (fun ph : Fin 3 => match parts.find? (fun x => x.phase == ph.val) with
    | some x => if x.start = b then some ((m.missingFrom[ph]).getD a) else if x.stop < b then some x.stop else none
    | none => none)
  let rms (i : Nat) : Nat := rmsFull d i from_ b
  let volts := Vector.ofFn (fun ph : Fin 3 => if (formedPhases d).contains ph.val then rms (4 + ph.val) else 0)
  let amps := Vector.ofFn (fun i : Fin 4 => if i.val = 3 || (formedPhases d).contains i.val then rms i.val else 0)
  let excess := volts.toList.any (fun v => decide (4294967295 < v)) || amps.toList.any (fun v => decide (4294967295 < v))
  let allMarks := marks ||| noteMarks d a b ||| (if iv.kind = 3 then 64 else 0) ||| (if excess then 2 else 0)
  let m0 := addEnergies m es
  let bound := parts.foldl (fun n x => n + gapBound d (fun k => m.lastUrms.getD k 0) [x.phase] (x.missed a b)) 0
  let m1 := { m0 with
    regs := putAt m0.regs 13 (m0.regs.getD 13 0 + bound), boundary := b, lastBooking := b, missingFrom := miss,
    booked := m.booked ++ [(b, ct, allMarks, es.foldl (fun k e => setBit k e.1) 0)],
    lastQ1Negative := Vector.ofFn (fun ph : Fin 3 => match es.find? (fun e => e.1 == ph.val) with
      | some e => if e.2.marks / 512 % 2 = 0 then decide (e.2.q1 < 0) else m.lastQ1Negative[ph]
      | none => m.lastQ1Negative[ph]) }
  let m2 := if !whole then m1 else { m1 with
    halves := m.halves + 1, halfKind := iv.kind, halfMarks := allMarks, halfStamp := b,
    urmsHalf := volts.map (min 4294967295 ·), irmsHalf := amps.map (min 4294967295 ·),
    lastPower := Vector.ofFn (fun ph : Fin 3 => ((parts.find? (fun x => x.phase == ph.val)).bind (halfPower d)).getD m.lastPower[ph]) }
  ({ d with meter := m2 }, ended)

/-- Values that no later half-cycle or window needs leave the logs; 1 s stays for phasors and harmonics. -/
def pruneLogs (d : Pod) : Pod :=
  let m := d.meter
  let first := (m.winQueue.map (·.start) ++ m.halfQueue.map (·.start) ++ (d.harm.due.map (·.start)).toList).foldl min
    (min d.harm.start (min m.winStart m.boundary))
  let from_ := first - 65536000
  { d with meter := { m with
      fine := m.fine.map (fun l => l.filter (fun x => decide (from_ ≤ x.stamp))),
      pip := m.pip.map (fun l => l.take 1088 ++ (l.drop 1088).filter (fun x => decide (from_ ≤ x.stamp))),
      fund := m.fund.map (fun l => l.filter (fun x => decide (from_ ≤ x.stamp))),
      resp := m.resp.map (fun l => l.filter (fun x => decide (from_ ≤ x.stamp))),
      spans := m.spans.filter (fun g => g.stop.elim true (fun u => decide (from_ ≤ u))),
      notes := m.notes.filter (fun n => decide (from_ ≤ n.stamp)),
      bridges := m.bridges.filter (fun g => decide (from_ ≤ g.stop)),
      booked := m.booked.filter (fun x => decide (from_ ≤ x.1)) } }

/-- HALF_CYCLE_BOOKING: the oldest half-cycle formed and not yet booked (R354); none waiting changes nothing. -/
def bookNext (d : Pod) : Pod × List PhaseGap :=
  match d.meter.halfQueue with
  | [] => (d, [])
  | iv :: rest =>
    let r := bookHalf { d with meter := { d.meter with halfQueue := rest } } iv true
    (pruneLogs r.1, r.2)

/-! ### Windows (R344-R353, R366, R367) -/

def satI32 (v : Int) : Int × Bool := (clampInt (-2147483648) 2147483647 v, decide (v < -2147483648 ∨ 2147483647 < v))

/-- The powers of a phase over a window: P, P1, Q1 in 2^-120 uW with the spans they are means over, S in 2^-104 uVA. -/
structure PhaseWindow where
  p : Int
  pSpan : Nat
  p1 : Int
  q1 : Int
  fSpan : Nat
  s : Nat
  u : Nat
  i : Nat
  creeps : Bool
  missing : Bool
  settling : Bool
  unpaired : Bool
deriving DecidableEq, Repr

def phaseWindow (d : Pod) (ph : Nat) (a b : Tick) : PhaseWindow :=
  let ps := pairsOf d ph a b
  let f := fundSums d ph a b (fun _ => true)
  let su := squares d (4 + ph) a b
  let si := squares d ph a b
  let un := unpairable d ph
  let p := ps.foldl (fun s x => s + x.1 * x.2.1 * (x.2.2.1 : Int)) 0
  { p := if un then f.1 else p
    pSpan := if un then f.2.2.1 else ps.foldl (fun s x => s + x.2.2.1) 0
    p1 := f.1, q1 := f.2.1, fSpan := f.2.2.1
    s := rootNearest (su.1 * si.1) (su.2 * si.2)
    u := rmsOf d (4 + ph) a b, i := rmsOf d ph a b
    creeps := rmsBelow d ph a b (d.val 0x73 0)
    missing := missingPhase d ph a b
    settling := !f.2.2.2, unpaired := un }

/-- A mean power in mW from a sum over a span. -/
def meanPower (sum : Int) (span : Nat) : Int := if span = 0 then 0 else roundOpen sum (2 ^ 120 * 1000 * span)

/-- The sum of the means of several phases in mW, rounded once. -/
def totalPower (xs : List (Int × Nat)) : Int :=
  let ys := xs.filter (fun x => x.2 != 0)
  let den := ys.foldl (fun n x => n * x.2) 1
  roundOpen (ys.foldl (fun s x => s + x.1 * (den / x.2 : Nat)) 0) (2 ^ 120 * 1000 * den)

def apparent (s : Nat) : Nat := (roundOpen s (2 ^ 104 * 1000)).toNat

/-- A power factor in 2^-31: mean power, at 65 536 times its scale, over apparent power; free where that is zero (log 5). -/
def factorOf (d : Pod) (sum : Int) (span s : Nat) : Int :=
  if s = 0 ∨ span = 0 then Config.undefinedFactor d.meter.window.seq else roundOpen (sum * 2147483648) (65536 * s * span)

/-- The row of R369 that a phase falls in, in 0.001 % (R367). -/
def baseError (d : Pod) (ph : Nat) (w : PhaseWindow) : Nat :=
  let r := d.val 0x50 (ph + 1)
  let atLeast (ppm : Nat) : Bool := decide (ppm ^ 2 * r ^ 2 ≤ 2 * 1000000000000 * w.i ^ 2)
  let pf100 (k : Nat) : Bool := decide (k * (65536 * w.s * w.pSpan) ≤ 100 * w.p.natAbs)
  if !atLeast 0 || !(decide (2 * w.i ^ 2 ≤ r ^ 2)) then 1000
  else if pf100 99 then (if atLeast 10000 then 200 else if atLeast 1000 then 500 else 1000)
  else if pf100 (if 0 ≤ w.q1 then 50 else 80) then (if atLeast 20000 then 300 else 1000)
  else 1000

def noteCount (d : Pod) (a b : Tick) (kind : Nat) (metering : Bool) : Nat :=
  (d.meter.notes.filter (fun n => n.kind == kind && decide (a ≤ n.stamp ∧ n.stamp < b) && (!metering || decide (n.input ≤ 6)))).length

/-- The declared error of a window, in 0.001 %, over the phases that booked in it (R367). -/
def declaredError (d : Pod) (a b : Tick) (phases : List (Nat × PhaseWindow)) (booked coarse marks : Nat) : Nat :=
  let base := (phases.filter (fun x => bit booked x.1)).foldl (fun m x => max m (baseError d x.1 x.2)) 0
  let n := (List.range 4).foldl (fun n i => n + ((d.meter.fine.getD i []).filter (fun x => decide (a ≤ x.stamp ∧ x.stamp < b))).length) 0
  let perSample := 200000 * noteCount d a b 0 true +
    100000 * (noteCount d a b 2 true + noteCount d a b 3 false + noteCount d a b 4 true)
  let fixed := base + 50 * (marks / 4 % 2) + 50 * (marks / 8 % 2) + 5000 * (marks / 128 % 2)
  if noteCount d a b 1 true ≠ 0 then 0xFFFFFFFF
  else if perSample ≠ 0 ∧ n = 0 then 0xFFFFFFFF
  else
    let len := max 1 (b - a)
    let k := max 1 n
    min 0xFFFFFFFF (roundOpen ((fixed * k * len + 1000 * coarse * k + perSample * len : Nat) : Int) (k * len)).toNat

/-- An input yields values over the whole of an interval, bridges counted. -/
def covered (d : Pod) (i : Nat) (a b : Tick) : Bool :=
  let xs := (seriesOf d i).filter (inside a b)
  let span := xs.foldl (fun s x => s + x.span) 0
  let br := (d.meter.bridges.filter (fun g => g.input == i)).foldl (fun s g => s + (min b g.stop - max a g.start)) 0
  decide ((b - a) * 65536 ≤ span + br * 65536 + 2 * (xs.headD ⟨0, 0, 0, false⟩).span)

/-- The quantities of a window (R343, R347, R348, R351, R352). -/
def windowValues (d : Pod) (iv : Interval) : Pod :=
  let a := iv.start
  let b := iv.stop
  let m := d.meter
  let phs := (formedPhases d).map (fun ph => (ph, phaseWindow d ph a b))
  let ph (k : Nat) : Option PhaseWindow := (phs.find? (fun x => x.1 == k)).map (·.2)
  let live := phs.filter (fun x => !x.2.missing)
  let bk := m.booked.filter (fun x => decide (a < x.1 ∧ x.1 ≤ b + 1))
  let coarse := bk.foldl (fun t x => t + x.2.1) 0
  let totP := totalPower (live.map (fun x => (x.2.p, x.2.pSpan)))
  let totS := live.foldl (fun s x => s + x.2.s) 0
  let val (f : PhaseWindow → Int) (k : Nat) : Int := match ph k with | some w => if w.missing then 0 else f w | none => 0
  let vp (k : Nat) : Int := if k = 3 then totP else val (fun w => meanPower w.p w.pSpan) k
  let vp1 (k : Nat) : Int := if k = 3 then totalPower (live.map (fun x => (x.2.p1, x.2.fSpan))) else val (fun w => meanPower w.p1 w.fSpan) k
  let vq1 (k : Nat) : Int := if k = 3 then totalPower (live.map (fun x => (x.2.q1, x.2.fSpan))) else val (fun w => meanPower w.q1 w.fSpan) k
  let vs (k : Nat) : Nat := if k = 3 then apparent totS else (val (fun w => (apparent w.s : Int)) k).toNat
  let den := live.foldl (fun n x => n * max 1 x.2.pSpan) 1
  let vf (k : Nat) : Int :=
    if k = 3 then
      if !live.isEmpty && live.all (fun x => x.2.creeps) then 0x7FFFFFFF
      else factorOf d (live.foldl (fun s x => s + x.2.p * (den / max 1 x.2.pSpan : Nat)) 0) den totS
    else match ph k with
      | some w => if w.missing then 0 else if w.creeps then 0x7FFFFFFF else factorOf d w.p w.pSpan w.s
      | none => 0
  let sat := (List.range 4).any (fun k => (satI32 (vp k)).2 || (satI32 (vp1 k)).2 || (satI32 (vq1 k)).2 || decide (4294967295 < vs k) ||
    (satI32 (vf k)).2)
  let inputs := (formedPhases d).flatMap (fun k => [k, 4 + k]) ++ [3]
  let excess := inputs.any (fun i => decide (4294967295 < rmsFull d i a b))
  let marks := noteMarks d a b ||| (bk.foldl (fun k x => k ||| x.2.2.1) 0) ||| (if coarse = 0 then 0 else 1) |||
    (if sat || excess then 2 else 0) ||| (if iv.kind = 3 then 64 else 0) ||| (if phs.any (·.2.unpaired) then 128 else 0) |||
    (if inputs.all (fun i => covered d i a b) then 0 else 256) ||| (if live.any (·.2.settling) then 512 else 0) |||
    (if iv.truncated then 1024 else 0)
  let rise := iv.rising
  let freq := if iv.truncated then m.freq else if iv.kind = 3 then 0
    else (roundOpen (((rise.length - 1) * 65536000000 : Nat) : Int) (rise.getLastD 0 - rise.headD 0)).toNat
  { d with meter := { m with
      urms := Vector.ofFn (fun k : Fin 3 => if (formedPhases d).contains k.val then rmsOf d (4 + k.val) a b else 0),
      lastUrms := Vector.ofFn (fun k : Fin 3 =>
        if (formedPhases d).contains k.val && rmsOf d (4 + k.val) a b != 0 then rmsOf d (4 + k.val) a b else m.lastUrms[k]),
      irms := Vector.ofFn (fun i : Fin 4 => if i.val = 3 || (formedPhases d).contains i.val then rmsOf d i.val a b else 0),
      p := Vector.ofFn (fun k : Fin 4 => (satI32 (vp k.val)).1), p1 := Vector.ofFn (fun k : Fin 4 => (satI32 (vp1 k.val)).1),
      q1 := Vector.ofFn (fun k : Fin 4 => (satI32 (vq1 k.val)).1), s := Vector.ofFn (fun k : Fin 4 => min 4294967295 (vs k.val)),
      pf := Vector.ofFn (fun k : Fin 4 => (satI32 (vf k.val)).1), freq := freq,
      window := ⟨wrap32 (m.window.seq + 1), a, b, if iv.kind = 3 then 0 else iv.cycles, marks,
        declaredError d a b phs (bk.foldl (fun k x => k ||| x.2.2.2) 0) coarse marks, noteCount d a b 0 true + noteCount d a b 1 true, coarse⟩ } }

/-- WINDOW_END: the oldest window whose end is known (R347); none waiting changes nothing. -/
def windowNext (d : Pod) : Pod :=
  match d.meter.winQueue with
  | [] => d
  | iv :: rest => windowValues { d with meter := { d.meter with winQueue := rest } } iv

/-! ### Timing: crossings, reference, half-cycles (R339-R342, R344, R345) -/

/-- Frequency reference order of the wiring (R332). -/
def sourceOrder (d : Pod) : List Nat := if d.val 0x70 0 = 0 then [0, 1, 2] else if d.val 0x70 0 = 1 then [0, 2] else [0]

/-- Length of k half-cycles under R342, in ticks, for a code of `Pod.NominalFreq`. -/
def timedTicks (freq k : Nat) : Tick := if freq = 1 then (roundOpen (k * 65536000 : Nat) 120).toNat else k * 655360

/-- `Pod.NominalFreq` as it was in effect at an instant (R69, R342). -/
def nominalAt (d : Pod) (t : Tick) : Nat :=
  match d.meter.nominal.find? (fun x => decide (x.1 ≤ t)) with
  | some x => x.2
  | none => d.val 0x72 0

/-- A value of `Pod.NominalFreq` takes effect at an instant; the last eight stay known. -/
def noteNominal (t : Tick) (v : Nat) (d : Pod) : Pod :=
  if v = nominalAt d t then d else { d with meter := { d.meter with nominal := ((t, v) :: d.meter.nominal).take 8 } }

/-- The crossing between the two newest fundamental outputs of a voltage as the response delivers them, interpolated to a tick (R341). -/
def crossingOf (fund : List Phase) : Option Crossing :=
  match fund with
  | x1 :: x0 :: _ =>
    if x1.settled && x0.settled && (decide (x0.raw < 0) != decide (x1.raw < 0)) then
      let w : Nat := x0.raw.natAbs + x1.raw.natAbs
      some ⟨x0.stamp + (roundOpen ((x0.raw.natAbs * (x1.stamp - x0.stamp) : Nat) : Int) w).toNat, decide (x0.raw < 0)⟩
    else none
  | _ => none

/-- The rising crossings of a voltage, newest first. -/
def risesOf (m : Meter) (v : Nat) : List Tick := ((m.crossings.getD v []).filter (·.rising)).map (·.stamp)

/-- The last two intervals between rising crossings lie within 1/68 s to 1/42 s (R339). -/
def intervalsGood (rises : List Tick) : Bool :=
  let ok (x : Nat) : Bool := decide (65536000 ≤ 68 * x ∧ 42 * x ≤ 65536000)
  match rises with
  | a :: b :: c :: _ => ok (a - b) && ok (b - c)
  | _ => false

/-- RMS½ at the latest refreshed boundary is at least 3 % of the gain-1 full scale RMS (R339). -/
def rmsEnough (d : Pod) (v : Nat) : Bool := decide (9 * d.val 0x50 (5 + v) ^ 2 ≤ 20000 * d.meter.urmsHalf.getD v 0 ^ 2)

/-- A voltage qualifies at an instant (R339): settled path of its metering channel, RMS½, intervals, no crossing missing since. -/
def qualifies (d : Pod) (v : Nat) (t : Tick) : Bool :=
  let rises := risesOf d.meter v
  (meterChan d (4 + v)).elim false (fun c => (d.chans.getD c .reset).fundSettled) && rmsEnough d v && intervalsGood rises &&
    decide (42 * (t - rises.headD 0) ≤ 65536000)

/-- A half-cycle ends at an instant; `cycleFrom` starts the cycle of its RMS½ (R348). -/
def endHalf (m : Meter) (t : Tick) (kind : Nat) (cycleFrom : Tick) : Meter :=
  if t ≤ m.formed then m
  else { m with halfQueue := m.halfQueue ++ [⟨m.formed, t, kind, 0, false, [], cycleFrom⟩], formed := t }

/-- The window in progress ends at an instant; the next one starts there when `open_`. -/
def endWindow (d : Pod) (m : Meter) (t : Tick) (kind cycles : Nat) (truncated open_ : Bool) (rising : List Tick) : Meter :=
  { m with
    winQueue := if m.winOpen && decide (m.winStart < t) then
      m.winQueue ++ [⟨m.winStart, t, kind, cycles, truncated, rising, m.winStart⟩] else m.winQueue,
    winOpen := open_, winStart := t, winRising := if open_ then [t] else [], winHalves := 0, winCycles := d.val 0x71 0 }

/-- The reference changes to voltage v + 1 at a rising crossing, or to none (R340, R342, R345). -/
def changeSource (d : Pod) (m : Meter) (source : Nat) (t : Tick) (kind : Nat) (cycleFrom : Tick) : Meter :=
  let m1 := endHalf m t kind cycleFrom
  let m2 := endWindow d m1 t (if m.source = 0 then 3 else 1) (m.winRising.length - 1) true true m.winRising
  { m2 with source := source, timedFrom := t, timedCount := 0, timedFreq := nominalAt d t }

/-- The reference is lost at an instant: the timing passes on to STAMP (R340, R342). -/
def loseSource (d : Pod) (m : Meter) (t : Tick) : Meter :=
  { changeSource d m 0 t 3 (t - timedTicks (nominalAt d t) 2) with winRising := [] }

/-- The start of the cycle that a crossing of a voltage ends: its last crossing before in the same direction (R348). -/
def cycleStart (m : Meter) (v : Nat) (c : Crossing) : Tick :=
  (((m.crossings.getD v []).filter (fun x => x.rising == c.rising && decide (x.stamp < c.stamp))).map (·.stamp)).headD
    (2 * m.formed - c.stamp)

/-- A crossing of the reference: a half-cycle ends; at a rising one the window may be complete (R341, R344), and a reference whose
intervals leave the range of R339 is dropped. -/
def refCrossing (d : Pod) (m : Meter) (v : Nat) (c : Crossing) : Meter :=
  let m1 := endHalf m c.stamp (if c.rising then 1 else 2) (cycleStart m v c)
  if !c.rising then m1
  else if !intervalsGood (risesOf m v) then loseSource d m1 c.stamp
  else if !m1.winOpen then { m1 with winOpen := true, winStart := c.stamp, winRising := [c.stamp], winCycles := d.val 0x71 0 }
  else
    let rise := m1.winRising ++ [c.stamp]
    if m1.winCycles < rise.length then endWindow d m1 c.stamp 1 m1.winCycles false true rise
    else { m1 with winRising := rise }

/-- A crossing of voltage v: its qualification, a take-over of the reference, or a half-cycle of it. -/
def voltageCrossing (d : Pod) (v : Nat) (c : Crossing) : Pod :=
  let m0 := { d.meter with crossings := putAt d.meter.crossings v ((c :: d.meter.crossings.getD v []).take 64) }
  let d0 := { d with meter := m0 }
  let good := c.rising && qualifies d0 v c.stamp
  let m := if c.rising then { m0 with qualified := putAt m0.qualified v (if good then m0.qualified.getD v 0 + 1 else 0) } else m0
  let order := sourceOrder d
  let rank (x : Nat) : Nat := order.findIdx (· == x)
  let m' :=
    if m.source = v + 1 then refCrossing d m v c
    else if good && order.contains v &&
        ((m.source == 0 && order.all (fun w => decide (rank v ≤ rank w) || !qualifies d0 w c.stamp)) ||
         (m.source != 0 && decide (rank v < rank (m.source - 1)) && decide (10 ≤ m.qualified.getD v 0))) then
      changeSource d m (v + 1) c.stamp 1 (cycleStart m v c)
    else m
  { d with meter := m' }

/-- Half-cycles timed from STAMP up to the instant at which crossings are known (R342). Where `Pod.NominalFreq` has changed, the
half-cycles after the change count on from the boundary before them. -/
def timedSteps (d : Pod) (horizon : Tick) : Nat → Meter → Meter
  | 0, m => m
  | n + 1, m =>
    let f := nominalAt d m.formed
    let m0 := if f = m.timedFreq then m else { m with timedFrom := m.formed, timedCount := 0, timedFreq := f }
    let t := m0.timedFrom + timedTicks f (m0.timedCount + 1)
    if m.source = 0 ∧ t ≤ horizon then
      let m1 : Meter := { endHalf m0 t 3 (t - timedTicks f 2) with timedCount := m0.timedCount + 1, winHalves := m0.winHalves + 1 }
      let m2 : Meter := if m1.winOpen then m1
        else { m1 with winOpen := true, winStart := m0.formed, winRising := [], winHalves := 1, winCycles := d.val 0x71 0 }
      timedSteps d horizon n (if 2 * m2.winCycles ≤ m2.winHalves then { endWindow d m2 t 3 0 false true [] with winRising := [] } else m2)
    else m

/-- The timing after a frame: crossings of the voltages whose fundamental path delivered, then STAMP timing. -/
def timingRun (before d : Pod) : Pod :=
  let d1 := [0, 1, 2].foldl (fun d v =>
    let f := d.meter.fund.getD (4 + v) []
    if (f.map (·.stamp)).headD 0 ≠ ((before.meter.fund.getD (4 + v) []).map (·.stamp)).headD 0 then
      match crossingOf f with
      | some c => voltageCrossing d v c
      | none => d
    else d) d
  { d1 with meter := timedSteps d1 (stampBehind d1 34588) 8 d1.meter }

/-- A reference that shows no crossing for 1/42 s is dropped at that instant (R340). -/
def dropReference (d : Pod) : Pod :=
  let m := d.meter
  if m.source = 0 then d
  else
    let last := ((m.crossings.getD (m.source - 1) []).map (·.stamp)).headD m.formed
    if 65536000 ≤ 42 * (stampBehind d 34588 - last) then { d with meter := loseSource d m (last + 1560381) } else d

/-- The timing as it stood at a boundary: what was formed after it falls away. -/
def rewindTo (m : Meter) (t : Tick) : Meter :=
  let m1 := { m with
    halfQueue := m.halfQueue.filter (fun iv => decide (iv.stop ≤ t)), formed := min m.formed t,
    winQueue := m.winQueue.filter (fun iv => decide (iv.stop ≤ t)) }
  match m.winQueue.find? (fun iv => decide (t < iv.stop)) with
  | some iv => { m1 with winStart := iv.start, winRising := iv.rising.filter (fun x => decide (x ≤ t)), winOpen := decide (iv.start ≤ t) }
  | none => { m1 with winRising := m.winRising.filter (fun x => decide (x ≤ t)), winOpen := m.winOpen && decide (m.winStart ≤ t) }

/-- A reference whose RMS½ falls below the level of R339 is dropped at the boundary at which that RMS½ has been refreshed: the half-cycle
before it stands, and the timing passes on from there (R340). -/
def dropLow (d : Pod) : Pod :=
  let m := d.meter
  if m.source = 0 ∨ rmsEnough d (m.source - 1) ∨ m.boundary ≤ m.timedFrom then d
  else { d with meter := loseSource d (rewindTo m m.boundary) m.boundary }

/-! ### The end of sampling (R345, R362) -/

/-- The last instant delivered on the active-energy path: the earliest of the newest values of the phases that do not miss. -/
def lastInstant (d : Pod) : Option Tick :=
  let newest (i : Nat) : Option Tick := ((seriesOf d i).map (·.stamp)).foldl (fun a x => some (max x (a.getD 0))) none
  let live := (formedPhases d).filter (fun k => (meterChan d k).isSome && (meterChan d (4 + k)).isSome)
  (live.flatMap (fun k => [k, 4 + k])).foldl (fun a i => match a, newest i with
    | some x, some y => some (min x y)
    | none, y => y
    | x, none => x) none

/-- Every value of an interval that booking and windows use has been delivered (R347, R354). -/
def reached (d : Pod) (t : Tick) : Bool :=
  inputDelivered d t 3 && (formedPhases d).all (fun k => (meterChan d k).isNone || (meterChan d (4 + k)).isNone ||
    (inputDelivered d t k && inputDelivered d t (4 + k)))

/-- An interval cut after an instant. -/
def cutInterval (iv : Interval) (common : Tick) : Interval :=
  let rise := iv.rising.filter (fun t => decide (t ≤ common))
  { iv with stop := common, cycles := rise.length - 1, truncated := true, rising := rise }

/-- The one instant at which every register stops (R362): the arming instant of an idle entry, or the last instant delivered. -/
def commonInstant (d : Pod) (limit : Option Tick) : Tick :=
  max d.meter.boundary (match limit, lastInstant d with
    | some t, _ => t
    | none, some t => t
    | none, none => d.meter.formed)

/-- The oldest half-cycle formed ends within an instant. -/
def queuedBy (d : Pod) (common : Tick) : Bool :=
  d.meter.halfQueue.head?.elim false (fun iv => decide (iv.stop ≤ common + 1))

/-- The cycle that ends at an instant, for the RMS½ of a partial half-cycle: the reference's last one, or a nominal one (R348). -/
def cycleBefore (d : Pod) (t : Tick) : Tick :=
  match if d.meter.source = 0 then [] else risesOf d.meter (d.meter.source - 1) with
  | a :: b :: _ => t - (a - b)
  | _ => t - timedTicks (nominalAt d t) 2

/-- Books what is formed up to the common instant, half-cycles of R342 up to it among that, then the half-cycle in progress, split where
the fundamental path ends; ends the window (R345, R362, R374). -/
def bookPartial (before : Pod) (common : Tick) : Pod × List PhaseGap :=
  let d := { before with meter := timedSteps before (common + 1) 128 before.meter }
  let m0 := d.meter
  let full := m0.halfQueue.foldl (fun (r : Pod × List PhaseGap) iv =>
    let x := if iv.stop ≤ common + 1 then bookHalf r.1 iv true
      else if iv.start ≤ common then bookHalf r.1 { iv with stop := common + 1 } false else (r.1, [])
    (x.1, r.2 ++ x.2)) ({ d with meter := { m0 with halfQueue := [] } }, [])
  let kind := if m0.source = 0 then 3 else 1
  let fundEnd := min (common + 1) (max m0.formed (stampBehind d 34588 + 1))
  let part (r : Pod × List PhaseGap) (a b : Tick) : Pod × List PhaseGap :=
    if a < b then let x := bookHalf r.1 ⟨a, b, kind, 0, true, [], cycleBefore d b⟩ false; (x.1, r.2 ++ x.2) else r
  let r2 := part (part full m0.formed fundEnd) fundEnd (common + 1)
  let d2 := r2.1
  let m := d2.meter
  let ended := (formedPhases d2).filterMap (fun ph => (m.missingFrom.getD ph none).map (fun t => (ph, t, common)))
  let queue := (m.winQueue.filter (fun iv => decide (iv.start < common))).map (fun iv =>
    if iv.stop ≤ common then iv else cutInterval iv common)
  let m1 := endWindow d2 { m with winQueue := queue, formed := common, boundary := common, lastBooking := max m0.lastBooking common,
                                   missingFrom := .replicate 3 none, source := 0 } common kind (m.winRising.length - 1) true false m.winRising
  let d3 := m1.winQueue.foldl windowValues { d2 with meter := { m1 with winQueue := [] } }
  ({ d3 with meter := { d3.meter with bridges := [], notes := [], booked := [] } }, r2.2 ++ ended)

end Sys2Proof.Machine
end

