-- ==== Sys2Proof/Machine/Harm.lean ====
section
/-! DEFINITION. Harmonic windows, the resampling and the DFT of their inputs, their results, and the fundamental phasors of a Pod
(R375-R394). -/

namespace Sys2Proof.Machine

/-! ### Harmonic windows (R375-R378, R389) -/

/-- A harmonic window starts: its settings are those in effect (R378, R381). -/
def harmStart (d : Pod) (t : Tick) : Harm :=
  { d.harm with start := t, enabled := d.val 0x90 0, grouping := d.val 0x91 0 }

/-- A harmonic window that ends early is discarded and counted (R377). -/
def harmDiscard (d : Pod) (t : Tick) : Pod := { d with harm := harmStart d t, counters := bump d.counters 9 }

/-- The harmonic window in progress, where its end is known: the instants that delimit its cycles, from its start on (R375, R376). -/
def harmEnd (d : Pod) : Option (List Tick) :=
  let m := d.meter
  let t0 := d.harm.start
  if m.source = 0 then
    let c := if nominalAt d t0 = 1 then 12 else 10
    if t0 + 13107200 ≤ m.formed then some ((List.range (c + 1)).map (fun k => t0 + (roundOpen (k * 13107200 : Nat) c).toNat)) else none
  else
    let rs := ((risesOf m (m.source - 1)).filter (fun t => decide (t0 < t))).reverse
    match rs with
    | [] => none
    | r :: _ =>
      let c := if 65536000 < 55 * (r - t0) then 10 else 12
      if c ≤ rs.length then some (t0 :: rs.take c) else none

/-- HARMONIC_WINDOW_END: the window goes to the unit, or is discarded while one is unpublished (R389). -/
def harmWindowEnd (d : Pod) : Pod :=
  match harmEnd d with
  | none => d
  | some rises =>
    let h := d.harm
    let t := rises.getLastD h.start
    match h.due with
    | none => { d with harm := { harmStart d t with
        due := some ⟨h.start, t, rises.length - 1, rises, d.meter.source == 0, h.enabled, h.grouping⟩ } }
    | some _ => { d with harm := { harmStart d t with skipped := true }, counters := bump d.counters 9 }

/-! ### Resampling and bins (R379, R380) -/

/-- The response outputs around a point, seven before and eight after its place, oldest first, and its place between the middle two in
2^-16; the outputs are newest first. -/
def samplesAround (xs : List Sample) (num den : Nat) : List Int × Nat :=
  -- the point lies at the instant num / den
  let after := (xs.filter (fun x => decide (num < x.stamp * den))).reverse
  let before := xs.filter (fun x => decide (x.stamp * den ≤ num))
  let place := match before, after with
    | x :: _, y :: _ => 65536 * (num - x.stamp * den) / ((y.stamp - x.stamp) * den)
    | _, _ => 0
  (((List.range 8).map (fun k => (before.getD (7 - k) noSample).value)) ++ ((List.range 8).map (fun k => (after.getD k noSample).value)), place)

/-- A resampled point in 2^-82 of the primary unit: the interpolator's weights are the device's own (R379, log 13). -/
def resampled (xs : List Sample) (num den : Nat) : Int :=
  let (ys, place) := samplesAround xs num den
  ((List.range 16).map (fun k => Config.resampleWeight place k * ys.getD k 0)).foldl (· + ·) 0

/-- The 128 points of each cycle, evenly spaced between the two crossings that delimit it (R379). -/
def cyclePoints (xs : List Sample) : List Tick → List Int
  | a :: b :: rest => (List.range 128).map (fun k => resampled xs (128 * a + k * (b - a)) 128) ++ cyclePoints xs (b :: rest)
  | _ => []

/-- Bin k of the DFT of N points, times N and 2^64 over the square root of 2 (R380). -/
def dftBin (points : List Int) (k : Nat) : Int × Int :=
  let n := points.length
  ((points.zipIdx).foldl (fun (s : Int × Int) (x : Int × Nat) =>
    let cs := cosSin (-((k * x.2 : Nat) : Int) * 281474976710656 / max 1 n)
    (s.1 + x.1 * cs.1, s.2 + x.1 * cs.2)) (0, 0))

/-! ### Results (R380-R386) -/

/-- An analysed input of a window: its response, mean frequency in mHz, cycles, points. -/
structure Spectrum where
  resp : Nat
  freq : Nat
  cycles : Nat
  points : List Int
deriving DecidableEq, Repr

/-- The highest order of R382 for a window of C cycles over some ticks. -/
def highestOrder (resp cycles ticks : Nat) : Nat :=
  if resp = 3 ∨ resp = 4 then 1
  else
    let edge := if resp = 1 then 1000 else if resp = 2 then 1600 else 3200
    min 63 (edge * ticks / max 1 (cycles * 65536000))

/-- A bin after its correction for the response, the droop and the resampler at its frequency (R380). -/
def Spectrum.bin (x : Spectrum) (k : Nat) : Int × Int :=
  let v := dftBin x.points k
  let f := Config.binFactor x.resp x.freq x.cycles k
  (v.1 * f.1 - v.2 * f.2, v.1 * f.2 + v.2 * f.1)

def Spectrum.power (x : Spectrum) (k : Nat) : Nat := (x.bin k).1.natAbs ^ 2 + (x.bin k).2.natAbs ^ 2

/-- Twice the sum of squares that makes the magnitude of order n under a grouping (R381). -/
def Spectrum.order (x : Spectrum) (grouping n : Nat) : Nat :=
  let at_ := n * x.cycles
  if grouping = 0 then 2 * x.power at_
  else if grouping = 1 then 2 * (x.power (at_ - 1) + x.power at_ + x.power (at_ + 1))
  else
    let h := x.cycles / 2
    x.power (at_ - h) + x.power (at_ + h) + 2 * ((List.range (x.cycles - 1)).map (fun k => x.power (at_ - h + 1 + k))).foldl (· + ·) 0

/-- What divides `Spectrum.order` for the square of a magnitude in the primary unit: bins carry N, 2^82, 2^64 and 2^30, over root 2. -/
def Spectrum.unit (x : Spectrum) : Nat := x.points.length ^ 2 * 2 ^ 352

/-- An input is valid in a window: enabled, metered, every response output in it with VALID = 1, no reset within (R378, R386). -/
def harmValid (d : Pod) (w : HarmDue) (i : Nat) : Bool :=
  let xs := (d.meter.resp.getD i []).filter (fun x => decide (w.start ≤ x.stamp ∧ x.stamp < w.stop))
  bit w.enabled i && (meterChan d i).isSome && !xs.isEmpty && xs.all (·.valid) &&
    !d.meter.bridges.any (fun g => g.input == i && decide (w.start < g.stop ∧ g.start < w.stop)) &&
    (d.meter.bridgeFrom.getD i none).elim true (fun t => decide (w.stop ≤ t))

def harmResp (d : Pod) (i : Nat) : Nat := chanResp d ((meterChan d i).getD 0)

/-- The spectrum of a valid input (R379, R380). -/
def spectrumOf (d : Pod) (w : HarmDue) (i : Nat) : Option Spectrum :=
  if !harmValid d w i then none
  else some ⟨harmResp d i, w.cycles * 65536000000 / max 1 (w.stop - w.start), w.cycles, cyclePoints (d.meter.resp.getD i []) w.rises⟩

/-- Magnitudes of the orders in 0.01 mV or 0.01 mA (R383). -/
def harmMags (d : Pod) (w : HarmDue) (i : Nat) : List Nat :=
  match spectrumOf d w i with
  | none => []
  | some x => (List.range (highestOrder x.resp w.cycles (w.stop - w.start))).map (fun n =>
      min 4294967295 (rootOpen (10000 * x.order w.grouping (n + 1)) x.unit))

/-- Phases of the orders against the first, in 0.01 degree (R383). -/
def harmPhases (d : Pod) (w : HarmDue) (i : Nat) : List Int :=
  match spectrumOf d w i with
  | none => []
  | some x =>
    let at_ (n : Nat) : Int := angleOf (x.bin (n * w.cycles)).1 (x.bin (n * w.cycles)).2
    (List.range (highestOrder x.resp w.cycles (w.stop - w.start))).map (fun n =>
      if n = 0 then 0 else wrapAngle (at_ (n + 1) - (n + 1 : Nat) * at_ 1) 36000)

/-- THD in 0.01 % (R384). -/
def harmThd (d : Pod) (w : HarmDue) (i : Nat) : Nat :=
  match spectrumOf d w i with
  | none => 0xFFFF
  | some x =>
    let p := x.order w.grouping
    let top := highestOrder x.resp w.cycles (w.stop - w.start)
    let sum := ((List.range (top - 1)).map (fun n => p (n + 2))).foldl (· + ·) 0
    -- 1 % of the full scale RMS, which is the full scale over the root of 2
    if 20000 * p 1 < d.val 0x50 (i + 1) ^ 2 * x.unit ∨ p 1 = 0 then 0xFFFF
    else if 65534 ^ 2 * p 1 < sum * 100000000 then 0xFFFE
    else rootOpen (sum * 100000000) (p 1)

/-- HARMONIC_PUBLICATION: the results of the window that is due (R383-R388). -/
def harmPublish (d : Pod) (now : Tick) : Pod :=
  match d.harm.due with
  | none => d
  | some w =>
    let late := decide (89915392 < 10 * (now - w.stop - (w.stop - w.start)))
    let valid := (List.range 7).foldl (fun v i => if harmValid d w i then setBit v i else v) 0
    let marks := noteMarks d w.start w.stop |||
      ((d.meter.booked.filter (fun x => decide (w.start < x.1 ∧ x.1 ≤ w.stop))).foldl (fun k x => k ||| x.2.2.1) 0) |||
      (if w.timed then 64 else 0)
    { d with
      harm := { d.harm with
        due := none, skipped := false, seq := wrap32 (d.harm.seq + 1),
        info := ⟨wrap32 (d.harm.seq + 1), w.start, w.stop, w.cycles, marks, b2n late + 2 * b2n d.harm.skipped, valid,
          Vector.ofFn (fun i : Fin 7 => highestOrder (harmResp d i.val) w.cycles (w.stop - w.start)), now⟩,
        mags := Vector.ofFn (fun i : Fin 7 => harmMags d w i.val),
        phases := Vector.ofFn (fun i : Fin 7 => harmPhases d w i.val),
        thd := Vector.ofFn (fun i : Fin 7 => harmThd d w i.val) },
      counters := if late then bump d.counters 8 else d.counters }

/-! ### Phasors (R390-R392) -/

def phasorTicks (d : Pod) : Tick := if d.val 0x97 0 = 0 then 1310720 else if d.val 0x97 0 = 1 then 6553600 else 65536000

/-- Inputs in the order of `Pod.Phasor`. -/
def phasorInputs : List Nat := [4, 5, 6, 0, 1, 2, 3]

/-- The hub passes an instant of the phasor grid in effect (R391): its quality is that of the instant (R392). -/
def notePhasor (before now : Tick) (quality : Nat) (d : Pod) : Pod :=
  let t := now / phasorTicks d * phasorTicks d
  if before < t then { d with harm := { d.harm with phasorDue := d.harm.phasorDue ++ [(t, quality)] } } else d

/-- Magnitude in mV or mA and angle in 0.0001 degree of an input at T; none without settled outputs around T (R390). -/
def phasorOf (d : Pod) (i : Nat) (t : Tick) : Option (Nat × Int) :=
  if (meterChan d i).isNone then none else
  match bracket (d.meter.fund.getD i []) t with
  | some xy =>
    if xy.1.settled && xy.2.settled then
      let w := weighted xy t (frequencyNow d)
      let den := w.2.2 * 2 ^ 116
      let turn : Int := ((nominalMilli d / 1000 * (t % 65536000) * 281474976710656 / 65536000 : Nat) : Int)
      some (min 4294967295 (rootOpen (w.1.natAbs ^ 2 + w.2.1.natAbs ^ 2) (2 * den ^ 2)), wrapAngle ((angleOf w.1 w.2.1 : Int) - turn) 3600000)
    else none
  | none => none

/-- Marks 0, 6 and 7 of the half-cycle that holds an instant: as booked, or for one that waits the kind of its end (R366). -/
def halfMarksAt (d : Pod) (t : Tick) : Nat :=
  let m := d.meter
  match m.booked.find? (fun x => decide (t < x.1)) with
  | some x => x.2.2.1 &&& 193
  | none => match m.halfQueue.find? (fun iv => decide (t < iv.stop)) with
    | some iv => if iv.kind = 3 then 64 else 0
    | none => if m.source = 0 then 64 else 0

/-- PHASOR_PUBLICATION (R390-R392): the phasors of an instant of the grid that is due, once the fundamental paths have delivered beyond it;
its marks are those of the samples around T and of the half-cycle that holds it. -/
def phasorPublish (d : Pod) (t : Tick) : Pod :=
  match d.harm.phasorDue.find? (fun x => x.1 == t) with
  | none => d
  | some due =>
    if stampBehind d 34588 < t then d
    else
      let xs := phasorInputs.map (fun i => phasorOf d i t)
      let noInput := phasorInputs.any (fun i => (meterChan d i).isNone)
      let settling := phasorInputs.any (fun i => (meterChan d i).isSome && (phasorOf d i t).isNone)
      { d with harm := { d.harm with
          phasorDue := d.harm.phasorDue.filter (fun x => decide (t < x.1)),
          phasorT := t, phasorQuality := due.2, phasorFreq := d.meter.freq,
          phasorMarks := noteMarks d (t - d.framePeriod / 512) (t + d.framePeriod / 512) ||| halfMarksAt d t |||
            (if noInput then 256 else 0) ||| (if settling then 512 else 0),
          phasorMag := Vector.ofFn (fun k : Fin 7 => ((xs.getD k.val none).getD (0, 0)).1),
          phasorAngle := Vector.ofFn (fun k : Fin 7 => ((xs.getD k.val none).getD (0, 0)).2) } }

end Sys2Proof.Machine
end

