-- ==== Sys2Proof/Machine/Events.lean ====
section
/-! DEFINITION. The supply-event detectors of a Pod, its event queue and the idle test (R395-R409, R412). -/

namespace Sys2Proof.Machine

/-! ### The event cycle and its refreshes (R396) -/

def nominalCycle (d : Pod) : Tick := if d.val 0x72 0 = 1 then (roundOpen 65536000 60).toNat else 1310720

/-- Rising crossings of the reference, newest first. -/
def refRises (d : Pod) : List Tick := if d.meter.source = 0 then [] else risesOf d.meter (d.meter.source - 1)

/-- The latest crossing of the reference, in either direction, and the cycle that ends there; none before it has shown one. -/
def lastCycle (d : Pod) : Option (Tick × Tick) :=
  match if d.meter.source = 0 then [] else d.meter.crossings.getD (d.meter.source - 1) [] with
  | c :: rest => (rest.find? (fun x => x.rising == c.rising)).map (fun x => (c.stamp, c.stamp - x.stamp))
  | [] => none

/-- The refresh grid is anchored anew: at the latest crossing with the last measured cycle, or without a reference at the refresh
instant with the nominal period (R396). The thresholds in effect apply from here (R400). -/
def anchorGrid (x : Tick) (d : Pod) : Pod :=
  let limits : Vector Nat 10 := Vector.ofFn (fun k : Fin 10 =>
    if k.val = 0 then d.val 0xA3 2 else if k.val = 1 then d.val 0xA4 1 else if k.val = 2 then d.val 0xA4 2 else d.val 0xA5 (k.val - 2))
  let g := (lastCycle d).getD (x, nominalCycle d)
  { d with events := { d.events with
      refreshAt := x, gridAnchor := g.1, gridCycle := g.2, gridTimed := (lastCycle d).isNone, limits := limits } }

/-- The event cycle (R396). -/
def eventCycle (d : Pod) : Tick := d.events.gridCycle

/-- The next refresh instant: the first half event cycle of the grid that lies a quarter of a cycle or more after the last refresh. -/
def nextRefresh (d : Pod) : Tick :=
  let e := d.events
  let at_ (k : Nat) : Tick := e.gridAnchor + (roundOpen (k * e.gridCycle : Nat) 2).toNat
  let first := e.refreshAt + (e.gridCycle + 3) / 4
  let k := 2 * (first - e.gridAnchor) / max 1 e.gridCycle
  if first ≤ at_ k then at_ k else if first ≤ at_ (k + 1) then at_ (k + 1) else at_ (k + 2)

/-- The squared sum and number of an input's pip values in the event cycle that ends at x; none where the cycle is not
evaluated: filling values, a bridge, or less than a full cycle of values (R396, R408). -/
def cycleSquares (d : Pod) (i : Nat) (x : Tick) : Option (Nat × Nat) :=
  let a := x - eventCycle d
  let ps := (d.meter.pip.getD i []).filter (fun v => decide (a < v.stamp ∧ v.stamp ≤ x))
  if a < d.startAt ∨ ps.isEmpty ∨ ps.any (fun v => !v.valid) ∨
      d.meter.bridges.any (fun g => g.input == i && decide (a < g.stop ∧ g.start < x)) then none
  else some (ps.foldl (fun s v => s + v.value.natAbs ^ 2) 0, ps.length)

def rmsValue (q : Nat × Nat) : Int := min 2147483647 (rootOpen q.1 (q.2 * 2 ^ 104))

/-- The RMS lies above level / scale, exactly. -/
def rmsAbove (q : Nat × Nat) (level scale : Nat) : Bool := decide (level ^ 2 * q.2 * 2 ^ 104 < q.1 * scale ^ 2)

def rmsUnder (q : Nat × Nat) (level scale : Nat) : Bool := decide (q.1 * scale ^ 2 < level ^ 2 * q.2 * 2 ^ 104)

/-! ### Records (R405-R407) -/

/-- A record enters the queue of 16, or is lost; either way it takes a sequence number. -/
def queueRecord (t : Tick) (kind edge input : Nat) (forced : Bool) (value : Int) (aux : Nat) (d : Pod) : Pod :=
  let e := d.events
  let flags := b2n e.lost + 2 * b2n e.gridTimed + 4 * b2n (rcTimed d) + 8 * b2n forced
  let r : EventRec := ⟨t, kind, edge, input, flags, clampInt (-2147483648) 2147483647 value, min aux 4294967295, e.seq⟩
  let d1 := if edge = 2 then d else { d with counters := bump d.counters 10 }
  if e.queue.length < 16 then
    { d1 with events := { e with queue := e.queue ++ [r], seq := wrap32 (e.seq + 1), lost := false, last := r } }
  else { d1 with events := { e with seq := wrap32 (e.seq + 1), lost := true }, counters := bump d1.counters 11 }

def activeEvent (d : Pod) (kind input : Nat) : Option ActiveEvent :=
  d.events.active.find? (fun a => a.kind == kind && a.input == input)

def dropActive (d : Pod) (kind input : Nat) : Pod :=
  { d with events := { d.events with active := d.events.active.filter (fun a => !(a.kind == kind && a.input == input)) } }

/-- An active event clears, with its extreme and its duration in us. -/
def clearEvent (t : Tick) (a : ActiveEvent) (shown : Nat) (forced : Bool) (d : Pod) : Pod :=
  queueRecord t a.kind 2 shown forced a.extreme (microsOf (t - a.onset)) (dropActive d a.kind a.input)

/-- One detector with onset and clear: `key` names the event, `shown` the input of its records (R399). -/
def levelStep (t : Tick) (kind key shown : Nat) (enabled onset clear : Bool) (value extreme : Int) (d : Pod) : Pod :=
  match activeEvent d kind key with
  | some a =>
    let best := if kind = 1 ∨ kind = 3 then min a.extreme extreme
      else if kind = 9 then (if a.extreme.natAbs < extreme.natAbs then extreme else a.extreme) else max a.extreme extreme
    if !enabled then clearEvent t a shown true d
    else if clear then clearEvent t { a with extreme := best } shown false d
    else { d with events := { d.events with active := d.events.active.map (fun x =>
      if x.kind == kind && x.input == key then { x with extreme := best } else x) } }
  | none =>
    if enabled && onset then
      queueRecord t kind 1 shown false value 0 { d with events := { d.events with active := d.events.active ++ [⟨kind, key, t, extreme⟩] } }
    else d

def eventOn (d : Pod) (kind : Nat) : Bool := bit (d.val 0xA0 0) (kind - 1)

def blocked (d : Pod) (kind input : Nat) : Bool := d.events.blocks.any (fun b => b.1 == kind && b.2.1 == input)

/-- A point event fires and blocks its detector on that input. -/
def pointEvent (t : Tick) (kind input : Nat) (value : Int) (aux : Nat) (until_ : Tick) (d : Pod) : Pod :=
  queueRecord t kind 3 input false value aux
    { d with events := { d.events with blocks := d.events.blocks ++ [(kind, input, until_)] } }

/-! ### The detectors at a refresh (R399-R404) -/

/-- Detectors of a voltage input: SAG, SWELL, INTERRUPTION. -/
def voltageStep (x : Tick) (i : Nat) (q : Nat × Nat) (d : Pod) : Pod :=
  let u := d.val 0xA1 0
  let v (k : Nat) : Nat := d.val 0xA2 k
  let h := v 4
  let r := rmsValue q
  let d1 := levelStep x 1 i i (eventOn d 1) (rmsUnder q (u * v 1) 1000) (!rmsUnder q (u * (v 1 + h)) 1000) r r d
  let d2 := levelStep x 2 i i (eventOn d 2) (rmsAbove q (u * v 2) 1000) (!rmsAbove q (u * (v 2 - h)) 1000) r r d1
  levelStep x 3 i i (eventOn d 3) (rmsUnder q (u * v 3) 1000) (!rmsUnder q (u * (v 3 + h)) 1000) r r d2

/-- Detectors of a current input: OVERCURRENT, LOAD-DROP, LOAD-RISE, PRESENCE; `old` is the value one cycle earlier. -/
def currentStep (x : Tick) (i : Nat) (q old : Nat × Nat) (d : Pod) : Pod :=
  let c (k : Nat) : Nat := d.val 0xA3 k
  let r := rmsValue q
  let keep := 1000 - c 6
  let d1 := levelStep x 4 i i (eventOn d 4) (rmsAbove q (c 1) 1) (!rmsAbove q (c 1 * keep) 1000) r r d
  let rest := 100 - c 4
  let drop := old.2 != 0 && eventOn d 6 && !blocked d 6 i && !rmsUnder old (c 5) 1 &&
    decide (q.1 * old.2 * 10000 ≤ old.1 * q.2 * rest ^ 2)
  let rise := old.2 != 0 && eventOn d 7 && !blocked d 7 i && !rmsUnder q (c 5) 1 &&
    decide (old.1 * q.2 * 10000 ≤ q.1 * old.2 * rest ^ 2)
  let until_ := x + 2 * eventCycle d
  let d2 := if drop then pointEvent x 6 i r (rmsValue old).toNat until_ d1 else d1
  let d3 := if rise then pointEvent x 7 i r (rmsValue old).toNat until_ d2 else d2
  if i = 3 then d3
  else levelStep x 8 i i (eventOn d 8 && d.val 0xA6 0 == 1) (rmsAbove q (c 3) 1) (!rmsAbove q (c 3 * keep) 1000) r r d3

/-- The active events of an input that its records show clear with the forced flag where their kind is disabled or disarmed, of some kinds in
code order (R399, R404, R409). -/
def clearDisabled (x : Tick) (kinds : List Nat) (key shown : Nat) (d : Pod) : Pod :=
  kinds.foldl (fun d k => match activeEvent d k key with
    | some a => if !eventOn d k || (k == 8 && d.val 0xA6 0 == 0) then clearEvent x a shown true d else d
    | none => d) d

/-- One input at a refresh; an input that is not evaluated holds its state, but for a disabled kind (R396, R399, R409). -/
def inputStep (x : Tick) (d : Pod) (i : Nat) : Pod :=
  if (meterChan d i).isNone then d else
  let q := (cycleSquares d i x).getD (0, 0)
  let hist := d.events.rms.getD i []
  let d1 := { d with events := { d.events with rms := putAt d.events.rms i ((q :: hist).take 3) } }
  if q.2 = 0 then clearDisabled x (List.range 9) i i d1
  else if isVoltage i then voltageStep x i q d1 else currentStep x i q (hist.getD 1 (0, 0)) d1

/-! ### The idle test (R412) -/

/-- The idle timer after a refresh at x. -/
def idleStep (x : Tick) (d : Pod) : Pod :=
  let cs := [0, 1, 2, 3].filter (fun i => (meterChan d i).isSome)
  let level := d.val 0xB0 0
  let runs := (d.mode == .run || d.mode == .lean) && level != 0 && (meterChan d (d.val 0xB2 0)).isSome && !cs.isEmpty
  let qs := cs.map (fun i => (d.events.rms.getD i []).headD (0, 0))
  let below := qs.all (fun q => q.2 != 0 && rmsUnder q level 1)
  { d with events := { d.events with idleFrom :=
      if !runs then none else if below then some (d.events.idleFrom.getD x) else some x } }

/-- The idle decision falls at this refresh: the timer has reached `Pod.IdleTime` below the level. -/
def idleDecision (x : Tick) (d : Pod) : Bool :=
  match d.events.idleFrom with
  | some t => decide (d.val 0xB1 0 * 65536000 ≤ x - t) && d.doze.sentinel == .off && decide (t < x)
  | none => false

/-- The input that the records of an active event name: for FREQ-DEV and FREQ-LOSS the reference's, or 15 for none (R405). -/
def shownInput (d : Pod) (a : ActiveEvent) : Nat :=
  if a.kind = 9 ∨ a.kind = 10 then (if d.meter.source = 0 then 15 else d.meter.source + 3) else a.input

/-- Every pip value of the event cycle that ends at the next refresh instant has been delivered (R397). -/
def refreshDue (d : Pod) : Bool :=
  let longest := (List.range 7).foldl (fun n i => match meterChan d i with | some c => max n (chanPip d c) | none => n) 1
  decide (nextRefresh d ≤ stampBehind d (62 + 16 * (longest - 1)))

/-- The deviation of the reference's last cycle, in mHz, and its frequency; none before it has measured one (R399). -/
def lastDeviation (d : Pod) : Option (Int × Int) :=
  match refRises d with
  | a :: b :: _ =>
    let f := roundOpen 65536000000 (a - b)
    some (f - nominalMilli d, f)
  | _ => none

/-- FREQ-DEV on the reference's last cycle, with the thresholds of the last refresh. -/
def deviationStep (t : Tick) (d : Pod) : Pod :=
  match lastDeviation d with
  | some (dev, f) =>
    let ref := if d.meter.source = 0 then 15 else d.meter.source + 3
    let lim (k : Nat) : Nat := d.events.limits.getD k 0
    levelStep t 9 15 ref (eventOn d 9) (decide (lim 1 < dev.natAbs)) (decide (dev.natAbs ≤ lim 1 - lim 2)) f dev d
  | none => d

/-- THD-HIGH on an input with the results published last (R399, R403). -/
def thdInput (t : Tick) (d : Pod) (i : Nat) : Pod :=
  let v := d.harm.thd.getD i 0xFFFF
  let lim := d.events.limits.getD (3 + i) 0
  if v = 0xFFFF then d
  else levelStep t 11 i i (eventOn d 11) (decide (lim < v)) (decide (10 * v ≤ 9 * lim)) v v d

/-- The kinds that no refresh detects, for the events that show an input: a disabled kind clears with the forced flag, and an active event
is tested against its clear condition with the thresholds of this refresh (R399, R400). -/
def slowKinds (x : Tick) (i : Nat) (d : Pod) : Pod :=
  let ref := if d.meter.source = 0 then 15 else d.meter.source + 3
  let d1 := if ref = i then
      let d0 := clearDisabled x [9, 10] 15 i d
      if (activeEvent d0 9 15).isSome then deviationStep x d0 else d0
    else d
  let d2 := clearDisabled x [11] i i d1
  if (activeEvent d2 11 i).isSome then thdInput x d2 i else d2

/-- EVENT_RMS_REFRESH: the detectors of every input at the next refresh instant, the records in input-code order and within an input in
kind-code order (R404), events without an input last; then the grid is anchored anew; the idle test. -/
def refreshRun (d : Pod) : Pod :=
  let x := nextRefresh d
  let taken := anchorGrid x d
  let d0 := { d with events := { d.events with limits := taken.events.limits } }
  let d1 := (List.range 7).foldl (fun d i => slowKinds x i (inputStep x d i)) d0
  idleStep x (anchorGrid x (slowKinds x 15 d1))

/-! ### Point and frequency detectors at a frame (R401, R403) -/

/-- FAST-PEAK on the current inputs whose pip value is new in this frame. -/
def peakStep (before d : Pod) : Pod :=
  [0, 1, 2, 3].foldl (fun d i =>
    match d.meter.pip.getD i [] with
    | v :: _ =>
      if v.stamp ≠ (((before.meter.pip.getD i []).map (·.stamp)).headD 0) && (meterChan d i).isSome && eventOn d 5 && !blocked d 5 i &&
          decide (d.events.limits.getD 0 0 * 2 ^ 52 < v.value.natAbs) then
        pointEvent v.stamp 5 i (roundOpen v.value (2 ^ 52)) 0 (v.stamp + eventCycle d) d
      else d
    | [] => d) d

/-- FREQ-DEV at a new rising crossing of the reference, FREQ-LOSS where the reference was lost or regained. -/
def freqStep (before d : Pod) : Pod :=
  let ref := if d.meter.source = 0 then 15 else d.meter.source + 3
  let rise := (refRises d).headD 0
  let d1 := if (refRises before).headD 0 = rise then d else deviationStep rise d
  let t := d.meter.formed
  if before.meter.source ≠ 0 ∧ d.meter.source = 0 then
    levelStep t 10 15 ref (eventOn d 10) true false (Config.lossValue t) (Config.lossValue t) d1
  else if before.meter.source = 0 ∧ d.meter.source ≠ 0 then
    levelStep t 10 15 ref true false true (Config.lossValue t) (Config.lossValue t) d1
  else d1

/-- THD-HIGH at a harmonic publication (R399, R403). -/
def thdStep (d : Pod) : Pod := (List.range 7).foldl (thdInput d.harm.info.stop) d

/-- Active events on some inputs clear with the forced flag at an instant (R408). -/
def forceClear (t : Tick) (which : ActiveEvent → Bool) (d : Pod) : Pod :=
  (d.events.active.filter which).foldl (fun d a => clearEvent t a (shownInput d a) true d) d

/-- EVENT_BLOCK_EXPIRY: a block whose end has come is lifted. -/
def unblock (kind input : Nat) (now : Tick) (d : Pod) : Pod :=
  let keep := d.events.blocks.filter
    (fun b => !(b.1 == kind && b.2.1 == input && decide (b.2.2 ≤ now)))
  { d with events := { d.events with blocks := keep } }

end Sys2Proof.Machine
end

