-- ==== Sys2Proof/Machine/PulseLoop.lean ====
section
/-! DEFINITION. The pulse emitter of a Pod (R436-R451): the loop of R440 between its edges, edges, widths and residue.
Energies are in 2^-32 of the register LSB, times in PULSE ticks of 16 STAMP ticks (log 18). -/

namespace Sys2Proof.Machine

/-- K in use: 1 024 times the constant in test mode (R445). -/
def pulseK (d : Pod) : Nat := if d.pulse.test then 1024 * d.val 0xC1 0 else d.val 0xC1 0

/-- One pulse: 10^6 register LSB, in 2^-32. -/
def pulseUnit : Nat := 1000000 * 4294967296

/-- What a spread emits over n ticks. -/
def spreadPart (x : Spread) (n : Nat) : Nat := if x.ticks ≤ n then x.energy else x.energy * n / x.ticks

def spreadRest (x : Spread) (n : Nat) : Option Spread :=
  if x.ticks ≤ n then none else some ⟨x.energy - spreadPart x n, x.ticks - n⟩

/-- The loop of R440 over n ticks without an edge: accumulation, owed pulses, the limit of R442. -/
def pulseTicks (d : Pod) (n : Nat) (stamp : Tick) : Pod :=
  if n = 0 then d else
  let p := d.pulse
  let acc := p.acc + pulseK d * (p.spreads.foldl (fun s x => s + spreadPart x n) 0)
  let owed := p.owed + acc / pulseUnit
  let excess := owed - 1000000
  let q := { p with acc := acc % pulseUnit, owed := min owed 1000000, spreads := p.spreads.filterMap (fun x => spreadRest x n) }
  { d with pulse := if excess = 0 then q
      else { q with residueCause := 6, residueStamp := stamp, residueSource := d.val 0xC0 0, residueTotal := wrap32 (p.residueTotal + excess) } }

/-- The loop runs up to an instant of the model's clock; a held emitter only notes the instant (R448). Of a pause no PULSE tick counts, neither
for the width of a pulse in progress nor since its leading edge (R449). -/
def pulseUpTo (now stamp : Tick) (runs : Bool) (d : Pod) : Pod :=
  let n := (now - d.pulse.ran) / 16
  if runs && !d.pulse.held then
    let d1 := pulseTicks d n stamp
    { d1 with pulse := { d1.pulse with ran := d.pulse.ran + 16 * n } }
  else
    let paused := if runs || d.pulse.edgeTicks == 0 then 0 else now - d.pulse.ran
    { d with pulse := { d.pulse with ran := now, edgeTicks := d.pulse.edgeTicks + paused } }

/-- An increment of the source register reaches the emitter (R440): energy in 2^-32, length of its half-cycle in ticks. -/
def pulseFeed (before after : Nat) (length : Tick) (d : Pod) : Pod :=
  let e := after / 256 - before / 256
  if d.val 0xC0 0 = 0 ∨ e = 0 then d
  else { d with pulse := { d.pulse with spreads := d.pulse.spreads ++ [⟨e, max 1 (length / 16)⟩] } }

/-- The increments of one booking: the source register before and after, over the half-cycle it books. -/
def pulseBooking (before d : Pod) (length : Tick) : Pod :=
  let k := d.val 0xC0 0 - 1
  pulseFeed (before.meter.regs.getD k 0) (d.meter.regs.getD k 0) length d

def pulseMinPeriod (d : Pod) : Nat := if d.pulse.test then 4 else 4096

/-- Half of the expected period at the present spread rate, in whole ticks; none when the rate is zero. -/
def halfExpected (d : Pod) : Option Nat :=
  let den := d.pulse.spreads.foldl (fun n x => n * x.ticks) 1
  let num := d.pulse.spreads.foldl (fun s x => s + x.energy * (den / x.ticks)) 0
  if num = 0 ∨ pulseK d = 0 then none else some (pulseUnit * den / (2 * pulseK d * num))

/-- The width of a pulse that starts now: the programmed width or half the expected period (R440, R441). -/
def pulseWidth (d : Pod) (owedAfter : Nat) : Nat :=
  let w := 4096 * d.val 0xC2 0
  let half := if 0 < owedAfter then some (pulseMinPeriod d / 2) else halfExpected d
  max (if d.pulse.test then 2 else 2048) (match half with | some h => min w h | none => w)

/-- A leading edge is allowed: idle, a pulse owed, the minimum period passed since the last edge. -/
def edgeAllowed (d : Pod) (now : Tick) : Bool :=
  !d.pulse.driving && !d.pulse.held && decide (0 < d.pulse.owed) &&
    (decide (16 * pulseMinPeriod d ≤ now - d.pulse.edgeTicks) || d.pulse.edgeTicks == 0)

/-- The leading edge: one pulse less owed, its width, the count. -/
def pulseEdge (now stamp : Tick) (d : Pod) : Pod :=
  let p := d.pulse
  { d with
    pulse := { p with owed := p.owed - 1, driving := true, width := pulseWidth d (p.owed - 1), lastEdge := stamp, edgeTicks := now },
    counters := bump d.counters 15 }

/-- The level of `Pnn_PLS` (R436): 0 high impedance or released, 1 low, 2 high. Before the Pods have restarted every output idles
in high impedance (R200). -/
def pulseLevel (restarted : Bool) (d : Pod) : Nat :=
  let m := d.val 0xC3 0
  if !restarted then 0
  else if m = 1 then (if d.pulse.driving then 2 else 1)
  else if m = 2 then (if d.pulse.driving then 1 else 2)
  else if m = 3 then (if d.pulse.driving then 1 else 0) else 0

/-- A residue event (R446, R447): what it discards is recorded, and the emitter starts from zero. -/
def pulseResidue (cause : Nat) (stamp : Tick) (d : Pod) : Pod :=
  let p := d.pulse
  let k := pulseK d
  let e := (if k = 0 then 0 else (roundOpen ((p.acc + p.owed * pulseUnit : Nat) : Int) k).toNat) + p.spreads.foldl (fun s x => s + x.energy) 0
  { d with pulse := { p with
      acc := 0, owed := 0, spreads := [], residueCause := cause, residueStamp := stamp, residueSource := d.val 0xC0 0,
      residueEnergy := e, residuePulses := p.owed, residueTotal := wrap32 (p.residueTotal + p.owed), residueUnknown := false } }

/-- The residue of a restart from a snapshot (R450): acc and owed of the record, by the constant that the recalled test mode used (R447), or
an unknown energy without one. Test mode has ended: the seal of every Pod closes at B7 at the latest (R445, R461; log 51). -/
def pulseRestart (record : Option (Nat × Nat × Tick)) (stamp : Tick) (d : Pod) : Pod :=
  let vs := storePut podDefault d.values (keyOf 0xC4 0) 0
  match record with
  | some (acc, owed, t) =>
    { d with values := vs, pulse :=
      { (pulseResidue 3 t { d with pulse := { d.pulse with acc := acc, owed := owed, spreads := [], test := d.val 0xC4 0 == 1 } }).pulse with
        driving := false, held := false, test := false } }
  | none =>
    { d with values := vs, pulse := { d.pulse with
        acc := 0, owed := 0, spreads := [], driving := false, held := false, test := false, residueCause := 3, residueStamp := stamp,
        residueSource := d.val 0xC0 0, residueEnergy := 0, residuePulses := 0, residueUnknown := true } }

/-- The emitter is held: in HOLD and SAFE a pulse in progress is cut, in POD-FAULT it completes (R448). -/
def pulseHold (cut : Bool) (d : Pod) : Pod :=
  { d with pulse := { d.pulse with held := true, driving := if cut then false else d.pulse.driving } }

def pulseResume (now : Tick) (d : Pod) : Pod := { d with pulse := { d.pulse with held := false, ran := now } }

/-- `Pod.PlsState` (R444): acc in 2^-32 of a pulse, owed, flags, edge, width. -/
def pulseFlags (d : Pod) (paused : Bool) : Nat :=
  b2n (decide (1 < d.pulse.owed)) + 2 * b2n d.pulse.test + 4 * b2n paused + 8 * b2n d.pulse.held

end Sys2Proof.Machine
end

