-- ==== Sys2Proof/Machine/PodStates.lean ====
section
/-! DEFINITION. Pod transitions that several families share: energy gaps (R487-R490), bookings and what follows them,
dormant transfers (R428-R430), synchronising resets (R320), starting and stopping of sampling (R36, R362, R422). -/

namespace Sys2Proof.Machine

/-! ### Energy gaps (R487-R490) -/

/-- A gap closes: bound (2^-40 mWh) into the Uncertain register unless it was added before, record, count, `Shell.LastGap`. -/
def closeGap (p cause : Nat) (start stop : Tick) (bound : Option Nat) (dormant add : Bool) (s : State) : State :=
  let flags := 2 * b2n bound.isNone + 4 * b2n dormant
  let b := bound.getD 0
  let s1 := if add then modPod p (fun d => { d with meter := { d.meter with regs := putAt d.meter.regs 13 (d.meter.regs.getD 13 0 + b) } }) s else s
  let s2 := logAdd 0x06 p (cause + 256 * flags) (beOctets 8 stop ++ beOctets 8 (b / 2 ^ 40)) s1
  { s2 with shell := { s2.shell with gapCount := wrap32 (s2.shell.gapCount + 1), lastGap := ⟨p, cause, start, stop, b, flags⟩ } }

/-- Closed gaps of missing phases; their bounds were added at each booking (R488). -/
def closePhaseGaps (p : Nat) (gs : List PhaseGap) (s : State) : State :=
  gs.foldl (fun s g =>
    let d := podAt s p
    closeGap p 5 g.2.1 g.2.2 (some (gapBound d (fun k => d.meter.lastUrms.getD k 0) [g.1] (g.2.2 - g.2.1))) false false s) s

/-! ### Bookings -/

/-- PULSE runs (R145, R449); an emitter that HOLD or SAFE holds is held in its Pod (R448). -/
def pulseRuns (s : State) : Bool := s.clocks.spineLocked

/-- The Pods hold their registers: from B7 of the BOOT that restarts them (R32, R210, R481). -/
def podsHoldEnergy (s : State) : Bool := s.chip.state != .unpowered && (s.chip.fromStandby || booted s 7)

/-- Every emitter runs up to now. -/
def syncPulse (p : Nat) (s : State) : State := modPod p (pulseUpTo s.time.elapsed s.time.stamp (pulseRuns s)) s

def syncPulses (s : State) : State := { s with pods := s.pods.map (pulseUpTo s.time.elapsed s.time.stamp (pulseRuns s)) }

/-- A booking function acts on a Pod: its increments reach the emitter, its gaps close. -/
def withBooking (p : Nat) (f : Pod → Pod × List PhaseGap) (s : State) : State :=
  let s1 := syncPulse p s
  let d := podAt s1 p
  let r := f d
  let fed := pulseBooking d r.1 (r.1.meter.boundary - d.meter.boundary)
  closePhaseGaps p r.2 (modPod p (fun _ => fed) s1)

/-! ### Event notices up the lane (R405, R406) -/

def eventOctets (r : EventRec) : List Nat :=
  beOctets 8 r.stamp ++ [r.kind, r.edge, r.input, r.flags] ++ beOctets 4 (rawOf 32 r.value) ++ beOctets 4 r.aux ++ beOctets 4 r.seq

/-- The hub drains the Pod's event queue in order. -/
def drainEvents (p : Nat) (s : State) : State :=
  let d := podAt s p
  if d.faults.isoOpen then s
  else
    let n := d.events.queue.length
    let s1 := d.events.queue.foldl (fun s r => evAdd ⟨2, p, eventOctets r⟩ s) s
    modPod p (fun d => { d with events := { d.events with queue := [] }, counters := bump d.counters 18 n }) s1

/-! ### Dormant accounting (R428-R430) -/

/-- The energy of n sentinel ticks in 2^-40 mWh (R429); the constant is 2^64 times pi over twice the root of 2. -/
def tickEnergy (d : Pod) (n : Nat) : Nat :=
  (roundTies ((d.val 0xB4 0 * d.val 0x50 (d.val 0xB2 0 + 1) * n * 20489181127414530718 : Nat) : Int)
    (3600000000000 * 16777216)).toNat

/-- The bound of R430 over some ticks of dormant time: a quarter of the energy and ten sentinel ticks a second. -/
def dormantBound (d : Pod) (energy : Nat) (time : Tick) : Nat :=
  energy / 4 + (roundTies ((tickEnergy d 10 * time : Nat) : Int) 65536000).toNat

def sentinelCounts (d : Pod) : Bool :=
  d.doze.sentinel == .armed || d.doze.sentinel == .tripped || d.doze.sentinel == .pending

/-- A Pod that takes transfers (R429). The drain of an idle entry is no dormant interval yet, and its ticks may still be discarded (R413):
none is taken there (log 51). -/
def takesTransfer (d : Pod) : Bool := !d.doze.idleEntry && (sentinelCounts d || decide (0 < d.doze.untransferred))

/-- The energy of the untransferred ticks. -/
def pendingEnergy (d : Pod) : Nat := d.doze.carried + tickEnergy d (d.doze.untransferred - d.doze.carriedTicks)

/-- The ticks counted so far keep the energy that a tick has now (R417). -/
def carryTicks (d : Pod) : Pod :=
  { d with doze := { d.doze with carried := pendingEnergy d, carriedTicks := d.doze.untransferred } }

/-- A transfer of the untransferred ticks at an instant (R429). -/
def transferPod (now : Tick) (d : Pod) : Pod :=
  if !takesTransfer d then d else
  let e := pendingEnergy d
  let b := if d.doze.saturated then 0 else dormantBound d e (now - d.doze.lastTransfer)
  { d with
    meter := { d.meter with regs := putAt d.meter.regs 12 (d.meter.regs.getD 12 0 + e), lastBooking := now },
    doze := { d.doze with
      untransferred := 0, carriedTicks := 0, carried := 0, transfers := wrap32 (d.doze.transfers + 1), bound := d.doze.bound + b, lastTransfer := now,
      flags := if d.doze.saturated then setBit d.doze.flags 0 else d.doze.flags, saturated := false } }

/-- The exit cause of the latest doze (R426): one that a wake or a START has ended already keeps its cause. -/
def exitCause (d : Pod) (cause : Nat) : Nat := if d.mode = .doze then cause else d.doze.exit

/-- The dormant interval of a Pod ends at an instant (R428): a last transfer, the sentinel off, the exit cause of R426. A sentinel that has
not armed has begun none, and goes off. -/
def endDormant (now : Tick) (exit : Nat) (d : Pod) : Pod :=
  if sentinelCounts d then
    let d1 := transferPod now d
    { d1 with doze := { d1.doze with sentinel := .off, restart := false, idleEntry := false, endAt := now, exit := exit, armingFrom := none, tripHeld := false } }
  else if d.doze.sentinel = .arming then
    { d with doze := { d.doze with sentinel := .off, restart := false, idleEntry := false, exit := exit, armingFrom := none, tripHeld := false } }
  else d

/-- The gap power of R488 over all formed phases, in 2^-40 mW: a stated voltage over the root of 2, an unknown one over 2. -/
def gapPower (d : Pod) : Nat :=
  let u (ph : Nat) : Nat := d.meter.lastUrms.getD ph 0
  let a := ((formedPhases d).filter (fun ph => u ph != 0)).foldl (fun n ph => n + u ph * d.val 0x50 (ph + 1)) 0
  let b := ((formedPhases d).filter (fun ph => u ph == 0)).foldl (fun n ph => n + d.val 0x50 (5 + ph) * d.val 0x50 (ph + 1)) 0
  (roundTies (rootNearest (a * a * 2 ^ 79) 1 + b * 2 ^ 39 : Nat) 1000).toNat

/-- Energy of a power in 2^-40 mW over some ticks, in 2^-40 mWh. -/
def energyOf (power : Nat) (t : Tick) : Nat := (roundTies (power * t : Nat) (65536000 * 3600)).toNat

/-- A Pod leaves DOZE (R428): its dormant interval ends, and with it the gap of an arming that never passed (R418, R487). -/
def endDoze (p : Nat) (now : Tick) (exit : Nat) (s : State) : State :=
  let d := podAt s p
  let s1 := modPod p (endDormant now exit) s
  match d.doze.armingFrom with
  | some t0 => if d.doze.restart then closeGap p 8 t0 now (some (energyOf (gapPower d) (now - t0))) false true s1 else s1
  | none => s1

/-! ### Synchronising resets and sampling -/

/-- A synchronising reset of a channel (R320): every state of the chain cleared, counts from zero; the last outputs stay readable. The
alignment before the chain keeps its last sample where `keep` says that it is of the entry that goes on (R280, R284). -/
def syncChannel (live keep : Bool) (ch : Channel) : Channel :=
  { Channel.reset with
    live := live, previous := if keep then ch.previous else none, fine := { ch.fine with valid := false }, pip := ch.pip, quad := ch.quad }

/-- Whether a channel converts in the present layout: its entry is active while the Pod samples (R269, R279, R289). -/
def channelRuns (d : Pod) (c : Nat) : Bool :=
  sampling d.mode && d.powering.isNone && (if c < 16 then activeA d c else (bEntry d (c - 16)).isSome)

/-- Resets the channels of a list; the frame count of each converter with a channel among them that runs restarts (R234), autoranging
entries start at their lowest gain (R244). -/
def syncChannels (keep : Nat → Bool) (cs : List Nat) (d : Pod) : Pod :=
  let live := cs.filter (channelRuns d)
  let d1 := cs.foldl (fun x c =>
    { x with chans := x.chans.setIfInBounds c (syncChannel (channelRuns d c) (keep c) (x.chans.getD c .reset)) }) d
  { d1 with
    conv := { d1.conv with
      frameA := if live.any (· < 16) then 0 else d1.conv.frameA,
      frameB := if live.any (16 ≤ ·) then 0 else d1.conv.frameB,
      ranges := Vector.ofFn (fun k : Fin 16 => if cs.contains k.val then
        ⟨lowestGain d1 (d1.seqA.getD k.val 0), none, 0, 0⟩ else d1.conv.ranges[k]) },
    counters := bump d1.counters 20 live.length }

/-- A channel stops: its outputs read VALID = 0 (R284, R289, R329); its filter states are held until a reset clears them. -/
def stopChannel (ch : Channel) : Channel :=
  { ch with live := false, previous := none, settled := false, fundSettled := false, fine := { ch.fine with valid := false } }

/-- Every channel stops. -/
def stopChannels (d : Pod) : Pod := { d with chans := d.chans.map stopChannel }

/-- Channels follow the layout without a reset (R285, R287, R289): one that no longer converts stops with its states held, one that
converts again goes on from them. -/
def followLayout (d : Pod) : Pod :=
  { d with chans := Vector.ofFn (fun c : Fin 32 =>
      let ch := d.chans[c]
      if channelRuns d c.val then { ch with live := true } else if ch.live then stopChannel ch else ch) }

/-- The marker of a frame boundary as the hub latches it: within two ticks of the boundary (R28), or while the SPINE PLL is
unlocked the STAMP that HUSK keeps (R186). -/
def latchMarker (s : State) : Tick × State :=
  if s.clocks.spineLocked then (s.time.stamp + (Config.markerSlip s.fresh).val - 2, { s with fresh := s.fresh + 1 })
  else (s.time.stamp, s)

/-- Frame 0 of a Pod that starts sampling: WAKING, every channel from a synchronising reset, no active events (R422). -/
def startSampling (p : Nat) (cause : Nat) (s : State) : State :=
  let (t, s1) := latchMarker s
  let s2 := setMode p .waking cause s1
  modPod p (fun d =>
    let m := d.meter
    let d1 := { d with
      powering := none, wake := none, powerWait := false, frozen := false,
      plan := { PodPlan.none with lean := d.plan.lean, toRc := d.plan.toRc, toSpine := d.plan.toSpine, freeze := d.plan.freeze }, marker := t, startAt := t, frames := 0, periodStart := t, periodFrames := 0,
      meter := { m with
        fine := .replicate 7 [], pip := .replicate 7 [], fund := .replicate 7 [], resp := .replicate 7 [], bridges := [], notes := [], source := 0,
        spans := (List.range 7).map (fun i => ⟨i, t - 1, none⟩), bridgeFrom := .replicate 7 none, coarseUntil := t,
        crossings := .replicate 3 [], qualified := .replicate 3 0, timedFrom := t, timedCount := 0, timedFreq := d.val 0x72 0,
        nominal := [(t, d.val 0x72 0)], formed := t, boundary := t,
        halfQueue := [], winStart := t, winCycles := d.val 0x71 0, winRising := [], winHalves := 0, winOpen := true, winQueue := [], halves := 0,
        lastPower := .replicate 3 ⟨0, 0, 0, 0, 0⟩, lastQ1Negative := .replicate 3 false, booked := [],
        missingFrom := .replicate 3 none },
      load := { d.load with frames := 0, sums := .replicate 3 0, shown := putAt d.load.shown 3 0 },
      events := { d.events with rms := .replicate 7 [], active := [], blocks := [], idleFrom := none },
      conv := { d.conv with
        cm := 0, cmFrames := .replicate 5 0, frameA := 0, frameB := 0, displaced := none, plausPairs := [], plausDirty := false, refFirst := true,
        refFrames := 0, refDue := false, estFrames := .replicate 2 0, estSquares := .replicate 32 0, estSamples := .replicate 32 0,
        estClipped := 0, estReady := .replicate 2 none } }
    let d2 := anchorGrid t { d1 with harm := { harmStart d1 t with due := none, skipped := false, phasorDue := [] } }
    syncChannels (fun _ => false) (List.range 32) d2) s2

/-- Booking ends and active events clear at one common instant (R362, R408), their records with the reference that timed them (R405); a
harmonic window in progress is discarded. -/
def endBooking (p : Nat) (limit : Option Tick) (s : State) : State :=
  let stop := commonInstant (podAt s p) limit
  let s0 := (List.range (podAt s p).meter.halfQueue.length).foldl (fun s _ =>
    if queuedBy (podAt s p) stop then withBooking p bookNext s else s) s
  let s1 := withBooking p (fun d => bookPartial d stop) s0
  let source := (podAt s0 p).meter.source
  let s2 := modPod p (fun d =>
    let d1 := forceClear d.meter.formed (fun _ => true) { d with meter := { d.meter with source := source } }
    let d2 := harmDiscard { d1 with meter := { d1.meter with source := 0 } } d1.meter.formed
    { d2 with harm := { d2.harm with due := none, phasorDue := [] }, events := { d2.events with idleFrom := none } }) s1
  drainEvents p s2

/-- An idle entry is abandoned (R413): the sentinel returns to OFF, its ticks since arming are discarded. -/
def abandonIdle (d : Pod) : Pod :=
  if d.doze.idleEntry then
    { d with
      doze := { d.doze with
        sentinel := .off, idleEntry := false, ticks := d.doze.ticks - d.doze.untransferred, untransferred := 0, carriedTicks := 0, carried := 0, armingFrom := none,
        tripHeld := false },
      plan := { d.plan with doze := false } }
  else d

/-- A Pod stops sampling and enters a state (R36, R345, R362, R374). -/
def stopSampling (p : Nat) (m : PodMode) (cause : Nat) (limit : Option Tick) (s : State) : State :=
  let s1 := if sampling (podAt s p).mode && !(podAt s p).frozen && (podAt s p).powering.isNone then endBooking p limit s else s
  setMode p m cause (modPod p (fun d => { stopChannels (if m = .doze then d else abandonIdle d) with plan := .none, frozen := false }) s1)

/-- A Pod runs frames: it samples, is not frozen, and its power-up has ended. -/
def runsFrames (d : Pod) : Bool := sampling d.mode && !d.frozen && d.powering.isNone

/-- The freeze of HOLD and SAFE acts on a Pod (R38): booking stops under R362, the pulses are held with a pulse in progress
cut (R448). The mode at the freeze decides the energy gap of a chip reset (R33, R213). -/
def freezeNow (p : Nat) (s : State) : State :=
  let s1 := syncPulse p s
  let s2 := if runsFrames (podAt s1 p) then endBooking p none s1 else s1
  modPod p (fun d => { pulseHold true (abandonIdle d) with
    frozen := d.frozen || sampling d.mode, plan := { d.plan with freeze := false },
    gapMode := if podsHoldEnergy s then d.mode else d.gapMode }) s2

/-- A Pod that runs frames freezes at its next frame boundary, every other one at once (R38, R134). -/
def freezePod (p : Nat) (s : State) : State :=
  if runsFrames (podAt s p) then modPod p (fun d => { d with plan := { d.plan with freeze := true } }) s else freezeNow p s

def freezePods (s : State) : State := onPods freezePod s

/-- Every Pod has been frozen, or has nothing to freeze. -/
def allFrozen (s : State) : Bool := s.pods.toList.all (fun d => !runsFrames d)

end Sys2Proof.Machine
end

