-- ==== Sys2Proof/Machine/Display.lean ====
section
/-! DEFINITION. The conditions that hold the Pane and the Strip below what is asked of them (R541, R562), the states of
the trunk link (R577), and changes of the chip state. -/

namespace Sys2Proof.Machine

/-! ### Pane and Strip (R541, R562) -/

/-- A gate rail runs: the Pane block is enabled and the Pane is neither OFF nor discharged, after B5 (R111, R204). -/
def gateRailsOn (s : State) : Bool :=
  gateOn s 0 && !s.panel.paneDone && devVal s 0x2400 0 != 0 &&
    (s.chip.state == .active || s.chip.state == .safe || (s.chip.state == .boot && booted s 5))

/-- Causes that hold the Pane below its mode (R541): STANDBY, SAFE, BOOT before B6, PWR L3, DISP L3, gated, gate rails. -/
def paneCauses (s : State) : Nat :=
  b2n (s.chip.state == .standby) + 2 * b2n (s.chip.state == .safe) + 4 * b2n (s.chip.state == .boot && !booted s 6) +
    8 * b2n (contained s 1) + 16 * b2n (contained s 4) + 32 * b2n (!gateOn s 0) +
    64 * b2n (!(bit s.power.rails 4 && bit s.power.rails 5))

/-- The effective Pane mode: the first row of R541 that applies. -/
def paneEffective (s : State) : Nat :=
  if s.chip.state = .unpowered then 0
  else if s.panel.paneDone then 3
  else if devVal s 0x2400 0 = 0 then 0
  else if s.chip.state = .standby ∧ devVal s 0x2413 0 = 0 then 0
  else if paneCauses s ≠ 0 then 1
  else devVal s 0x2400 0

/-- The front-light level in force: the granted level in FULL, else 0 (R124, R524, R543). -/
def paneLevelNow (s : State) : Nat := if paneEffective s = 2 then s.power.paneLevel else 0

/-- Causes that keep the Strip dark, in the layout of R541, with bit 6 for `VOLED` and bit 7 for a request not granted. -/
def stripCauses (s : State) : Nat :=
  b2n (s.chip.state == .standby) + 2 * b2n (s.chip.state == .safe) + 4 * b2n (s.chip.state == .boot) +
    8 * b2n (contained s 1) + 16 * b2n (contained s 4) + 32 * b2n (!gateOn s 1) + 64 * b2n (!bit s.power.rails 6)

/-- The Strip may be lit (R562, R571). -/
def stripMay (s : State) : Bool :=
  devVal s 0x2480 0 == 1 && s.chip.state == .active && stripCauses s == 0 && !s.panel.stripDone && !s.panel.stripDischarge

/-- `VOLED` runs (R543). -/
def voledOn (s : State) : Bool := s.panel.lit || (paneEffective s == 2 && decide (0 < s.power.paneLevel))

/-- A rail is on, so that its state can raise a fault (R111). -/
def railOn (s : State) (k : Nat) : Bool :=
  if k < 4 then s.chip.state != .unpowered else if k < 6 then gateRailsOn s else voledOn s

/-- `Pwr.RailStatus` (R111): a display rail that is switched off reads zero. -/
def railStatus (s : State) : Nat :=
  s.power.rails % 16 + 16 * b2n (bit s.power.rails 4 && gateRailsOn s) + 32 * b2n (bit s.power.rails 5 && gateRailsOn s) +
    64 * b2n (bit s.power.rails 6 && voledOn s)

def triggerWaits (code : Nat) (s : State) : Bool := s.power.triggers.any (·.code == code)

/-- The display conditions are looked at again: a Pane that may run in FULL anew asks the governor, and so does a Strip
whose conditions hold again (R117, R562); a Strip that may not be lit loses its grant. -/
def displayWatch (s : State) : State :=
  let e := paneEffective s
  let s1 := if e = s.panel.wanted then s else
    let s1 := { s with panel := { s.panel with wanted := e } }
    if e = 2 ∧ s1.chip.state = .active then trigger 4 255 s1 else s1
  if stripMay s1 then (if s1.panel.wantLit || triggerWaits 5 s1 then s1 else trigger 5 255 s1)
  else { s1 with panel := { s1.panel with wantLit := false } }

/-! ### The trunk link (R577) -/

/-- The effective node ID (R576). -/
def effectiveNode (s : State) : Nat := if devVal s 0x1111 0 = 1 then devVal s 0x1112 0 else s.chip.straps.node.toNat

/-- `Gz.NodeNumber` as the frames carry it (R605). -/
def nodeNumber (s : State) : Nat := if devVal s 0x1200 0 = 0xFFFF then effectiveNode s else devVal s 0x1200 0

/-- The link runs CSMA/CD without PLCA by its settings (R576). -/
def plcaOff (s : State) : Bool := effectiveNode s == 0xFF || devVal s 0x1101 0 == 0

/-- `Obs.LinkCounters` element k + 1 (R596). -/
def linkCount (k : Nat) (s : State) : State := { s with link := { s.link with counters := bump s.link.counters k } }

/-- The engine opens at B8, and the chip is ACTIVE (R29, R578). -/
def linkOpens (c : LinkCode) : Bool := c == .follower || c == .coordinator || c == .csma || c == .fallback

/-- The link enters a state; entries to JOINING after B8 and to FALLBACK from FOLLOWER are counted (R596). -/
def setLink (c : LinkCode) (s : State) : State :=
  let l := s.link
  if l.code = c then s
  else
    let s1 : State := { s with link := { l with
      code := c, stateStamp := s.time.stamp, enteredAt := s.time.elapsed, silentFor := 0,
      control := match c with
        | .coordinator => 3 | .follower => 4 | .joining | .fallback | .silent => 1 | _ => 0,
      unreached := 0 } }
    let s2 := if c = .joining ∧ s.engine.opened then linkCount 17 s1 else s1
    if c = .fallback ∧ l.code = .follower then linkCount 12 s2 else s2

/-- JOINING, and CSMA at once where the settings turn PLCA off (R577). -/
def linkJoin (s : State) : State :=
  let s1 := setLink .joining s
  if plcaOff s1 then setLink .csma s1 else s1

/-- A cause of LISTEN-ONLY comes or goes: bit 0 LINK at L3, bit 1 PHYTX stopped (R577, R588). -/
def linkCause (k : Nat) (present : Bool) (s : State) : State :=
  let s1 : State := { s with link := { s.link with causes := putBit s.link.causes k present } }
  match s1.link.code with
  | .joining | .follower | .coordinator | .csma | .fallback | .silent => if s1.link.causes = 0 then s1 else setLink .listenOnly s1
  | .listenOnly => if s1.link.causes = 0 then linkJoin s1 else s1
  | _ => s1

/-! ### The chip state -/

def setChip (c : ChipState) (s : State) : State := { s with chip := { s.chip with state := c } }

/-- Response timers run only in ACTIVE (R514): they stop with their count kept, or start. -/
def runTimers (on : Bool) (s : State) : State :=
  { s with guard := { s.guard with insts := s.guard.insts.map (fun i => { i with occs := i.occs.map (fun o => { o with timing := on && o.timer.isSome }) }) } }

/-- The engine opens and the chip enters ACTIVE (R29, R578): TIME frames count anew, timers run, displays may light. -/
def openEngine (s : State) : State :=
  let s1 : State := { s with engine := { s.engine with opened := true }, chip := { s.chip with state := .active, phases := s.chip.phases ++ [8] } }
  displayWatch (runTimers true s1)

end Sys2Proof.Machine
end

