-- ==== Sys2Proof/Machine/Guard.lean ====
section
/-! DEFINITION. Guard (R500-R533): sources, occurrences, escalation, history, containments and their exits, SAFE, and the
meanings of Guard's commands. -/

namespace Sys2Proof.Machine

/-! ### Sources and instances (R503, R507) -/

def instIndex (c : FaultClass) (p : Nat) : Nat :=
  match c with
  | .clk => 0 | .pwr => 1 | .shell => 2 | .link => 3 | .disp => 4 | .time => 5 | .guard => 7 | .pod => 8 + p

def classOfInst (k : Nat) : Nat := if k < 6 then k + 1 else if k = 7 then 8 else 7

/-- A source's kind (condition or not) and initial level. -/
def sourceOf (c : FaultClass) (src : Nat) : Bool × Nat :=
  match c with
  | .clk =>
    if src = 5 then (false, 1) else if src = 7 then (false, 2) else if src = 10 then (false, 0) else if src = 11 then (false, 4)
    else if src = 4 ∨ src = 8 then (true, 2) else (true, 1)
  | .pwr =>
    if src = 1 ∨ src = 5 ∨ src = 6 then (false, 1) else if src = 2 ∨ src = 3 then (true, 1) else (true, 2)
  | .shell =>
    if src = 1 ∨ src = 2 then (false, 1) else if src = 3 then (true, 2) else if src = 4 then (false, 0)
    else if src = 5 then (false, 2) else (true, 3)
  | .link => if src = 4 then (false, 3) else if src = 2 then (true, 2) else (true, 1)
  | .disp => (true, 2)
  | .time => (false, 1)
  | .pod =>
    if src = 1 ∨ src = 3 then (false, 3) else if src = 5 then (true, 2) else if src = 8 ∨ src = 9 then (false, 2) else (false, 1)
  | .guard => (false, 4)

/-- The ceiling of a class (R503, R518). -/
def ceiling (c : FaultClass) : Nat :=
  match c with
  | .clk | .shell | .guard => 4
  | _ => 3

/-- Policy of a class (R527) by its code. -/
def exitMode (s : State) (c : FaultClass) : Nat := devVal s 0x2306 (FaultClass.code c)
def quietTime (s : State) (c : FaultClass) : Nat := devVal s 0x2307 (FaultClass.code c)
def recoveryLimit (s : State) (c : FaultClass) : Nat := devVal s 0x2308 (FaultClass.code c)

def modInst (k : Nat) (f : Inst → Inst) (s : State) : State :=
  { s with guard := { s.guard with insts := putAt s.guard.insts k (f (instAt s k)) } }

/-! ### History, records and notices (R512, R521, R522) -/

def histOctets (e : HistEntry) : List Nat :=
  beOctets 8 e.stamp ++ [e.cls, e.inst, e.source, e.level, e.action, e.flags, 0, 0] ++ beOctets 4 e.seq ++ beOctets 4 e.detail

/-- One history entry, with its trace record, its log record and its EVENT record as asked. -/
def histAdd (c : FaultClass) (p source action flags detail before : Nat) (logged notified : Bool) (s : State) : State :=
  let k := instIndex c p
  let seq := wrap32 (s.guard.histSeq + 1)
  let inst := if c = .pod then p else 0
  let e : HistEntry := ⟨s.time.stamp, (FaultClass.code c), inst, source, levelCode (instAt s k).level, action, flags, seq, detail⟩
  let g := s.guard
  let s1 : State := { s with guard := { g with
      history := (e :: g.history).take 16, histSeq := seq,
      podHistory := if c = .pod then putAt g.podHistory p ((e :: g.podHistory.getD p []).take 4) else g.podHistory } }
  let s2 := traceAdd 1 s.time.stamp [e.cls, e.inst, e.source, e.level, e.action, e.flags] s1
  let podByte := if c = .pod then p else 0xFF
  let s3 := if logged then logAdd 8 (FaultClass.code c) (e.level + 256 * source) ([podByte, action, before, 0] ++ beOctets 4 detail ++ beOctets 4 seq) s2 else s2
  if notified then evAdd ⟨1, podByte, histOctets e⟩ s3 else s3

/-! ### Containment and SAFE (R523, R529) -/

/-- The engine's part in HOLD is one record; in SAFE pulses and sampling are held, and the displays go band-only (R529). -/
def enterSafe (s : State) : State := displayWatch (runTimers false (setChip .safe (freezePods s)))

/-- An L4 (R29, R34, R519, R529-R531): recorded; SAFE at once from ACTIVE and BOOT, where a reset sequence in progress goes on to its
end; held in STANDBY; in HOLD recorded alone. -/
def levelFour (c : FaultClass) (p source : Nat) (s : State) : State :=
  let s1 : State := { s with guard := { s.guard with safe := some ((FaultClass.code c), p, source, s.time.stamp, s.chip.state.code), latched := true } }
  match s.chip.state with
  | .active => enterSafe s1
  | .boot => enterSafe s1
  | .standby => { s1 with guard := { s1.guard with pendingSafe := true } }
  | _ => s1

/-- A Pod enters POD-FAULT (R36, R362, R408, R428, R448); a pulse in progress completes. -/
def podToFault (p cause : Nat) (s : State) : State :=
  let s1 := syncPulse p s
  let s2 := stopSampling p .fault cause none s1
  modPod p (fun d => pulseHold false { d with wake := none, powering := none }) (endDoze p s.time.stamp (exitCause (podAt s p) 5) s2)

/-- An instance enters L3 (R523, R525): its exit mode and quiet time as they stand, and the containment of its class. -/
def enterContainment (c : FaultClass) (p : Nat) (s : State) : State :=
  let k := instIndex c p
  let i := instAt s k
  let quiet := exitMode s c = 1 ∧ i.recoveries < recoveryLimit s c
  let s1 := modInst k (fun i => { i with contain := some ⟨decide quiet, quietTime s c, s.time.elapsed⟩ }) s
  match c with
  | .pod => podToFault p 9 s1
  | .link => linkCause 0 true s1
  | .pwr | .disp => displayWatch s1
  | _ => s1

/-- What a level brings: the response timer at L2, containment from L3, SAFE at L4 (R509). -/
def levelEffects (c : FaultClass) (p source level : Nat) (s : State) : State :=
  let k := instIndex c p
  let i := instAt s k
  let s1 := if 3 ≤ level ∧ c ≠ .guard ∧ i.contain.isNone then enterContainment c p s else s
  if level = 4 then levelFour c p source s1 else s1

/-- The response timer of an occurrence at L2 that is unacknowledged (R513, R514). -/
def withTimer (s : State) (o : Occ) : Occ :=
  if o.level = 2 ∧ !o.acked ∧ o.timer.isNone then
    { o with timer := some (devVal s 0x2305 0), timing := s.chip.state == .active }
  else o

/-- An occurrence at L0 to L2 ends when its causes have cleared and, above L0, it has been acknowledged (R525). -/
def occEnds (o : Occ) : Bool := decide (o.level < 3) && o.causes.isEmpty && (o.level == 0 || o.acked)

def dropEnded (k : Nat) (s : State) : State :=
  let s1 := modInst k (fun i => { i with occs := i.occs.filter (fun o => !occEnds o) }) s
  if k = 0 ∧ (instAt s1 0).occs.isEmpty then { s1 with clocks := { s1.clocks with failedSince := [], rescuedSince := [] } } else s1

/-! ### Raising (R504-R506, R517-R520) -/

def raiseFlags (s : State) (held : Bool) : Nat :=
  b2n (s.chip.state == .hold) + 2 * b2n (s.chip.state == .standby) + 4 * b2n held

/-- An occurrence of an armed Guard at an instant `at_` of the model's clock: joined, escalated or new; at its initial level, or
at `least` where that is higher. -/
def raiseAt (c : FaultClass) (p source detail : Nat) (at_ : Tick) (held present : Bool) (s : State) (least : Nat := 0) : State :=
  let k := instIndex c p
  let i := instAt s k
  let (cond, init0) := sourceOf c source
  let init := max init0 least
  let before := levelCode i.level
  let causes := if cond && present then [source] else []
  let flags := raiseFlags s held
  let counted (s : State) : State := { s with guard := { s.guard with raises := bump s.guard.raises ((FaultClass.code c) - 1) } }
  let quietAgain (i : Inst) : Inst := { i with
    lastSource := source, contain := i.contain.map (fun x => { x with since := s.time.elapsed }) }
  let s0 := counted s
  match i.occs.find? (fun o => decide (at_ ≤ o.burst + msTicks 1) && decide (o.burst ≤ at_)) with
  | some o =>
    let o1 := withTimer s { o with
      source := source, level := max o.level init, acked := o.acked && init == 0, causes := o.causes ++ causes, event := o.event || !cond,
      timer := if 1 ≤ init ∧ o.acked then none else o.timer, timing := if 1 ≤ init ∧ o.acked then false else o.timing }
    let s1 := modInst k (fun i => quietAgain { i with occs := i.occs.map (fun x => if x == o then o1 else x) }) s0
    dropEnded k (levelEffects c p source o1.level (histAdd c p source 2 flags detail before (1 ≤ init) (1 ≤ init) s1))
  | none =>
    let esc := decide (1 ≤ init) && i.unacked
    let level := if esc then min (ceiling c) (max init ((i.level.getD 0) + 1)) else init
    let o := withTimer s ⟨source, level, false, causes, at_, none, false, !cond⟩
    let s1 := modInst k (fun i => quietAgain { i with occs := i.occs ++ [o] }) s0
    let action := if init < level then 3 else if held then 9 else 1
    dropEnded k (levelEffects c p source level (histAdd c p source action flags detail before (1 ≤ init) (1 ≤ init) s1))

/-- A source that already stays raised makes no new occurrence (R504). -/
def staysRaised (c : FaultClass) (p source : Nat) (s : State) : Bool :=
  (instAt s (instIndex c p)).occs.any (fun o => o.causes.contains source) ||
    s.guard.held.any (fun h => h.cls == c && h.pod == p && h.source == source && h.present)

/-- A fault source is raised: held at L0 before B4 (R190, R520), else an occurrence at its level. -/
def raise (c : FaultClass) (p source detail : Nat) (s : State) : State :=
  let cond := (sourceOf c source).1
  if cond && staysRaised c p source s then s
  else if !s.guard.armed then
    { s with guard := { s.guard with held := s.guard.held ++ [⟨c, p, source, detail, s.time.elapsed, cond, 0, false⟩] } }
  else raiseAt c p source detail s.time.elapsed false true s

def raisePod (p source detail : Nat) (s : State) : State := raise .pod p source detail s

/-- The cause of a condition source has been absent for 1 ms (R504). -/
def clearCause (c : FaultClass) (p source : Nat) (s : State) : State :=
  let k := instIndex c p
  let i := instAt s k
  let same (h : HeldFault) : Bool := h.cls == c && h.pod == p && h.source == source
  let s := { s with guard := { s.guard with held :=
    (s.guard.held.filter (fun h => !(same h && h.kept))).map (fun h => if same h then { h with present := false } else h) } }
  if !s.guard.armed then s
  else if !(i.occs.any (fun o => o.causes.contains source)) then s
  else
    let before := levelCode i.level
    let s1 := modInst k (fun i => { i with
      occs := (i.occs.map (fun o =>
        let cs := o.causes.filter (· != source)
        if o.causes.contains source && cs.isEmpty && !o.event then { o with causes := cs, timer := none, timing := false }
        else { o with causes := cs })),
      contain := i.contain.map (fun x => { x with since := s.time.elapsed }) }) s
    let s2 := dropEnded k s1
    histAdd c p source 6 (raiseFlags s false) 0 before true false s2

/-- A held condition of a rail, a monitor or a count ends by itself where the model sees it end: its cause clears. -/
def clearIf (b : Bool) (c : FaultClass) (p source : Nat) (s : State) : State := if b then clearCause c p source s else s

/-! ### Acknowledgement, timer, exits (R513-R516, R525-R528) -/

/-- Every unacknowledged occurrence of an instance is acknowledged; its timer stops. -/
def ackInst (c : FaultClass) (p : Nat) (s : State) : State :=
  let k := instIndex c p
  let i := instAt s k
  if !i.unacked then s
  else
    let s1 := modInst k (fun i => { i with occs := i.occs.map (fun o => if 1 ≤ o.level then { o with acked := true, timer := none, timing := false } else o) }) s
    let s2 := dropEnded k s1
    histAdd c p i.lastSource 5 (raiseFlags s false) 0 (levelCode i.level) true false s2

def allInsts : List (FaultClass × Nat) :=
  [(.clk, 0), (.pwr, 0), (.shell, 0), (.link, 0), (.disp, 0), (.time, 0), (.guard, 0)] ++ (List.range 64).map (fun p => (.pod, p))

/-- The response timer of an instance's unacknowledged L2 occurrence expires: L3 (R513). -/
def timerExpires (c : FaultClass) (p : Nat) (s : State) : State :=
  let k := instIndex c p
  let i := instAt s k
  match i.occs.find? (fun o => o.timing && !o.acked && o.level == 2 && (o.event || !o.causes.isEmpty)) with
  | none => s
  | some o =>
    let o1 := { o with level := min 3 (ceiling c), timer := none, timing := false }
    let s1 := modInst k (fun i => { i with occs := i.occs.map (fun x => if x == o then o1 else x) }) s
    levelEffects c p o.source o1.level (histAdd c p o.source 4 (raiseFlags s false) 0 (levelCode i.level) true true s1)

/-- The containment of a class ends: the link leaves LISTEN-ONLY, the displays are looked at again. -/
def liftContainment (c : FaultClass) (s : State) : State :=
  match c with
  | .link => linkCause 0 false s
  | .pwr | .disp => displayWatch s
  | .clk => { s with clocks := { s.clocks with failedSince := [], rescuedSince := [] } }
  | _ => s

/-- An instance at L3 in a QUIET exit with every cause cleared; L4 ends only at a chip reset (R525). -/
def leavesQuiet (i : Inst) : Bool :=
  match i.contain with
  | some x => x.quiet && !i.occs.any (fun o => !o.causes.isEmpty || o.level == 4)
  | none => false

/-- The QUIET exit (R525, R526): every open occurrence ends, the recovery count rises; a Pod's exit is a pending wake. -/
def quietExitOf (c : FaultClass) (p : Nat) (s : State) : State :=
  let k := instIndex c p
  let i := instAt s k
  if leavesQuiet i then
    let s1 := modInst k (fun i => { i with occs := [], contain := none, recoveries := i.recoveries + 1 }) s
    let s2 := histAdd c p i.lastSource 7 (raiseFlags s false) 0 (levelCode i.level) true true s1
    let s3 := liftContainment c s2
    if c = .pod then trigger 9 p (modPod p (fun d => { d with wake := some 9 }) s3) else s3
  else s

/-- The exit of an instance by a Pod reset or a display reset: its level is cleared, and causes still present raise afresh
in their own order (R525). -/
def resetExit (c : FaultClass) (p : Nat) (s : State) : State :=
  let k := instIndex c p
  let i := instAt s k
  let causes := (i.occs.map (·.causes)).flatten
  let s1 := modInst k (fun i => { i with occs := [], contain := none }) s
  let s2 := if i.occs.isEmpty then s1 else histAdd c p i.lastSource 8 (raiseFlags s false) 0 (levelCode i.level) true true s1
  causes.foldl (fun s src => raise c p src 0 s) (liftContainment c s2)

/-- What is present of an occurrence: its condition causes; and, of an L4 by a RESCUE-WAIT that timed out, the wait that goes on. -/
def presentSources (waits : Bool) (c : FaultClass) (o : Occ) : List Nat :=
  o.causes ++ (if c == .clk && o.source == 11 && o.level == 4 && waits then [11] else [])

/-- The causes that are still present when a chip reset ends the levels: B4 raises them again, those of an L4 as an L4 (R34,
R35, R525). -/
def keepCauses (s : State) : State :=
  let waits := s.clocks.muxes.toList.any (fun m => m.code == .rescueWait)
  let of_ (cp : FaultClass × Nat) : List HeldFault :=
    ((instAt s (instIndex cp.1 cp.2)).occs.map (fun o =>
      (presentSources waits cp.1 o).map (fun src => (⟨cp.1, cp.2, src, 0, o.burst, true, if o.level = 4 then 4 else 0, true⟩ : HeldFault)))).flatten
  { s with guard := { s.guard with held := s.guard.held ++ (allInsts.map of_).flatten } }

/-- Entries of action 0x08 for every instance above none at the trigger of a chip reset, without EVENT records (R525). -/
def chipResetExits (s : State) : State :=
  allInsts.foldl (fun s cp =>
    let k := instIndex cp.1 cp.2
    let i := instAt s k
    if i.occs.isEmpty then s
    else
      let s1 := modInst k (fun i => { i with occs := [], contain := none }) s
      histAdd cp.1 cp.2 i.lastSource 8 (raiseFlags s false) 0 (levelCode i.level) true false s1) (keepCauses s)

/-- Levels, timers and recovery counts are cleared; Guard waits for B4, with the causes that are still present (R215, R525). A
fault held before B4 that a reset overtakes stays where its cause is present. -/
def guardCleared (s0 : State) : State :=
  let s := keepCauses s0
  { s with
    guard := { s.guard with
      armed := false, held := (s.guard.held.filter (·.present)).map (fun h => { h with kept := true }), latched := false, pendingSafe := false, backstop := false,
      insts := s.guard.insts.map (fun i => { i with occs := [], contain := none, recoveries := 0 }) },
    clocks := { s.clocks with failedSince := [], rescuedSince := [] },
    link := { s.link with causes := clearBit s.link.causes 0 } }

/-- B4: the held faults are raised at their initial levels, in the order of their first raise (R520). -/
def armGuard (s : State) : State :=
  let held := s.guard.held
  let s1 : State := { s with guard := { s.guard with armed := true, held := [] } }
  held.foldl (fun s h => raiseAt h.cls h.pod h.source h.detail h.stamp true h.present s h.least) s1

/-! ### Readings (R528, R532) -/

def podInsts (s : State) : List Inst := (List.range 64).map (fun p => instAt s (8 + p))

/-- The level code of a class: for POD the highest of its instances. -/
def classLevel (s : State) (code : Nat) : Nat :=
  if code = 7 then levelCode ((podInsts s).foldl (fun a i => match i.level with | some l => some (max (a.getD 0) l) | none => a) none)
  else levelCode (instAt s (code - 1)).level

def classUnacked (s : State) (code : Nat) : Bool :=
  if code = 7 then (podInsts s).any Inst.unacked else (instAt s (code - 1)).unacked

def classRecovery (s : State) (code : Nat) : Nat :=
  if code = 7 then (podInsts s).foldl (fun a i => max a i.recoveries) 0 else (instAt s (code - 1)).recoveries

/-! ### Commands -/

/-- RESPONSE_TIMER_EXPIRY (R513). -/
def execResponseTimerExpiry (c : FaultClass) (p : Fin 64) (s : State) : Host.Outcome State Fault Refusal :=
  .next (if s.chip.state = .active then timerExpires c p.val s else s)

/-- GUARD_ARMING (R520): B4, after B3 and the GUARD RC's qualification; an L4 reached there is SAFE (R520, R531). -/
def execGuardArming (s : State) : Host.Outcome State Fault Refusal :=
  .next (if s.chip.state = .boot ∧ s.chip.reset.isNone ∧ booted s 3 ∧ !booted s 4 ∧ qualified s 4 then
    armGuard { s with chip := { s.chip with phases := s.chip.phases ++ [4] } } else s)

/-- GUARD_SELF_FAULT (R501). -/
def execGuardSelfFault (f : SelfFault) (s : State) : Host.Outcome State Fault Refusal :=
  .next (if s.chip.state = .unpowered then s else
    match f with
    | .lockstep => raise .guard 0 1 0 s
    | .ecc => raise .guard 0 2 0 s
    | .supply => raise .guard 0 3 0 s
    | .corrected => { s with guard := { s.guard with corrected := wrap32 (s.guard.corrected + 1) } })

/-- The class that an ACK code names. -/
def classOfCode (code : Nat) : Option FaultClass :=
  if code = 1 then some .clk else if code = 2 then some .pwr else if code = 3 then some .shell else if code = 4 then some .link
  else if code = 5 then some .disp else if code = 6 then some .time else if code = 7 then some .pod else if code = 8 then some .guard
  else none

def ackAllInsts (s : State) : State := allInsts.foldl (fun s cp => ackInst cp.1 cp.2 s) s

/-- `Guard.Command` (R515) as an item of the engine: its status and the state after. -/
def guardCommand (code arg : Nat) (s : State) : Nat × State :=
  let put (completion : Nat) (s : State) : State := { s with guard := { s.guard with command := commandWord code arg completion } }
  if code = 0x0010 ∧ arg = 0 then (stOk, put 2 (ackAllInsts s))
  else
    match classOfCode (code - 0x0100) with
    | some c =>
      if code < 0x0101 ∨ (if c = .pod then 64 ≤ arg else arg ≠ 0) then (stBadValue, s)
      else (stOk, put 2 (ackInst c arg s))
    | none => (stBadValue, s)

end Sys2Proof.Machine
end

