-- ==== Sys2Proof/Machine/PodApply.lean ====
section
/-! DEFINITION. What a Pod does at a frame boundary and when a write or a commit reaches it: HOT values (R69), staged
copies (R83, R84, R86), resets of channels (R89, R274, R284), ranges (R243-R248), LEAN (R289-R291), Pod reset (R216). -/

namespace Sys2Proof.Machine

/-! ### Channel settings and resets -/

/-- What a channel runs on: whether it is used, entry, response, delay, averages; on converter B its mode (R251) and, of the
shared stream, its gain. Whether LEAN keeps the entry is no part of it (R285, R287). -/
def chanSignature (d : Pod) (c : Nat) : List Nat :=
  let k := settingsChannel d c
  let used := if c < 16 then entryUsed (d.seqA.getD c 0) else (bEntry { d with mode := .run } (c - 16)).isSome
  [b2n used, channelEntry d c, chanResp d c, chanDelay d c, chanAvg d c, chanPip d c,
   if c < 16 then 0 else d.val 0x24 0, if k = c then 16 else d.val 0x26 0]

/-- Channels that an apply resets (R89, R251, R253, R274, R284, R301, R306, R312): those whose settings change, and both streams
of the shared entry where another entry becomes the shared one, by its input and its use, or `Pod.PlausGainB` changes. A change
of the mode alone leaves the converter A channel alone. -/
def changedChannels (before after : Pod) : List Nat :=
  let fresh := match after.shared with
    | some k =>
      (if sharedIndex before.seqA 2 (before.val 0x25 0) == some k && before.val 0x26 0 == after.val 0x26 0 then [] else [k]) ++
      (if before.shared == some k then [] else [16 + k])
    | none => []
  (List.range 32).filter (fun c => chanSignature before c != chanSignature after c || fresh.contains c)

/-- A channel goes on with the entry that it had: its alignment keeps its last sample (R280, R284). -/
def sameEntry (before after : Pod) (c : Nat) : Bool :=
  (before.chans.getD c .reset).live && settingsChannel before c == settingsChannel after c && channelEntry before c == channelEntry after c

/-- A plausibility window in progress is cut, not evaluated and counted (R257). -/
def cutWindow (cv : Converters) : Converters :=
  { cv with
    plausPairs := [], plausDirty := false,
    plausSkipped := if cv.plausPairs.isEmpty then cv.plausSkipped else wrap32 (cv.plausSkipped + 1) }

/-- Resets the changed channels (R284); the others follow the layout; plausibility starts anew where its streams reset (R255). -/
def resetChanged (before : Pod) (cs : List Nat) (d : Pod) : Pod :=
  let d1 := followLayout (if cs.isEmpty then d else syncChannels (sameEntry before d) cs d)
  let streams := match d1.shared with
    | some k => [k, 16 + k]
    | none => []
  if cs.any (fun c => streams.contains c) then { d1 with conv := cutWindow d1.conv } else d1

/-- What a change of layout hands over of one input (R316, R325-R327). A reset of its metering channel, or another channel in its place:
the pip path books from the last fine instant on, across the bridge from the last pip value and over an interval before the oldest of the
ring's 1 088. Metering that begins anew books from the next pip value on; metering that ends hands nothing over. -/
def handOverInput (before : Pod) (cs : List Nat) (d : Pod) (i : Nat) : Pod :=
  match meterChan d i with
  | none => d
  | some c =>
    let m := d.meter
    let newest := ((m.pip.getD i []).headD noSample).stamp
    let opened := m.spans.any (fun g => g.input == i && g.stop.isNone)
    match meterChan before i with
    | none => { d with meter := { m with
        spans := m.spans.map (fun g => if g.input = i ∧ g.stop = none then { g with stop := some (newest + 1) } else g) ++ [⟨i, newest, none⟩] } }
    | some c0 =>
      if c0 = c && !cs.contains c then d
      else
        let last := ((((m.fine.getD i []).filter (fun x => x.valid && fineCounts d i x.stamp)).map (·.stamp)).headD (d.startAt - 1))
        let old := if opened then [] else match (m.pip.getD i [])[1087]? with
          | some o => if last < o.stamp then [Bridge.mk i last o.stamp] else []
          | none => []
        { d with meter := { m with
            spans := if opened then m.spans else m.spans ++ [⟨i, last, none⟩],
            bridges := m.bridges ++ old,
            bridgeFrom := if cs.contains c && !(m.pip.getD i []).isEmpty then
              putAt m.bridgeFrom i (some ((m.bridgeFrom.getD i none).getD newest)) else m.bridgeFrom } }

def handOver (before : Pod) (cs : List Nat) (d : Pod) : Pod :=
  if sampling d.mode && d.powering.isNone then (List.range 7).foldl (handOverInput before cs) d else d

/-- The set of metering channels (R412). -/
def meterSet (d : Pod) : List (Option Nat) := (List.range 4).map (meterChan d)

/-! ### Values that reach the Pod -/

/-- The calibration check (R455): CRC-32C over locals 0x50-0x54 in their wire encoding. -/
def calCrc (d : Pod) : Nat :=
  crc32c (([0x50, 0x51, 0x52, 0x53].map (fun loc =>
    ((List.range 7).map (fun i => beOctets (if loc = 0x53 then 2 else 4) (d.val loc (i + 1)))).flatten)).flatten ++ beOctets 16 (d.val 0x54 0))

def sealedLoc (key : Nat) : Bool := decide (0x50 ≤ key / 256 ∧ key / 256 ≤ 0x54)

/-- The nearest gain code that `Pod.RangeLimit` allows, for each entry that converts (R243): a move is a range change. -/
def clampRanges (d : Pod) : Pod :=
  (List.range 16).foldl (fun d k =>
    let r := d.conv.ranges.getD k ⟨0, none, 0, 0⟩
    let g := max (d.val 0x12 1) (min (d.val 0x12 2) r.gain)
    if isAuto (d.seqA.getD k 0) && channelRuns d k && g != r.gain then
      { d with conv := { d.conv with ranges := putAt d.conv.ranges k ⟨g, none, 0, 0⟩ }, counters := bump d.counters 2 }
    else d) d

/-- `Pod.SliceControl` FACTORY returns every correction to zero and then reads FREEZE (R241). -/
def factorySlices (d : Pod) : Pod :=
  { d.setVal 0x36 0 0 with conv := { d.conv with offset := .replicate 8 0, gain := .replicate 8 0, skew := .replicate 8 0 } }

/-- FREEZE and FACTORY stop solving: a solve that waits and the interval in progress fall away (R241). -/
def stopSolving (d : Pod) : Pod :=
  { d with conv := { d.conv with
      solve := none, estFrames := .replicate 2 0, estSquares := .replicate 32 0, estSamples := .replicate 32 0, estClipped := 0,
      estReady := .replicate 2 none } }

/-- A HOT value in effect (R69): the value, and what follows from it but for the residue of test mode. -/
def applyHotValue (stamp : Tick) (e : Nat × Nat) (d : Pod) : Pod :=
  let d1 := { (if e.1 = keyOf 0xB2 0 ∨ e.1 = keyOf 0xB4 0 then carryTicks d else d) with values := storePut podDefault d.values e.1 e.2 }
  if e.1 / 256 = 0x12 then clampRanges d1
  else if e.1 = keyOf 0x36 0 then (if e.2 = 2 then factorySlices (stopSolving d1) else if e.2 = 0 then stopSolving d1 else d1)
  else if e.1 = keyOf 0x72 0 then noteNominal stamp e.2 d1
  else if e.1 = keyOf 0xC4 0 then { d1 with pulse := { d1.pulse with test := e.2 == 1 } }
  else d1

/-- Every HOT value that waits comes into effect; a switch of test mode is a residue event with cause 5 (R445, R446), unless a
lower cause of the same frame has made it. -/
def applyHot (stamp : Tick) (residueDone : Bool) (d : Pod) : Pod :=
  let test := match (d.hot.reverse.find? (fun e => e.1 == keyOf 0xC4 0)) with
    | some e => e.2 == 1
    | none => d.pulse.test
  let d1 := if test != d.pulse.test && !residueDone then pulseResidue 5 stamp d else d
  { d1.hot.foldl (fun d e => applyHotValue stamp e d) d1 with hot := [] }

/-- The staged copy that a commit latched comes into effect whole (R76, R83): residue events of R446, resets of R89. -/
def applyValues (stamp : Tick) (es : List (Nat × Nat)) (gen : Nat) (d : Pod) : Pod × Bool :=
  let d1 := { (if es.any (fun e => e.1 / 256 == 0x50) then carryTicks d else d) with values := storePutAll podDefault d.values es }
  let source := d1.val 0xC0 0 != d.val 0xC0 0
  let constant := d1.val 0xC1 0 != d.val 0xC1 0
  let d2 := if source || constant then { d1 with pulse := (pulseResidue (if source then 1 else 2) stamp d).pulse } else d1
  let cs := changedChannels d d2
  let d3 := handOver d cs (resetChanged d cs d2)
  let d4 := if meterSet d3 == meterSet d then d3 else { d3 with events := { d3.events with idleFrom := none } }
  let rest := d4.staged.filter (fun e => !es.contains e)
  ({ d4 with
      activeGen := if es.isEmpty then d4.activeGen else gen,
      stagedGen := if es.isEmpty then d4.stagedGen else if rest.isEmpty then gen else wrap32 (gen + 1),
      staged := rest, latched := none }, source || constant)

/-- Whether the latched copy may apply: sealed values need the seal open (R86). -/
def latchedMay (d : Pod) : Bool :=
  match d.latched with
  | some (es, _) => !(es.any (fun e => sealedLoc e.1)) || d.sealRec.code == .opened
  | none => false

/-! ### LEAN and RUN (R39, R289-R291) -/

/-- Entry to LEAN: converter B and the entries not kept stop, their filter states held; plausibility and estimation stop (R252). -/
def enterLean (d : Pod) : Pod :=
  let d1 := { d with mode := .lean }
  { d with
    chans := (followLayout d1).chans,
    meter := (handOver d [] d1).meter,
    conv := { d.conv with plausPairs := [], plausDirty := false, plausCount := 0, plausStatus := 0, displaced := none },
    events := if meterSet d1 == meterSet d then d.events else { d.events with idleFrom := none } }

/-- Channels that LEAN's end resets: dropped converter A entries and converter B's. -/
def leanReturn (d : Pod) : List Nat :=
  (List.range 32).filter (fun c => if c < 16 then entryUsed (d.seqA.getD c 0) && !activeA d c else true)

/-! ### Pod reset (R216, R435, R450) -/

/-- What a soft Pod reset clears: sequencer, filters, partial windows, plausibility counts, the staged copy; the seal, the
registers, the values and the counters stay. -/
def clearedPod (d : Pod) : Pod :=
  let d1 := stopChannels d
  { d1 with
    plan := .none, frozen := false, wake := none, powering := none, staged := [], latched := none, hot := [], stagedGen := d.activeGen,
    framePeriod := 33554432, rcByCommand := false,
    chans := .replicate 32 .reset,
    conv := { d.conv with
      ranges := .replicate 16 ⟨0, none, 0, 0⟩, cm := 0, cmFrames := .replicate 5 0, frameA := 0, frameB := 0, solve := none,
      plausStatus := 0, plausCount := 0, plausPairs := [], plausDirty := false, displaced := none, refFrames := 0, refDue := false, refDefer := 0,
      estFrames := .replicate 2 0, estSquares := .replicate 32 0, estSamples := .replicate 32 0, estClipped := 0, estReady := .replicate 2 none },
    meter := { d.meter with
      fine := .replicate 7 [], pip := .replicate 7 [], fund := .replicate 7 [], resp := .replicate 7 [], bridges := [], spans := [],
      bridgeFrom := .replicate 7 none, notes := [], source := 0, crossings := .replicate 3 [], qualified := .replicate 3 0, halfQueue := [], winOpen := false, winRising := [], winQueue := [],
      booked := [], missingFrom := .replicate 3 none,
      lastPower := .replicate 3 ⟨0, 0, 0, 0, 0⟩ },
    harm := { d.harm with due := none, phasorDue := [] },
    events := { d.events with rms := .replicate 7 [], active := [], blocks := [], idleFrom := none } }

end Sys2Proof.Machine
end

