-- ==== Sys2Proof/Machine/ShellOps.lean ====
section
/-! DEFINITION. The Shell (R464-R499): the image, slots and STOREs, Pod energy records and snapshot banks, gaps that wait,
the black-box log, the seal's closing, and the meanings of the Shell's own commands. -/

namespace Sys2Proof.Machine

def slotAt (s : State) (k : Nat) : Slot := s.shell.slots.getD k .blank

def bankAt (s : State) (k : Nat) : Bank := s.shell.banks.getD k .blank

def slotList : List Nat := List.range 8

/-- Slots that are not RETIRED (R479). -/
def liveSlots (s : State) : Nat := (slotList.filter (fun k => !(slotAt s k).retired)).length

/-! ### Stored octets and their checks (R9, R464-R467, R481-R483) -/

/-- The octets of a Pod record before its check (R482). -/
def EnergyRec.octets (r : EnergyRec) : List Nat :=
  [r.pod, r.mode, r.sealCode, b2n r.saturated] ++ beOctets 8 r.lastBooking ++ (r.regs.toList.map (fun v => beOctets 12 (v / 256))).flatten ++
    beOctets 12 (r.ack / 256) ++ beOctets 12 (r.bound / 256) ++ beOctets 12 (r.coarse / 256) ++ beOctets 8 r.ticks ++ beOctets 4 r.acc ++
    beOctets 4 r.owed ++ (r.urms.toList.map (beOctets 4)).flatten ++ beOctets 4 r.transfers ++ beOctets 4 r.seq

/-- A record's check matches. -/
def EnergyRec.valid (r : EnergyRec) : Bool := r.check == crc32c r.octets

/-- A record with the check over its octets. -/
def EnergyRec.sealed (r : EnergyRec) : EnergyRec := { r with check := crc32c r.octets }

/-- The values that an image holds outside its energy blocks, in a fixed order. -/
def Image.values (i : Image) : List Nat :=
  let store (st : Store) : List Nat := st.length :: (st.map (fun e => [e.1, e.2])).flatten
  store i.dev ++ i.keys.toList.map (fun k => k.elim 0 (· + 1)) ++ [i.devGen] ++ (i.pods.toList.map store).flatten ++
    i.modes.toList.map PodMode.code ++ i.gens.toList ++ i.seals.toList.map SealCode.code ++ store i.buffer

/-- The 65 536 octets of an image: block p stands at 0xC000 + 256 p (R464). -/
def imageOctets (i : Image) (energy : Vector EnergyRec 64) : List Nat :=
  (List.range 0xC000).map (Config.imageOctet i.values) ++ (energy.toList.map (fun r => r.octets ++ beOctets 4 r.check)).flatten

/-- The 32 octets of a slot header (R466). -/
def slotHeader (seq reason quality stamp wear check : Nat) : List Nat :=
  let h := beOctets 4 seq ++ [reason, 1, quality, 0] ++ beOctets 8 stamp ++ beOctets 4 65536 ++ beOctets 4 wear ++ beOctets 4 check
  h ++ beOctets 4 (crc32c h)

/-- The 32 octets of a bank header (R481). -/
def bankHeader (seq trig quality stamp mask : Nat) : List Nat :=
  let h := beOctets 4 seq ++ [trig, 1, quality, 0] ++ beOctets 8 stamp ++ beOctets 8 mask ++ beOctets 4 0
  h ++ beOctets 4 (crc32c h)

/-- A header's check matches and its format is 0x01 (R467, R483). -/
def headerMatches (h : List Nat) : Bool := h.getD 5 0 == 1 && beValue (h.drop 28) == crc32c (h.take 28)

/-- A field of a header, zero of an erased one (log 15). -/
def headerField (h : List Nat) (off n : Nat) : Nat := if h.all (· == 0xFF) then 0 else beValue ((h.drop off).take n)

/-- A header whose check no longer matches. -/
def spoilHeader (h : List Nat) : List Nat := h.take 31 ++ [255 - h.getD 31 0]

def Slot.seq (x : Slot) : Nat := headerField x.header 0 4
def Slot.reason (x : Slot) : Nat := headerField x.header 4 1
def Slot.quality (x : Slot) : Nat := headerField x.header 6 1
def Slot.stamp (x : Slot) : Tick := headerField x.header 8 8
def Slot.wear (x : Slot) : Nat := headerField x.header 20 4

def Bank.seq (x : Bank) : Nat := headerField x.header 0 4
def Bank.trigger (x : Bank) : Nat := headerField x.header 4 1
def Bank.quality (x : Bank) : Nat := headerField x.header 6 1
def Bank.stamp (x : Bank) : Tick := headerField x.header 8 8
def Bank.mask (x : Bank) : Nat := headerField x.header 16 8

/-- A bank header verifies (R483). -/
def Bank.good (x : Bank) : Bool := headerMatches x.header

/-- A slot that has been programmed (R469). -/
def Slot.written (x : Slot) : Bool := x.header != erasedHeader || x.imageCheck != some erasedCheck

/-- A header verifies (R467); RETIRED slots take no part (R484). -/
def headerVerifies (x : Slot) : Bool := headerMatches x.header && !x.retired

/-- A slot verifies: its header, and the image check in it against the image as stored (R467). -/
def slotVerifies (x : Slot) : Bool := headerVerifies x && x.imageCheck == some (headerField x.header 24 4)

/-- The slot whose verifying header carries the highest sequence (R476, R484). -/
def newestOf (ok : Slot → Bool) (s : State) : Option Nat :=
  slotList.foldl (fun a k => if ok (slotAt s k) then
    (match a with
     | some j => if (slotAt s j).seq < (slotAt s k).seq then some k else a
     | none => some k) else a) none

/-- N of R486: the highest sequence among the verifying slot and bank headers. -/
def highestSeq (s : State) : Nat :=
  [0, 1].foldl (fun a k => if (bankAt s k).good then max a (bankAt s k).seq else a)
    (slotList.foldl (fun a k => if headerVerifies (slotAt s k) then max a (slotAt s k).seq else a) 0)

/-- The slot of the next STORE (R476). -/
def nextSlot (s : State) : Option Nat :=
  let start := match newestOf headerVerifies s with
    | some k => k + 1
    | none => 0
  (slotList.map (fun j => (start + j) % 8)).find? (fun k => !(slotAt s k).retired)

/-- `Shell.SlotState` (R469). -/
def slotState (x : Slot) : Nat := if x.retired then 3 else if !x.written then 0 else if slotVerifies x then 1 else 2

/-- The rows of the Strip's frame buffer return to zero (R215, R218). -/
def clearStripData (s : State) : State := (List.range 8).foldl (fun s r => setDev 0x2484 (r + 1) 0 s) s

/-! ### Pod records (R482) -/

/-- The state of a Pod as the image holds it: before B7, when every Pod stands in STOPPED, the recalled one (R37, R464), but for a
Pod that Guard has put in POD-FAULT. -/
def storedMode (s : State) (p : Nat) : PodMode :=
  let d := podAt s p
  if podsHoldEnergy s || d.mode == .fault then d.mode else s.shell.recalledModes.getD p .stopped

/-- The record of a Pod as a write with sequence `seq` takes it; a CLOSING seal whose record stands counts as closed (R461). -/
def podRecord (seq p : Nat) (mode : PodMode) (d : Pod) : EnergyRec :=
  EnergyRec.sealed
    { pod := p, seq := seq, check := 0, mode := mode.code,
      sealCode := if d.sealRec.code = .closing then 0 else d.sealRec.code.code,
      saturated := d.doze.saturated, lastBooking := d.meter.lastBooking, regs := d.meter.regs.map (fun r => r / 256 * 256),
      ack := d.doze.ack / 256 * 256, bound := d.doze.bound / 256 * 256, coarse := d.meter.coarse / 256 * 256,
      ticks := d.doze.untransferred, acc := d.pulse.acc / 1000000, owed := d.pulse.owed, urms := d.meter.lastUrms,
      transfers := d.doze.transfers }

/-- The image as CAPTURE takes it (R464, R465). -/
def imageNow (s : State) : Image where
  dev := s.dict.values
  keys := s.dict.keys
  devGen := s.chip.activeGen
  pods := s.pods.map (·.values)
  modes := Vector.ofFn (fun p : Fin 64 => storedMode s p.val)
  gens := s.pods.map (·.activeGen)
  seals := s.pods.map (fun d => if d.sealRec.code = .closing then .closed else d.sealRec.code)
  buffer := s.panel.buffer

/-- The hub cannot read a Pod over its lane (R662). -/
def unreachable (s : State) (p : Nat) (absent : List Nat) : Bool := (podAt s p).faults.isoOpen || absent.contains p

/-- How long a lane access may take, in us: 50, or 45 where the Pod starts its RC for it (R26, R27). -/
def laneLimit (d : Pod) : Nat := if sampling d.mode then 50 else 45

/-- A lane access completes (R25, R656, R671, R676); how long it took is free. -/
def laneDone (p : Nat) (s : State) : State :=
  hubCount 0 { modPod p (fun d => { d with
      counters := bump d.counters 17,
      faults := { d.faults with laneRun := 0, laneLongest := max d.faults.laneLongest (min (laneLimit d) (Config.laneMicros s.fresh)) } }) s with fresh := s.fresh + 1 }

/-- An access to a Pod over its lane fails (R26): the switch is open, or this is the access that LANE_TIMEOUT reported. -/
def laneSilent (s : State) (p : Nat) : Bool := (podAt s p).faults.isoOpen || (podAt s p).faults.laneFailed == some s.time.elapsed

/-- The access that LANE_TIMEOUT reported has failed; the next one of the same instant is another access (R26). -/
def laneFell (p : Nat) (s : State) : State := modPod p (fun d => { d with faults := { d.faults with laneFailed := none } }) s

/-- The integer part of the register that autorender shows. -/
def shownValue (s : State) (p : Nat) : Nat := (podAt s p).meter.regs.getD (devVal s 0x2421 0 - 1) 0 / 2 ^ 40

/-- Outside ACTIVE, a transfer writes the Pod's shown register into autorender's cache (R557). -/
def cacheAfter (p : Nat) (s : State) : State :=
  if s.chip.state != .active && bit (devVal s 0x2420 0) p then
    { s with panel := { s.panel with cache := putAt s.panel.cache p (shownValue s p), cacheStamp := s.time.stamp } }
  else s

/-- Dormant transfers of every Pod that takes them and whose lane delivers (R429). -/
def transferAll (absent : List Nat) (s : State) : State :=
  onPods (fun p s =>
    let d := podAt s p
    if unreachable s p absent || !takesTransfer d then s
    else cacheAfter p (laneDone p (modPod p (transferPod s.time.stamp) s))) s

/-- A lane access that does not complete within 50 us (R26, R676). -/
def laneTimeout (p : Nat) (s : State) : State :=
  if (podAt s p).faults.isoOpen then s
  else raisePod p 2 0 (hubCount 1 (modPod p (fun d => { d with faults := { d.faults with laneTimeouts := wrap32 (d.faults.laneTimeouts + 1), laneStamp := s.time.stamp, laneRun := min 255 (d.faults.laneRun + 1) } }) s))

def laneTimeouts (ps : List Nat) (s : State) : State := (podList.filter (fun p => ps.contains p)).foldl (fun s p => laneTimeout p s) s

/-- A source starts: QUALIFYING from zero; a FAILED source stays so until it qualifies (R142). One that is on goes on. -/
def startOsc (k : Nat) (s : State) : State :=
  let o := oscAt s k
  if o.driven then s
  else setOsc k ⟨if o.code = .failed then .failed else .qualifying, 0, false, s.time.elapsed, true⟩ 0 s

/-- NVS has a clock, so that a STORE can go on (R139, R160). -/
def nvsRuns (s : State) : Bool := qualified s 3 || ((oscAt s 3).code == .failed && (oscAt s 3).driven)

/-! ### STORE (R470-R479) -/

/-- The highest-priority reason among bits at the reason codes (R471). -/
def topReason (reasons : Nat) : Nat := ([3, 6, 5, 4, 1, 2].find? (fun r => bit reasons r)).getD 0

def traceStore (phase slot reasons outcome : Nat) (s : State) : State :=
  traceAdd 3 s.time.stamp [phase, slot, reasons / 256 % 256, reasons % 256, outcome, liveSlots s] s

/-- A seal whose STORE has ended is CLOSED; a commanded close completes with its outcome (R459, R474). -/
def closeSeals (good : Bool) (s : State) : State :=
  onPods (fun p s =>
    let d := podAt s p
    if d.sealRec.code = .closing then
      let s1 := modPod p (fun d => { d with sealRec := { d.sealRec with code := .closed, byCommand := false } }) s
      if d.sealRec.byCommand then podComplete p (if good then 2 else 4) s1 else s1
    else s) s

/-- The triggers that joined a STORE complete with its outcome: command, seal closes, the restore's STORE (R61, R473). -/
def storeTriggers (reasons outcome : Nat) (s : State) : State :=
  let good := outcome == 1 || outcome == 2
  let s1 : State := if bit reasons 1 then
      { s with shell := { s.shell with command := setCompletion s.shell.command (if good then 2 else 4), lastCommandEnd := some s.time.elapsed } }
    else s
  if bit reasons 4 then closeSeals good s1 else s1

/-- The record of a STORE that ended: counts, `Shell.LastStore`, log record, trace record, its triggers. -/
def storeEnds (r : StoreRun) (outcome : Nat) (s0 : State) : State :=
  let s := if s0.chip.state = .standby then setOsc 3 ⟨.off, 0, false, 0, false⟩ 0 s0 else s0
  let good := outcome == 1 || outcome == 2
  let micros := microsOf (s.time.elapsed - r.startedAt)
  let sh := s.shell
  let s1 : State := { s with shell := { sh with
      run := none, lastEnd := s.time.elapsed, stores := wrap32 (sh.stores + 1), failures := if outcome = 3 ∨ outcome = 5 then wrap32 (sh.failures + 1) else sh.failures,
      last := ⟨topReason r.reasons, r.reasons, r.slot, r.seq, r.stamp, micros, outcome, r.missed⟩ } }
  let s2 := traceStore 0 r.slot r.reasons outcome s1
  let s3 := if good && r.reasons == 4 then s2
    else logAdd 5 r.slot r.reasons (beOctets 4 r.seq ++ [outcome, liveSlots s2, 0, 0] ++ beOctets 4 micros) s2
  let s4 := storeTriggers r.reasons outcome (if outcome = 3 ∨ outcome = 5 then hubCount 5 s3 else s3)
  if outcome = 3 ∨ outcome = 5 then raise .shell 0 5 0 s4 else s4

/-- A STORE starts: the next sequence, CAPTURE; without a live slot it fails at once (R470, R479). In STANDBY it starts HFRC, which
runs until it ends (R139). -/
def startStoreOn (slot : Option Nat) (reasons : Nat) (repeated : Bool) (started : Tick) (s : State) : State :=
  match (match slot with | some k => (if (slotAt s k).retired then nextSlot s else some k) | none => nextSlot s) with
  | none =>
    storeEnds ⟨1, 0xFF, reasons, repeated, started, 0, s.time.stamp, timeQuality s, 0, .blank, .replicate 64 noEnergy⟩ 5 s
  | some k =>
    let seq := wrap32 (s.shell.counter + 1)
    let s1 : State := { s with shell := { s.shell with
        counter := seq, abortedSlot := none,
        run := some ⟨1, k, reasons, repeated, started, seq, s.time.stamp, timeQuality s, 0, .blank, s.shell.blocks⟩ } }
    traceStore 1 k reasons 0 (hubCount 4 (if s1.chip.state = .standby then startOsc 3 s1 else s1))

/-- A trigger of a STORE: it starts one, or joins the one that waits (R474). -/
def requestStore (reason : Nat) (s : State) : State :=
  if s.shell.run.isSome then { s with shell := { s.shell with pending := setBit s.shell.pending reason } }
  else startStoreOn none (2 ^ reason) false s.time.elapsed s

/-- The waiting STORE starts as soon as the running one ends. -/
def startPending (s : State) : State :=
  if s.shell.run.isNone && s.shell.pending != 0 then
    startStoreOn none s.shell.pending false s.time.elapsed { s with shell := { s.shell with pending := 0 } }
  else s

/-- A slot whose STORE is cut off in PROGRAM, before its header: the earlier header stays, the image fails its check (R467). -/
def tearSlot (x : Slot) : Slot := { x with imageCheck := none }

/-- A power-fail warning or a chip reset aborts a STORE and discards the waiting one; a slot in PROGRAM is torn (R135, R467). -/
def abortStore (s : State) : State :=
  match s.shell.run with
  | none => { s with shell := { s.shell with pending := 0 } }
  | some r =>
    let s1 : State := { s with shell := { s.shell with
        slots := if r.phase = 2 then putAt s.shell.slots r.slot (tearSlot (slotAt s r.slot)) else s.shell.slots, pending := 0, abortedSlot := some r.slot } }
    let s2 := storeEnds r 4 s1
    { s2 with shell := { s2.shell with abortedSlot := some r.slot } }

/-- CAPTURE ends (R470): transfers, image, records; a Pod that does not deliver keeps its earlier block (R482). DESIGN CHOICE (log 15):
before B7 the records carry the recalled energies as they stand, without a transfer. -/
def captureEnds (absent : List Nat) (s : State) : State :=
  match s.shell.run with
  | some r =>
    if r.phase ≠ 1 then s
    else
      let s1 := laneTimeouts absent (if podsHoldEnergy s then transferAll absent s else s)
      let missed := podList.foldl (fun m p => if unreachable s1 p absent then m + 2 ^ p else m) 0
      let energy : Vector EnergyRec 64 := Vector.ofFn (fun p : Fin 64 =>
        if unreachable s1 p.val absent then s1.shell.blocks[p] else podRecord r.seq p.val (storedMode s1 p.val) s1.pods[p])
      let r1 := { r with phase := 2, missed := missed, image := imageNow s1, energy := energy }
      traceStore 2 r.slot r.reasons 0 { s1 with shell := { s1.shell with run := some r1, blocks := energy } }
  | none => s

/-- PROGRAM ends: image, then header, stand in the slot (R466, R467); wear above 100 000 raises once (R480). -/
def programEnds (s : State) : State :=
  match s.shell.run with
  | some r =>
    if r.phase ≠ 2 then s
    else
      let wear := wrap32 ((slotAt s r.slot).wear + 1)
      let check := crc32c (imageOctets r.image r.energy)
      let slot : Slot := ⟨slotHeader r.seq (topReason r.reasons) r.quality r.stamp wear check, some check, false, r.image, r.energy⟩
      let s1 := traceStore 3 r.slot r.reasons 0 { s with shell := { s.shell with
        slots := putAt s.shell.slots r.slot slot, run := some { r with phase := 3 } } }
      if wear = 100001 then raise .shell 0 4 wear s1 else s1
  | none => s

/-- Conditions on the number of live slots (R479). -/
def liveFaults (s : State) : State :=
  let s1 := if liveSlots s < 3 then raise .shell 0 3 0 s else s
  if liveSlots s1 = 0 then raise .shell 0 6 0 s1 else s1

/-- A slot fails its verify: RETIRED for good, log record, SHELL fault (R478). -/
def retireSlot (k : Nat) (s : State) : State :=
  let s1 : State := { s with shell := { s.shell with slots := putAt s.shell.slots k { slotAt s k with retired := true, imageCheck := none } } }
  liveFaults (raise .shell 0 2 k (logAdd 0x0D k 0 (beOctets 4 (slotAt s k).wear ++ [liveSlots s1]) s1))

/-- No repeat takes place in HOLD or in the reset sequence. -/
def mayRepeat (r : StoreRun) (s : State) : Bool := !r.repeated && s.chip.state != .hold && s.chip.reset.isNone && decide (0 < liveSlots s)

/-- VERIFY ends (R478). -/
def verifyEnds (good : Bool) (s : State) : State :=
  match s.shell.run with
  | some r =>
    if r.phase ≠ 3 then s
    else if good then storeEnds r (if r.repeated then 2 else 1) s
    else
      let s1 := retireSlot r.slot s
      if mayRepeat r s1 then startStoreOn none r.reasons true r.startedAt { s1 with shell := { s1.shell with run := none } }
      else storeEnds r 3 s1
  | none => s

/-! ### Snapshots (R481, R483) -/

/-- The bank that does not hold the newer verifying header. -/
def nextBank (s : State) : Nat :=
  let a := bankAt s 0
  let b := bankAt s 1
  if a.good && (!b.good || decide (b.seq ≤ a.seq)) then 1 else 0

/-- The Pods that deliver a record. -/
def reachableMask (s : State) : Nat := podList.foldl (fun m p => if unreachable s p [] then m else m + 2 ^ p) 0

/-- A snapshot is written whole (R481): transfers before it (R429), records of the reachable Pods, its log record. -/
def writeSnapshot (trig : Nat) (s : State) : State :=
  let s1 := transferAll [] s
  let k := nextBank s1
  let seq := wrap32 (s1.shell.counter + 1)
  let mask := reachableMask s1
  let old := (bankAt s1 k).energy
  let energy : Vector EnergyRec 64 := Vector.ofFn (fun p : Fin 64 => if unreachable s1 p.val [] then old[p] else podRecord seq p.val (storedMode s1 p.val) s1.pods[p])
  let s2 : State := { s1 with shell := { s1.shell with
      counter := seq, banks := putAt s1.shell.banks k ⟨bankHeader seq trig (timeQuality s1) s1.time.stamp mask, energy⟩ } }
  logAdd 3 k trig (beOctets 4 seq ++ beOctets 8 mask) s2

/-! ### The log (R491-R497) -/

/-- LOG_APPEND: the oldest waiting record is written at the next general index. -/
def appendLog (s : State) : State :=
  match s.shell.queue with
  | [] => s
  | r :: rest =>
    if !s.shell.logReady then s
    else
      let sh := s.shell
      let seq := wrap32 (sh.logSeq + 1)
      hubCount 6 { s with shell := { sh with
          queue := rest, logSeq := seq, nextIndex := (sh.nextIndex + 1) % 768,
          general := (sh.general.filter (fun e => e.1 != sh.nextIndex)) ++ [(sh.nextIndex, { r with seq := seq, damaged := false })] } }

/-- `Shell.AuditFree` (R458): positions neither written nor reserved by an open seal. -/
def auditFree (s : State) : Nat :=
  256 - s.shell.audit.length - (podList.filter (fun p => (podAt s p).sealRec.code == .opened)).length

def metrologistPrint (s : State) : Nat := fingerprint 3 (s.dict.keys.getD 2 none)

/-- The octets of a close record (R494). -/
def closeOctets (s : State) (p cause session : Nat) (d : Pod) : List Nat :=
  let raw : Int := (s.time.stamp : Int) - d.sealRec.openStamp
  let lim : Int := 140737488355327
  let dur := clampInt (-lim) lim raw
  let flags := b2n (raw != dur) + 2 * b2n (liveSlots s == 0) + 4 * b2n (d.staged.any (fun e => sealedLoc e.1))
  [p + 64 * (cause - 1), flags] ++ beOctets 8 s.time.stamp ++ beOctets 6 (rawOf 48 dur) ++ beOctets 4 d.sealRec.crcOpen ++
    beOctets 4 (calCrc d) ++ beOctets 4 session ++ beOctets 4 (metrologistPrint s)

/-- Test mode ends at the Pod's next frame boundary, at once where the Pod does not sample (R445). -/
def endTest (stamp : Tick) (d : Pod) : Pod :=
  if !d.pulse.test && d.val 0xC4 0 == 0 then d
  else if runsFrames d then { d with hot := d.hot ++ [(keyOf 0xC4 0, 0)] }
  else applyHot stamp false { d with hot := d.hot ++ [(keyOf 0xC4 0, 0)] }

/-- The seal closes (R459-R462): CLOSING, its protected record written first, then a STORE with the reason seal close. -/
def closeSeal (p cause session : Nat) (byCommand : Bool) (s : State) : State :=
  let d := podAt s p
  if d.sealRec.code ≠ .opened then s
  else
    let pos := s.shell.audit.length
    let s1 : State := hubCount 6 { s with shell := { s.shell with audit := s.shell.audit ++ [⟨closeOctets s p cause session d, false⟩] } }
    let s2 := modPod p (fun d => endTest s.time.stamp { d with sealRec := { d.sealRec with
        code := .closing, closeStamp := s.time.stamp, cause := cause, index := 768 + pos, crcClose := calCrc d, byCommand := byCommand,
        audit := ((768 + pos) :: d.sealRec.audit).take 8 } }) s1
    requestStore 4 s2

/-! ### Meanings of the Shell's own commands -/

/-- SEAL_TIMEOUT (R460): the open seal of a Pod closes when its time has run, counted on STAMP; before B7 of a BOOT with RECALL
it is B7 that closes it (R461). -/
def execSealTimeout (p : Fin 64) (s : State) : Host.Outcome State Fault Refusal :=
  let d := podAt s p.val
  .next (if podsHoldEnergy s ∧ d.sealRec.code = .opened ∧ d.sealRec.openStamp + d.val 0xCA 0 * 65536000 ≤ s.time.stamp then closeSeal p.val 2 0 false s else s)

/-- CHECKPOINT_DUE (R472): in ACTIVE, STANDBY and SAFE; suspended under a SHELL containment (R523). -/
def execCheckpointDue (s : State) : Host.Outcome State Fault Refusal :=
  .next (if (s.chip.state = .active ∨ s.chip.state = .standby ∨ s.chip.state = .safe) ∧ !contained s 2 ∧
      s.shell.lastEnd + devVal s 0x2201 0 * 60 * 65536000 ≤ s.time.elapsed then requestStore 2 s else s)

/-- CAPTURE (R470). -/
def execCapture (absent : List Nat) (s : State) : Host.Outcome State Fault Refusal :=
  .next (if nvsRuns s then captureEnds absent s else s)

/-- PROGRAM (R470). -/
def execProgram (s : State) : Host.Outcome State Fault Refusal := .next (if nvsRuns s then programEnds s else s)

/-- LOG_APPEND (R495). -/
def execLogAppend (s : State) : Host.Outcome State Fault Refusal := .next (appendLog s)

end Sys2Proof.Machine
end

