-- ==== Sys2Proof/Machine/Governor.lean ====
section
/-! DEFINITION. The budget governor (R114-R124): charges, the walk of R117, its decisions. -/

namespace Sys2Proof.Machine

/-! ### Charges (R114, R115) -/

def classOf (s : State) : Nat := if s.power.cls = 3 then 3 else if s.power.cls = 2 then 2 else 1

def classLimit (s : State) : Nat := if classOf s = 3 then 2200 else if classOf s = 2 then 1000 else 500

def classReserve (s : State) : Nat := if classOf s = 3 then 100 else if classOf s = 2 then 80 else 50

/-- The charge of the Pane in full mode at a level, rounded up. -/
def paneCharge (n : Nat) : Nat := 20 + (680 * n + 254) / 255

/-- A Pod that samples, or that a granted wake powers up. -/
def podRuns (d : Pod) : Bool := sampling d.mode || d.powering.isSome

def podCharge (d : Pod) : Nat :=
  if d.mode = .lean then 8 else if podRuns d && !d.powerWait then 14 else 0

def podsCharge (s : State) : Nat := podList.foldl (fun a p => a + podCharge (podAt s p)) 0

def stripCharge (s : State) : Nat := if s.panel.wantLit || s.panel.lit then 180 else 0

def paneChargeNow (s : State) : Nat := if paneEffective s = 2 then paneCharge s.power.paneLevel else 1

def managedBudget (s : State) : Nat := classLimit s - 300 - classReserve s - stripCharge s

def totalCharge (s : State) : Nat := 300 + classReserve s + podsCharge s + paneChargeNow s + stripCharge s

/-- The Pane's floor in the walk: its charge at the dim floor in FULL, the band-only charge otherwise (R524). -/
def floorCharge (s : State) : Nat := if paneEffective s = 2 then paneCharge (devVal s 0x2011 0) else 1

/-- The test of R121 for a lit Strip: the LEAN charge of every running Pod and the Pane floor still fit. -/
def stripFits (s : State) : Bool :=
  let running := (podList.filter (fun p => podRuns (podAt s p))).length
  decide (8 * running + floorCharge s ≤ classLimit s - 300 - classReserve s - 180)

/-! ### The walk (R117, R123) -/

/-- Insertion of a Pod by rank; equal ranks keep the lower number first (R116). -/
def rankInsert (x : Nat × Nat) : List (Nat × Nat) → List (Nat × Nat)
  | [] => [x]
  | y :: ys => if x.1 < y.1 then x :: y :: ys else y :: rankInsert x ys

/-- The Pods in priority order. -/
def byRank (s : State) : List Nat :=
  ((podList.map (fun p => (devVal s 0x2010 (p + 1), p))).foldl (fun l x => rankInsert x l) []).map (·.2)

/-- What a walk has done so far: power left, Pods leaned, refused, granted, restored. -/
structure Walk where
  avail : Int
  leaned : Nat
  refused : Nat
  granted : Nat
  restored : Nat
deriving DecidableEq, Repr

/-- A Pod that runs, or that restarts at B7, has its LEAN charge taken before the walk (R123). -/
def walkRuns (d : Pod) : Bool := podRuns d || d.wake == some 8

/-- The grant of RUN or LEAN to a running Pod: applied at its next frame boundary (R119). -/
def grantMode (run : Bool) (d : Pod) : Pod :=
  if run then { d with plan := { d.plan with run := d.mode == .lean, lean := false } }
  else if d.mode = .lean then { d with plan := { d.plan with run := false } }
  else { d with plan := { d.plan with lean := true, run := false } }

/-- A Pod that a granted LEAN has not reached yet (R119). -/
def leanOpen (d : Pod) : Bool := runsFrames d && d.plan.lean && d.mode != .lean

/-- Granted wakes power up once every LEAN granted before them has been entered (R119). -/
def releaseWakes (s : State) : State :=
  if s.pods.toList.any leanOpen then s else { s with pods := s.pods.map (fun d => { d with powerWait := false }) }

/-- A Pod in LEAN has stayed `Pwr.RestoreHold` seconds since its entry (R122). -/
def holdRun (s : State) (d : Pod) : Bool := decide (d.leanAt + devVal s 0x2012 0 * 65536000 ≤ s.time.elapsed)

/-- A pending wake is granted: the Pod powers up; a PENDING sentinel is TRIPPED again (R419). -/
def grantWake (d : Pod) : Pod :=
  { d with
    wake := none, powering := d.wake,
    doze := { d.doze with sentinel := if d.doze.sentinel = .pending then .tripped else d.doze.sentinel } }

/-- A pending wake is refused (R120, R427, R526): a trip goes PENDING and is counted once, a START falls away. -/
def refuseWake (d : Pod) : Pod :=
  let trip := d.doze.sentinel == .tripped || d.doze.sentinel == .pending
  if d.wake = some 2 then { d with wake := if trip then some 1 else none }
  else if d.doze.sentinel = .tripped then
    { d with doze := { d.doze with sentinel := .pending }, counters := bump d.counters 13 }
  else d

/-- One Pod's part of the walk. DESIGN CHOICE (log 20): every running Pod counts as one that wants RUN, also one whose STOP or idle
entry is planned for its next frame boundary. -/
def walkPod (w : Walk × State) (p : Nat) : Walk × State :=
  let s := w.2
  let d := podAt s p
  if walkRuns d then
    let d1 := if d.wake == some 8 then grantWake d else d
    let expired := d.mode != .lean || holdRun s d
    let run := decide (6 ≤ w.1.avail) && expired
    let d2 := grantMode run d1
    let newlyLean := !run && d.mode != .lean && !d.plan.lean
    ({ w.1 with
        avail := if run then w.1.avail - 6 else w.1.avail,
        leaned := w.1.leaned + b2n newlyLean, restored := w.1.restored + b2n (run && d.mode == .lean),
        granted := w.1.granted + b2n (d.wake == some 8) }, modPod p (fun _ => d2) s)
  else if d.wake.isSome then
    if 14 ≤ w.1.avail ∧ !contained s 1 then
      ({ w.1 with avail := w.1.avail - 14, granted := w.1.granted + 1 }, modPod p (fun d => { grantWake d with powerWait := true }) s)
    else
      ({ w.1 with refused := w.1.refused + 1 }, modPod p refuseWake s)
  else w

/-- The Pane level of the walk: the highest level up to the request that fits, never below the floor. -/
def walkLevel (s : State) (avail : Int) : Nat :=
  let floor := devVal s 0x2011 0
  let fits (n : Nat) : Bool := decide ((paneCharge n : Int) ≤ avail + paneCharge floor)
  max floor ((((List.range (devVal s 0x2401 0 + 1)).reverse).find? fits).getD 0)

/-- One evaluation (R117, R119, R124): the Strip's request first (R121), reductions, wakes, the Pane level, the records. A Pod restart
among the triggers is the one that the record names (R123). DESIGN CHOICE (log 20): 'with dimming' is a level below the one in force
before the evaluation. -/
def evaluate (s : State) : State :=
  let restart := s.power.triggers.find? (·.code == 8)
  let t := restart.getD (s.power.triggers.headD ⟨0, 255, s.time.stamp⟩)
  let strip := s.power.triggers.any (·.code == 5) && devVal s 0x2480 0 == 1 && !s.panel.wantLit
  let grantStrip := strip && stripMay s && stripFits s
  let s0 : State := { s with
    power := { s.power with triggers := [], decisions := wrap32 (s.power.decisions + 1) },
    panel := { s.panel with wantLit := s.panel.wantLit || grantStrip } }
  let running := (podList.filter (fun p => walkRuns (podAt s0 p))).length
  let start : Walk := ⟨(managedBudget s0 : Int) - floorCharge s0 - 8 * (running : Int), 0, 0, 0, 0⟩
  let (w, s1) := (byRank s0).foldl walkPod (start, s0)
  let overrun := decide (start.avail < 0)
  let level := if paneEffective s1 = 2 then walkLevel s1 w.avail else 0
  let dimmed := decide (level < s.power.paneLevel)
  let refused := w.refused + b2n (strip && !stripFits s)
  let outcome := if overrun && t.code == 8 then 6 else if 0 < refused then 4 else if 0 < w.leaned then 3
    else if 0 < w.restored ∧ w.granted = 0 then 5 else if dimmed then 2 else 1
  let changed := decide (0 < refused + w.leaned + w.restored + w.granted) || level != s.power.paneLevel || (overrun && t.code == 8)
  let s2 : State := { s1 with power := { s1.power with paneLevel := level } }
  let s3 := if changed then
      logAdd 9 0xFF (t.code + 256 * outcome) [w.leaned, w.refused, level]
        { s2 with power := { s2.power with decision := ⟨t.stamp, t.code, t.pod, outcome, w.leaned, w.refused, level⟩ } }
    else s2
  let s4 := traceAdd 8 t.stamp [t.code, if changed then outcome else 0, t.pod, w.leaned, w.refused, level] s3
  let s5 := if outcome = 3 ∨ outcome = 4 ∨ outcome = 6 then hubCount 9 s4 else s4
  releaseWakes (if overrun && t.code == 8 then raise .pwr 0 7 0 s5 else s5)

/-- The governor acts in ACTIVE and from B7 of a BOOT (R529). -/
def governorActs (s : State) : Bool := s.chip.state == .active || (s.chip.state == .boot && booted s 7)

/-- RESTORE_HOLD_EXPIRY (R117, R122): a trigger for a Pod in LEAN whose hold has run. -/
def execRestoreHoldExpiry (p : Fin 64) (s : State) : Host.Outcome State Fault Refusal :=
  let d := podAt s p.val
  .next (if d.mode = .lean ∧ holdRun s d ∧ governorActs s then trigger 7 p.val s else s)

/-! ### Causes that clear (R504) -/

/-- Whether the state lets a cause of R507 have gone: a source that failed has qualified anew (R142, R143), the CORE PLL and PHYTX
run, the trunk is 0.5 V above the pre-warning level or below 32.5 V (R127), the charges fit the class (R123), enough slots live
(R479). What the state does not show, the environment says (log 46). -/
def causeMayClear (c : FaultClass) (source : Nat) (s : State) : Bool :=
  let works (k : Nat) : Bool := (oscAt s k).code != .failed
  match c with
  | .clk =>
    if source = 1 then works 0 else if source = 2 then works 1 else if source = 3 then works 2 else if source = 4 then works 3
    else if source = 8 then works 5 else if source = 6 then s.clocks.corePll else if source = 9 then works 0 && works 2 else true
  | .pwr =>
    if source = 2 then decide (devVal s 0x2005 0 + 500 ≤ s.power.trunk) else if source = 3 then decide (s.power.trunk < 32500)
    else if source = 7 then decide (totalCharge s ≤ classLimit s) else true
  | .shell => if source = 3 then decide (3 ≤ liveSlots s) else if source = 6 then decide (1 ≤ liveSlots s) else true
  | .link => source != 1 || s.clocks.phytx
  | _ => true

/-- A rail is back in range (R111); the cause of source 4 has gone when every rail that is on is. -/
def railReturns (k : Nat) (s : State) : State :=
  let s1 : State := { s with power := { s.power with rails := setBit s.power.rails k } }
  displayWatch (if (List.range 7).all (fun j => !railOn s1 j || bit s1.power.rails j) then clearCause .pwr 0 4 s1 else s1)

/-- CAUSE_CLEARED (R504). Of PWR source 4 the operand `p` names the rail that is back in range, of source 8 the rail is VB3 (log 46). -/
def execCauseCleared (c : FaultClass) (p : Fin 64) (source : Nat) (s : State) : Host.Outcome State Fault Refusal :=
  .next (if c = .pwr ∧ source = 4 then (if p.val < 7 then railReturns p.val s else s)
    else if c = .pwr ∧ source = 8 then clearCause .pwr 0 8 (railReturns 2 s)
    else if causeMayClear c source s then clearCause c p.val source s
    else s)

end Sys2Proof.Machine
end

