-- ==== Sys2Proof/Machine/Clocks.lean ====
section
/-! DEFINITION. Oscillators, muxes, the SPINE PLL, monitors and rescues, STAMP and its steps (R139-R186), and the
meanings of the clock commands. -/

namespace Sys2Proof.Machine

/-! ### Sources (R139-R143) -/

/-- Rate in Hz and accuracy in ppm of a hub source (R139): LFXO's accuracy is its crystal's, so that only its monitor bounds it (R161). -/
def sourceRate (k : Nat) : Nat × Nat :=
  [(32768, 160000), (32768, 15000), (25000000, 50), (24000000, 10000), (2000000, 30000), (1000000, 50000)].getD k (0, 0)

/-- The cycles that a clock makes at most in some ticks: its rate in Hz, and how far it may be fast, in ppm. -/
def mostCycles (hz ppm : Nat) (t : Tick) : Nat := hz * (1000000 + ppm) * t / (65536000 * 1000000) + 1

/-- The qualification counts of R141. -/
def qualCount (k : Nat) : Nat := [16384, 64, 65536, 1024, 256, 64].getD k 0

/-- A source's driver stops: OFF, but a FAILED source keeps its state until it qualifies anew (R142). -/
def stopOsc (k : Nat) (s : State) : State := setOsc k ⟨if (oscAt s k).code = .failed then .failed else .off, 0, false, 0, false⟩ 0 s

/-- A chip reset starts a source anew, unless it is qualified (R215). -/
def restartOsc (k : Nat) (s : State) : State :=
  if qualified s k then s
  else setOsc k ⟨if (oscAt s k).code = .failed then .failed else .qualifying, 0, false, s.time.elapsed, true⟩ 0 s

def failOsc (k cause : Nat) (s : State) : State :=
  setOsc k { oscAt s k with code := .failed, count := 0, oscillating := false } cause s

/-- A CLK occurrence is open, or held before B4. -/
def clkOccurs (s : State) : Bool := !(instAt s 0).occs.isEmpty || s.guard.held.any (fun h => h.cls == .clk)

/-- What has failed, and which mux has been rescued, since the CLK occurrence (R523). -/
def noteFailed (k : Nat) (s : State) : State :=
  if clkOccurs s then { s with clocks := { s.clocks with failedSince := k :: s.clocks.failedSince } } else s

def noteRescued (k : Nat) (s : State) : State :=
  if clkOccurs s then { s with clocks := { s.clocks with rescuedSince := k :: s.clocks.rescuedSince } } else s

/-- A mux that a CLK containment holds on its present source (R523). -/
def pinned (k : Nat) (s : State) : Bool := contained s 0 && s.clocks.rescuedSince.contains k

/-! ### Time gaps and steps (R180, R181, R184) -/

def timeGap (kind : Nat) (before after : Tick) (uncertainty : Nat) (s : State) : State :=
  logAdd 7 0xFF kind (beOctets 8 after ++ beOctets 4 uncertainty)
    { s with time := { s.time with gapCount := wrap32 (s.time.gapCount + 1), lastGap := ⟨kind, before, after, uncertainty⟩ } }

def moveTick (o : Int) (t : Tick) : Tick := ((t : Int) + o).toNat

/-- The instants that a sampling Pod works with follow a step of STAMP, so that its intervals keep their lengths (log 21). -/
def shiftPod (o : Int) (d : Pod) : Pod :=
  let f := moveTick o
  let m := d.meter
  let cross (c : Crossing) : Crossing := { c with stamp := f c.stamp }
  let iv (x : Interval) : Interval := { x with start := f x.start, stop := f x.stop, rising := x.rising.map f, cycleFrom := f x.cycleFrom }
  let sample (x : Sample) : Sample := { x with stamp := f x.stamp }
  { d with
    marker := f d.marker, startAt := f d.startAt, periodStart := f d.periodStart,
    chans := d.chans.map (fun ch => { ch with fine := { ch.fine with stamp := f ch.fine.stamp }, pip := { ch.pip with stamp := f ch.pip.stamp } }),
    meter := { m with
      fine := m.fine.map (·.map sample), pip := m.pip.map (·.map sample), resp := m.resp.map (·.map sample),
      fund := m.fund.map (·.map (fun x => { x with stamp := f x.stamp })),
      bridges := m.bridges.map (fun g => { g with start := f g.start, stop := f g.stop }),
      spans := m.spans.map (fun g => { g with start := f g.start, stop := g.stop.map f }), bridgeFrom := m.bridgeFrom.map (·.map f),
      coarseUntil := f m.coarseUntil, nominal := m.nominal.map (fun x => (f x.1, x.2)),
      notes := m.notes.map (fun n => { n with stamp := f n.stamp }), crossings := m.crossings.map (·.map cross),
      timedFrom := f m.timedFrom, formed := f m.formed, boundary := f m.boundary, halfQueue := m.halfQueue.map iv,
      winStart := f m.winStart, winRising := m.winRising.map f, winQueue := m.winQueue.map iv,
      booked := m.booked.map (fun b => (f b.1, b.2)), missingFrom := m.missingFrom.map (·.map f) },
    harm := { d.harm with
      start := f d.harm.start, due := d.harm.due.map (fun w => { w with start := f w.start, stop := f w.stop, rises := w.rises.map f }),
      phasorDue := [] },
    events := { d.events with
      refreshAt := f d.events.refreshAt, gridAnchor := f d.events.gridAnchor, idleFrom := d.events.idleFrom.map f, active := d.events.active.map (fun a => { a with onset := f a.onset }),
      blocks := d.events.blocks.map (fun b => (b.1, b.2.1, f b.2.2)) },
    doze := { d.doze with lastTransfer := f d.doze.lastTransfer } }

/-- Pending energy gaps resolve at a step: corrected ends, bounds, or unbounded where the length is negative (R489). -/
def resolveGaps (o : Int) (s : State) : State :=
  let gs := s.shell.gaps
  gs.foldl (fun s g =>
    let stop := (g.stop : Int) + o
    let bound := if stop < g.start then none
      else some ((roundTies (g.power * ((stop - g.start).toNat) : Nat) (65536000 * 3600)).toNat)
    closeGap g.pod g.cause g.start stop.toNat bound g.dormant true s) { s with shell := { s.shell with gaps := [] } }

/-- STAMP steps by an offset (R180). DESIGN CHOICE (log 48): the gap record of a step holds an uncertainty of 0, since R181 gives none. -/
def stepStamp (o : Int) (s : State) : State :=
  let before := s.time.stamp
  let after := moveTick o before
  let s1 : State := hubCount 10 { s with time := { s.time with stamp := after }, pods := s.pods.map (fun d => if sampling d.mode then shiftPod o d else d) }
  resolveGaps o (raise .time 0 1 0 (timeGap 1 before after 0 s1))

/-! ### The SPINE PLL (R144-R151) -/

def nominalFrac (hfrc : Bool) : Nat := if hfrc then 1649267442 else 3129484971

def fracRange (hfrc : Bool) : Int := if hfrc then 1407374884 else 6755399

/-- F within its discipline range (R144). -/
def clampFrac (hfrc : Bool) (f : Int) : Nat := (clampInt (nominalFrac hfrc - fracRange hfrc) (nominalFrac hfrc + fracRange hfrc) f).toNat

/-- The VCO frequency over the reference, in 2^-32: what one part of F is a part of. -/
def vcoRatio (s : State) : Int := (if s.clocks.spineHfrc then 16 else 15) * 4294967296 + s.clocks.frac

def moveFrac (steps : Int) (s : State) : State :=
  { s with clocks := { s.clocks with frac := clampFrac s.clocks.spineHfrc (s.clocks.frac + steps), disciplined := true } }

/-- SPINE stops: STAMP is on HUSK, PULSE pauses (R145, R449); a freeze of HUSK in progress counts from here on (R165). -/
def spineUnlock (s : State) : State :=
  let s1 := syncPulses s
  { s1 with
    clocks := { s1.clocks with spineLocked := false, relock := some (s1.clocks.relock.getD s1.time.stamp) },
    time := { s1.time with huskTicks := 0, frozenAt := s1.time.elapsed } }

/-- The PLL starts on a reference (R147, R189). -/
def spineStart (hfrc : Bool) (s : State) : State :=
  let s1 := if s.clocks.spineLocked then spineUnlock s else s
  let f := if hfrc then clampFrac true (nominalFrac true + s1.clocks.hfrcOffset) else nominalFrac false
  { s1 with clocks := { s1.clocks with
      spineOn := true, spineHfrc := hfrc, frac := if s1.clocks.spineOn && s1.clocks.spineHfrc == hfrc then s1.clocks.frac else f,
      slew := if s1.clocks.spineHfrc == hfrc then s1.clocks.slew else 0 } }

/-- The PLL locks: fine STAMP resumes; a relock in ACTIVE records a gap of kind 3 (R184). What a freeze of HUSK has cost so far is
added at its end (R165). -/
def spineLock (s : State) : State :=
  let s1 := syncPulses s
  let lost := if s1.time.huskFrozen && !s1.clocks.spineLocked then s1.time.elapsed - s1.time.frozenAt else 0
  let s2 : State := { s1 with
    clocks := { s1.clocks with spineLocked := true, relock := none }, time := { s1.time with frozenLost := s1.time.frozenLost + lost } }
  match s.clocks.relock with
  | some t => if s.chip.state = .active then timeGap 3 t s2.time.stamp 31 s2 else s2
  | none => s2

/-- The slew in force is taken out of F. -/
def removeSlew (s : State) : State :=
  { s with clocks := { s.clocks with frac := clampFrac s.clocks.spineHfrc (s.clocks.frac - s.clocks.slew), slew := 0 } }

/-- An accepted TIME frame (R151): a step, or a slew over the mean interval between frames with an eighth of it kept in F. DESIGN
CHOICE (log 48): the mean is over the intervals since the first frame of this BOOT; the slew taken out later is the one that F
took in, which ends at its range. The spec states no rounding of slew / 8 and of the 20 ppm limit; both round down (log 48). -/
def acceptTime (offset : Int) (s : State) : State :=
  let t := s.time
  let first := !t.stepped
  let start := if first then t.elapsed else t.firstAccepted
  let n := if first then 0 else t.intervals + 1
  let s1 : State := { s with time := { t with
      lastTime := some t.elapsed, lastAccepted := t.elapsed, firstAccepted := start, intervals := n, stepped := true, lastOffset := offset } }
  if first || decide (devVal s 0x2504 0 ≤ offset.natAbs) then stepStamp offset s1
  else
    let s2 := removeSlew s1
    let span : Nat := t.elapsed - start
    let full := if span = 0 then 0 else roundOpen (offset * vcoRatio s2 * n) span
    let lim := roundOpen (vcoRatio s2 * 20) 1000000
    let slew := clampInt (-lim) lim full
    let s3 := moveFrac (roundOpen slew 8) s2
    let frac := clampFrac s3.clocks.spineHfrc (s3.clocks.frac + slew)
    { s3 with clocks := { s3.clocks with frac := frac, slew := (frac : Int) - s3.clocks.frac } }

/-! ### Muxes (R152-R167) -/

/-- The oscillator behind a hub mux's side: HUSK LFXO or LFRC, CORE HFXO (its PLL) or HFRC, the SPINE reference alike. -/
def muxOsc (k : Nat) (alternate : Bool) : Nat :=
  if k = 0 then (if alternate then 1 else 0) else (if alternate then 3 else 2)

/-- AMPIX and STRIP follow CORE (R152); TRACE leaves OFF with the CORE PLL, and its port starts anew (R684, log 25). -/
def followCore (k cause : Nat) (s : State) : State :=
  if k = 1 then
    let c := (muxAt s 1).code
    let s1 := setMux 3 { muxAt s 3 with code := c } cause (setMux 4 { muxAt s 4 with code := c } cause s)
    if c = .primary then
      let s2 : State := { s1 with obs := { s1.obs with syncDue := true } }
      if (muxAt s2 5).code = .off then setMux 5 { muxAt s2 5 with code := .primary } cause s2 else s2
    else s1
  else s

def putMux (k : Nat) (m : Mux) (cause : Nat) (s : State) : State := followCore k cause (setMux k m cause s)

/-- A software switch that a rescue ends, or that completes, sets its completion (R158). -/
def endClkCommand (byCommand : Bool) (completion : Nat) (s : State) : State :=
  if byCommand then { s with clocks := { s.clocks with command := setCompletion s.clocks.command completion } } else s

/-- Dozing Pods note that HUSK froze (R426). -/
def noteHuskFreeze (s : State) : State :=
  { s with pods := s.pods.map (fun d => if sentinelCounts d then { d with doze := { d.doze with flags := setBit d.doze.flags 2 } } else d) }

/-- Guard holds HUSK low and counts the freeze (R162, R165). -/
def huskFreeze (s : State) : State :=
  if s.time.huskFrozen then s
  else noteHuskFreeze { s with time := { s.time with huskFrozen := true, frozenAt := s.time.elapsed, frozenLost := 0 } }

/-- A rescue of a hub mux (R162, R163): forced low, RESCUE-RELEASE or RESCUE-WAIT, the fallback started, but LFXO only while it
is enabled (R140); HUSK's freeze begins. -/
def rescueMux (k : Nat) (toAlternate : Bool) (s : State) : State :=
  let m := muxAt s k
  let src := muxOsc k toAlternate
  let ready := qualified s src
  let s1 := if ready ∨ (src = 0 ∧ devVal s 0x2115 0 ≠ 1) then s else startOsc src s
  let s2 := putMux k { m with
      code := if ready then .rescueRelease else .rescueWait, toAlternate := toAlternate, waitAt := s.time.elapsed, byCommand := false,
      rescues := wrap32 (m.rescues + 1) } 3 s1
  let s3 := endClkCommand (m.code == .switching && m.byCommand) 4 s2
  let s4 := hubCount 8 (noteRescued k s3)
  if k = 0 then huskFreeze s4
  else if k = 2 then (if s4.clocks.spineLocked then spineUnlock s4 else s4)
  else s4

/-- HUSK runs again: the part of the freeze in which it should have kept STAMP is added as Guard counted it, with its gap (R165). -/
def huskThaw (s : State) : State :=
  if !s.time.huskFrozen then s
  else
    let n := s.time.frozenLost + (if s.clocks.spineLocked then 0 else s.time.elapsed - s.time.frozenAt)
    let s1 : State := { s with time := { s.time with huskFrozen := false, frozenLost := 0 } }
    if n = 0 then s1
    else
      let cycles := n * 1000 / 32768
      let before := s1.time.stamp
      let after := before + (roundOpen (cycles * 32768 : Nat) 1000).toNat
      raise .time 0 2 0 (timeGap 2 before after (microsOf n * 3 / 100) { s1 with time := { s1.time with stamp := after } })

/-- A mux comes to rest on a side. -/
def settleMux (k : Nat) (alternate : Bool) (cause : Nat) (s : State) : State :=
  let s1 := putMux k { muxAt s k with code := if alternate then .alternate else .primary, byCommand := false } cause s
  if k = 0 then huskThaw s1
  else if k = 1 then { s1 with clocks := { s1.clocks with corePll := if alternate then s1.clocks.corePll else true } }
  else if k = 2 then spineStart alternate s1
  else s1

/-- A fallback that RESCUE-WAIT waits for has qualified (R162). -/
def waitQualified (src : Nat) (s : State) : State :=
  [0, 1, 2].foldl (fun s k =>
    let m := muxAt s k
    if m.code = .rescueWait ∧ muxOsc k m.toAlternate = src then putMux k { m with code := .rescueRelease } 3 s else s) s

/-- A switch or return starts (R155). -/
def beginSwitch (k : Nat) (toAlternate byCommand : Bool) (cause : Nat) (s : State) : State :=
  let m := muxAt s k
  putMux k { m with code := .switching, toAlternate := toAlternate, fromAlternate := m.code == .alternate, byCommand := byCommand } cause s

/-- PHYTX stops or runs with HFXO (R598). -/
def phytxSet (on : Bool) (s : State) : State :=
  let s1 : State := { s with clocks := { s.clocks with phytx := on } }
  if on then linkCause 1 false s1 else linkCause 1 true (raise .link 0 1 0 s1)

/-! ### Monitors (R160) -/

/-- The expected count of a monitor's gate, in tenths. -/
def expectedTenths (m : Monitor) : Nat :=
  match m with
  | .lfxo | .lfrc => 9766 | .hfxo => 8000 | .hfrc => 7680 | .spine => 15729 | .corePll => 16000 | .heartbeat => 0 | .holdRc => 320
  | .pod _ => 1311

/-- A count outside 12.5 % of the expected one. -/
def outsideGate (expected count : Nat) : Bool := decide (80 * count < 7 * expected ∨ 9 * expected < 80 * count)

/-- A monitor trips on two gates in a row outside the window, or on a stall; the heartbeat on a stall alone. -/
def trips (m : Monitor) (e : Evidence) : Bool :=
  match e with
  | .stall => true
  | .gates a b => decide (0 < expectedTenths m) && outsideGate (expectedTenths m) a && outsideGate (expectedTenths m) b

def lastGate (e : Evidence) : Nat := match e with | .gates _ b => b | .stall => 0

/-- A mux on the failed source, or about to be released on it, is rescued to the other side; so is one that hangs in a switch
(R159, R160, R162). -/
def rescueOff (k : Nat) (failedAlternate : Bool) (s : State) : State :=
  let m := muxAt s k
  let on (alt : Bool) : Bool := if alt then m.code == .alternate else m.code == .primary
  if on failedAlternate || (m.code == .rescueRelease && m.toAlternate == failedAlternate) then rescueMux k (!failedAlternate) s
  else if m.code = .switching then
    rescueMux k (if m.toAlternate == failedAlternate then !failedAlternate else m.toAlternate) s
  else s

/-- A mux that hangs in a switch is rescued to the other side of the one that failed (R159). -/
def rescueHung (k : Nat) (failedAlternate : Bool) (s : State) : State :=
  if (muxAt s k).code = .switching then rescueOff k failedAlternate s else s

/-- LFRC is in use: HUSK runs on it, or switches from it or to it (R160). -/
def lfrcUsed (s : State) : Bool :=
  let m := muxAt s 0
  m.code == .alternate || m.code == .switching || (m.code == .rescueRelease && m.toAlternate)

/-- The cycles that qualify a Pod RC (R141). A Pod's RC has counted them when the Pod converts or is reached over its lane (R27,
R168, R422). -/
def podRcCount : Nat := 512

/-- Completion of a command of a given code that is in progress. -/
def completeIf (p code completion : Nat) (s : State) : State :=
  let w := (podAt s p).command
  if w % 65536 = code ∧ w / 16777216 = 1 then podComplete p completion s else s

/-- A POD monitor trips (R168, R169, R677): both faults, the mux to the Pod's RC, a switch that hung at an end, the frame in progress
stretched. -/
def podMonitorTrip (p : Nat) (e : Evidence) (s : State) : State :=
  let d := podAt s p
  if d.mux = .primary ∨ d.mux = .switching then
    let f := d.faults
    let g := lastGate e
    let s1 := modPod p (fun d => { d with
      faults := { f with monLast := g, monLow := if f.monLow = 0 then g else min f.monLow g, monHigh := max f.monHigh g, monStamp := s.time.stamp },
      rescuedFrame := true, rcCount := podRcCount, periodFrames := 0, counters := bump d.counters 19 }) s
    let s2 := setPodMux p .rescueRelease 3 s1
    let s3 := raisePod p 4 g (raise .clk 0 10 g s2)
    let s4 := if d.mux = .switching then completeIf p (if d.muxToRc then 0x20 else 0x21) 4 s3 else s3
    hubCount 8 (noteRescued (16 + p) s4)
  else s

/-- CORE loses its PLL, or its heartbeat; on HFRC there is no further fallback (R164). -/
def coreLoss (source detail : Nat) (s : State) : State :=
  let m := muxAt s 1
  if source = 7 ∧ m.code = .alternate then raise .clk 0 11 detail s
  else
    let s1 := rescueOff 1 false (raise .clk 0 source detail s)
    { s1 with clocks := { s1.clocks with corePll := if source = 6 then false else s1.clocks.corePll } }

def monitorTrip (m : Monitor) (e : Evidence) (s : State) : State :=
  let g := lastGate e
  let osc (k src : Nat) (then_ : State → State) : State :=
    if qualified s k then then_ (noteFailed k (raise .clk 0 src g (failOsc k 5 s))) else s
  match m with
  | .lfxo => osc 0 1 (rescueOff 0 false)
  | .lfrc => if lfrcUsed s then osc 1 2 (rescueOff 0 true) else s
  | .hfxo => osc 2 3 (fun s =>
      let s1 := rescueOff 2 false (rescueOff 1 false s)
      let s2 : State := { s1 with clocks := { s1.clocks with corePll := false } }
      if s2.clocks.phytx then phytxSet false s2 else s2)
  | .hfrc => osc 3 4 (fun s => rescueHung 2 true (rescueHung 1 true s))
  | .holdRc => osc 5 8 id
  | .spine => if s.clocks.spineLocked then spineUnlock s else s
  | .corePll => if s.clocks.corePll then coreLoss 6 g s else s
  | .heartbeat => if booted s 5 ∧ s.chip.state ≠ .unpowered ∧ s.chip.state ≠ .standby then coreLoss 7 g s else s
  | .pod p => podMonitorTrip p.val e s

/-! ### Commands of the clock tree -/

/-- OSCILLATION_DETECTED (R141): the count of a source whose driver is on starts from zero. -/
def execOscillationDetected (src : Fin 6) (s : State) : Host.Outcome State Fault Refusal :=
  let o := oscAt s src.val
  .next (if !o.driven || o.oscillating then s
    else { s with clocks := { s.clocks with oscs := putAt s.clocks.oscs src.val { o with oscillating := true, count := 0 } } })

/-- OSCILLATION_LOST (R141): the count restarts from zero. A QUALIFIED source keeps its state until its monitor trips (R142, log 48). -/
def execOscillationLost (src : Fin 6) (s : State) : Host.Outcome State Fault Refusal :=
  let o := oscAt s src.val
  .next (if !o.oscillating then s
    else { s with clocks := { s.clocks with oscs := putAt s.clocks.oscs src.val { o with oscillating := false, count := 0 } } })

/-- What follows a source's qualification: HUSK's first source, HUSK to LFXO but not in HOLD (R174), a rescue that waited, PHYTX (R140,
R162, R598). -/
def afterQualified (src : Nat) (wasFailed : Bool) (s : State) : State :=
  let s1 := waitQualified src s
  let husk := muxAt s1 0
  if src = 0 then
    if husk.code = .off then settleMux 0 false 4 s1
    else if husk.code = .alternate ∧ !wasFailed ∧ s1.chip.state ≠ .hold then beginSwitch 0 false false 2 s1 else s1
  else if src = 1 then (if husk.code = .off then settleMux 0 true 4 s1 else s1)
  else if src = 2 then (if booted s1 6 then phytxSet true s1 else s1)
  else s1

/-- STARTUP_LIMIT_MISSED (R143, R189): HFXO and LFXO; in BOOT the SPINE PLL then starts on HFRC. -/
def execStartupLimitMissed (src : Fin 6) (s : State) : Host.Outcome State Fault Refusal :=
  .next (if (src.val = 0 ∨ src.val = 2) ∧ (oscAt s src.val).code = .qualifying then
    let s1 := noteFailed src.val (raise .clk 0 9 0 (failOsc src.val 0 s))
    if src.val = 2 ∧ (s1.chip.state = .boot ∨ s1.chip.state = .safe) ∧ booted s1 5 ∧ !s1.clocks.spineOn then settleMux 2 true 0 s1 else s1
    else s)

/-- SPINE_PLL_LOCK (R145). -/
def execSpinePllLock (s : State) : Host.Outcome State Fault Refusal :=
  .next (if s.clocks.spineOn && !s.clocks.spineLocked && qualified s (if s.clocks.spineHfrc then 3 else 2) &&
      ((muxAt s 2).code == .primary || (muxAt s 2).code == .alternate) then spineLock s else s)

/-- SPINE_LOCK_LOSS (R145). -/
def execSpineLockLoss (s : State) : Host.Outcome State Fault Refusal := .next (if s.clocks.spineLocked then spineUnlock s else s)

/-- SPINE_RELOCK_TIMEOUT (R145): the reference is rescued to the other source. -/
def execSpineRelockTimeout (s : State) : Host.Outcome State Fault Refusal :=
  .next (if s.clocks.relock.isSome && !s.clocks.spineLocked && ((muxAt s 2).code == .primary || (muxAt s 2).code == .alternate) then
    rescueMux 2 ((muxAt s 2).code == .primary) (raise .clk 0 5 0 s) else s)

/-- MONITOR_TRIP (R160): on evidence that trips the monitor. -/
def execMonitorTrip (m : Monitor) (e : Evidence) (s : State) : Host.Outcome State Fault Refusal :=
  .next (if s.chip.state ≠ .unpowered ∧ trips m e then monitorTrip m e s else s)

/-- A rescued mux leaves RESCUE-RELEASE (R162, R168). -/
def rescueReleased (mux : MuxName) (s : State) : State :=
  match mux with
  | .pod p => if (podAt s p.val).mux = .rescueRelease then setPodMux p.val .alternate 3 s else s
  | _ => match muxNumber mux with
    | some k => if (muxAt s k).code = .rescueRelease ∧ k ≤ 2 then settleMux k (muxAt s k).toAlternate 3 s else s
    | none => s

/-- RESCUE_WAIT_TIMEOUT (R163, R190): L4, before B4 as well as after. -/
def execRescueWaitTimeout (mux : MuxName) (s : State) : Host.Outcome State Fault Refusal :=
  .next (match muxNumber mux with
    | some k => if (muxAt s k).code = .rescueWait then raiseAt .clk 0 11 (s.time.elapsed - (muxAt s k).waitAt) s.time.elapsed false true s else s
    | none => s)

/-- The state of the side that a software switch asks for. -/
def switchTargetReady (k : Nat) (alternate : Bool) (s : State) : Bool :=
  if k = 5 then alternate || s.clocks.corePll
  else if k = 1 ∧ alternate = false then qualified s 2
  else qualified s (muxOsc k alternate)

/-- `Clk.Command` (R156, R158): its status and the state after. An accepted switch waits until its reply has left; a later one of the
same mux takes its place. -/
def clkCommand (code arg : Nat) (s : State) : Nat × State :=
  let put (completion : Nat) (s : State) : State := { s with clocks := { s.clocks with command := commandWord code arg completion } }
  let k := if code = 1 then 0 else if code = 2 then 1 else if code = 3 then 2 else 5
  if code < 1 ∨ 4 < code ∨ 1 < arg then (stBadValue, s)
  else
    let m := muxAt s k
    let alt := arg == 1
    let busy := m.code == .switching || m.code == .rescueWait || m.code == .rescueRelease
    let present := if alt then m.code == .alternate else m.code == .primary
    let held := pinned k s || (contained s 0 && k != 5 && s.clocks.failedSince.contains (muxOsc k alt))
    if busy || present || m.code == .off || held || !switchTargetReady k alt s then (stWrongState, put 3 s)
    else
      let name : MuxName := if k = 0 then .husk else if k = 1 then .core else if k = 2 then .spineRef else .trace
      (stOk, put 1 { s with clocks := { s.clocks with waiting := s.clocks.waiting.filter (fun w => w.1 != name) ++ [(name, alt)] } })

/-- The reply to an accepted switch has left: no reply waits, and no item executes (R158). -/
def repliesLeft (s : State) : Bool := s.engine.running.isNone && !s.link.queue.any (·.cls == 3)

/-- SWITCH_START (R158): after the reply has left, for CORE and TRACE 50 us after it; not in HOLD (R174). A mux that a rescue or a
return has taken meanwhile does not switch, and the command completes as failed (log 48). -/
def execSwitchStart (mux : MuxName) (s : State) : Host.Outcome State Fault Refusal :=
  .next (match s.clocks.waiting.find? (fun w => w.1 == mux), muxNumber mux with
    | some w, some k =>
      if s.chip.state = .hold ∨ !repliesLeft s then s
      else
        let s1 : State := { s with clocks := { s.clocks with waiting := s.clocks.waiting.erase w } }
        let m := muxAt s1 k
        if m.code = (if w.2 then MuxCode.primary else .alternate) ∧ switchTargetReady k w.2 s1 then beginSwitch k w.2 true 1 s1
        else endClkCommand true 4 s1
    | _, _ => s)

/-- A POD mux comes to rest after a switch (R157, R170). -/
def podSwitched (p : Nat) (s : State) : State :=
  let d := podAt s p
  if d.mux ≠ .switching then s
  else
    let asked := d.command % 65536 == 0x21 && d.command / 16777216 == 1
    if d.muxToRc then completeIf p 0x20 2 (setPodMux p .alternate 1 s)
    else completeIf p 0x21 2 (setPodMux p .primary (if asked then 1 else 2) (modPod p (fun d => { d with framePeriod := 33554432 }) s))

/-- A mux completes its switch (R155). -/
def switchCompletes (mux : MuxName) (s : State) : State :=
  match mux with
  | .pod p => podSwitched p.val s
  | _ => match muxNumber mux with
    | some k =>
      let m := muxAt s k
      if m.code = .switching ∧ (k ≤ 2 ∨ k = 5) then
        let s1 := settleMux k m.toAlternate (if m.byCommand then 1 else 2) s
        let s2 := endClkCommand m.byCommand 2 s1
        if k = 5 then { s2 with obs := { s2.obs with syncDue := true } } else s2
      else s
    | none => s

/-- AUTOMATIC_RETURN (R167): HUSK, CORE, or a Pod at its next frame boundary; not in HOLD, nor under a CLK containment. -/
def execAutomaticReturn (mux : MuxName) (s : State) : Host.Outcome State Fault Refusal :=
  .next (if devVal s 0x2105 0 = 0 ∨ s.chip.state = .hold ∨ s.chip.state = .unpowered ∨ contained s 0 then s
    else match mux with
    | .husk => if (muxAt s 0).code = .alternate ∧ qualified s 0 then beginSwitch 0 false false 2 s else s
    | .core => if (muxAt s 1).code = .alternate ∧ qualified s 2 then beginSwitch 1 false false 2 s else s
    | .pod p =>
      let d := podAt s p.val
      if d.mux = .alternate ∧ s.clocks.spineLocked ∧ !d.rcByCommand then
        modPod p.val (fun d => { d with plan := { d.plan with toSpine := true } }) s else s
    | _ => s)

/-- `Clk.LfxoEnable` takes effect (R140). DESIGN CHOICE (log 48): HUSK on LFXO switches to a qualified LFRC, and where LFRC has to start
first Guard holds HUSK in RESCUE-WAIT until it qualifies, as in a rescue, but no rescue is counted. -/
def lfxoSet (on : Bool) (s : State) : State :=
  if on then startOsc 0 s
  else
    let s1 := startOsc 1 (stopOsc 0 s)
    if (muxAt s1 0).code = .primary ∨ (muxAt s1 0).code = .switching then
      if qualified s1 1 then putMux 0 { muxAt s1 0 with code := .switching, toAlternate := true, byCommand := false } 0 s1
      else huskFreeze (putMux 0 { muxAt s1 0 with code := .rescueWait, toAlternate := true, waitAt := s1.time.elapsed, byCommand := false } 0 s1)
    else s1

/-- LFRC_STOP (R139): one second after LFXO qualified, while HUSK does not use it. -/
def execLfrcStop (s : State) : Host.Outcome State Fault Refusal :=
  .next (if huskOnLfxo s && devVal s 0x2115 0 == 1 then stopOsc 1 s else s)

/-- HFRC_MEASURE (R147): the correction of the nominal HFRC word, in steps of F. -/
def execHfrcMeasure (steps : Int) (s : State) : Host.Outcome State Fault Refusal :=
  .next (if s.clocks.spineLocked && !s.clocks.spineHfrc && qualified s 3 then
    { s with clocks := { s.clocks with hfrcOffset := clampInt (-1407374884) 1407374884 steps } } else s)

/-- BRC_ESTIMATE (R148, R149): the reference error, which F cancels unless TIME frames discipline it. -/
def execBrcEstimate (ppb : Int) (s : State) : Host.Outcome State Fault Refusal :=
  .next (if devVal s 0x2108 0 = 0xFF ∨ !s.clocks.spineLocked ∨ !(s.link.code == .follower || s.link.code == .coordinator) then s
    else
      let s1 : State := { s with clocks := { s.clocks with freqError := ppb, brc := true } }
      if timeFresh s then s1 else moveFrac (-(roundOpen (ppb * vcoRatio s) 1000000000)) s1)

/-- Another node, or none, becomes the frequency source (R149): what was learnt of the earlier one is no estimate of it, and nothing of
BRC is available until a frame of the new one. -/
def sourceNodeSet (node : Nat) (s : State) : State :=
  if node = devVal s 0x2108 0 then s else { s with clocks := { s.clocks with brc := false } }

/-- BRC_PAUSE (R149). -/
def execBrcPause (s : State) : Host.Outcome State Fault Refusal := .next { s with clocks := { s.clocks with brc := false } }

/-- LFXO_DISCIPLINE (R148, R150). -/
def execLfxoDiscipline (steps : Int) (s : State) : Host.Outcome State Fault Refusal :=
  .next (if s.clocks.spineLocked && s.clocks.spineHfrc && huskOnLfxo s && !timeFresh s && !s.clocks.brc then moveFrac steps s else s)

/-- TIME_SLEW_END (R151). -/
def execTimeSlewEnd (s : State) : Host.Outcome State Fault Refusal := .next (removeSlew s)

/-- TIME_FRAME_ABSENCE (R148): no accepted TIME frame for 2 s. -/
def execTimeFrameAbsence (s : State) : Host.Outcome State Fault Refusal :=
  .next (if timeFresh s then s else { s with time := { s.time with lastTime := none } })

/-- FRAME_PERIOD_UPDATE (R170): the mean over 1 024 frames of an RC-timed Pod, its rounding open (log 6). DESIGN CHOICE (log 48): the
object keeps the nominal 33 554 432 until the first such mean. -/
def execFramePeriodUpdate (p : Fin 64) (s : State) : Host.Outcome State Fault Refusal :=
  let d := podAt s p.val
  .next (if rcTimed d && decide (1024 ≤ d.periodFrames) then
    modPod p.val (fun d => { d with
      framePeriod := (roundOpen (((d.marker - d.periodStart) * 65536 : Nat) : Int) d.periodFrames).toNat, periodStart := d.marker, periodFrames := 0 }) s else s)

/-- RC_FRAME_RATE_FAULT (R171): the rate of an RC-timed Pod outside 16 MHz by 12.5 %, or 64 us without a marker. -/
def execRcFrameRateFault (p : Fin 64) (hz silentMicros : Nat) (s : State) : Host.Outcome State Fault Refusal :=
  .next (if rcTimed (podAt s p.val) && (decide (hz < 14000000 ∨ 18000000 < hz) || decide (64 ≤ silentMicros)) then raisePod p.val 5 0 s else s)

end Sys2Proof.Machine
end

