-- ==== Sys2Proof/Machine/Boot.lean ====
section
/-! DEFINITION. BOOT from its entry to the open engine, STANDBY, and the chip resets (05_startup.md, R29, R484-R490). -/

namespace Sys2Proof.Machine

/-! ### Entries to BOOT -/

/-- The sources of B1 start, and those that are qualified are kept (R187, R205). The chip resets but POWER-ON and HOLD-RESTART start
every unqualified one anew, LFXO too where its driver is on (R215). -/
def startSources (s : State) : State :=
  if 3 ≤ s.chip.causeKind then (if (oscAt s 0).driven then [0, 1, 2, 3, 4, 5] else [1, 2, 3, 4, 5]).foldl (fun s k => restartOsc k s) s
  else [1, 2, 3, 4, 5].foldl (fun s k => startOsc k s) s

/-- What counts since BOOT starts again: STOREs, write queue, lost records, the checkpoint timer, panel and probe counts, the
longest lane access, the gate counts of the POD monitors, the lockstep compares (R472, R495, R532, R541, R568, R676, R677). -/
def sinceBoot (s : State) : State :=
  let crack (c : Crack) : Crack := { c with postponed := 0, completed := 0 }
  { s with
    chip := { s.chip with bootAt := s.time.elapsed },
    shell := { s.shell with lastEnd := s.time.elapsed, queuePeak := 0, stores := 0, failures := 0, lostSinceBoot := 0 },
    panel := { s.panel with frames := 0, ticks := 0, limited := 0, stripFrames := 0, pane := crack s.panel.pane, strip := crack s.panel.strip },
    pods := s.pods.map (fun d => { d with faults := { d.faults with monLow := 0, monHigh := 0, laneLongest := 0 } }) }

/-- B0 and B1 (R187, R191, R194): straps sampled, sources started; counts that run since BOOT start again. The command words read
zero after a reset (R65); `Dev.CommitCount` counts on (R62). DESIGN CHOICE (log 48): `Time.LastOffset` reads zero after every chip reset,
as `Time.Quality` reads UNSET. -/
def bootStart (straps : Straps) (s : State) : State :=
  let s1 : State := { s with
    chip := { s.chip with
      state := .boot, phases := [0, 1], fromStandby := false, straps := straps, tstHeld := false, reset := none,
      standbyWanted := false, command := 0, commitResult := 0 },
    guard := { s.guard with command := 0 },
    shell := { s.shell with
      run := none, pending := 0, abortedSlot := none, lastCommandEnd := none, command := 0, logReady := false },
    clocks := { s.clocks with disciplined := false, command := 0, waiting := [], phytx := false, brc := false },
    time := { s.time with stepped := false, lastTime := none, lastOffset := 0, latches := [] },
    panel := { Panel.reset with cache := s.panel.cache, cacheStamp := s.panel.cacheStamp, frp := s.panel.frp } }
  startSources (sinceBoot s1)

/-- What every chip reset clears in the engine and the link (R215): sessions, caches, subscriptions, queues, PLCA state. -/
def clearEngine (s : State) : State :=
  { s with
    engine := { Engine.reset with counters := s.engine.counters, evSeq := s.engine.evSeq, evDropped := s.engine.evDropped, evUnacked := s.engine.evUnacked },
    link := { Link.reset with counters := s.link.counters, causes := s.link.causes, stateStamp := s.time.stamp } }

/-- The history takes the entry of a backstop that acted before this BOOT (R508). -/
def backstopHistory (s : State) : State :=
  match s.guard.backstopEntry with
  | some (t, n) =>
    let seq := wrap32 (s.guard.histSeq + 1)
    { s with guard := { s.guard with
        backstopEntry := none, histSeq := seq, history := (HistEntry.mk t 8 0 4 4 1 0 seq n :: s.guard.history).take 16 } }
  | none => s

/-- The internal reset of a chip reset other than POWER-ON (R215), and BOOT at B0. A switch that hangs ends with it (R159). -/
def internalReset (straps : Straps) (s : State) : State :=
  let s1 := guardCleared (clearEngine (syncPulses s))
  let s2 : State := { s1 with
    dict := { (clearStripData s1).dict with staged := [] },
    chip := { s1.chip with stagedGen := s1.chip.activeGen, powerOff := s1.chip.powerOff && !booted s 2, podsOff := s1.chip.podsOff && !podsHoldEnergy s },
    power := { s1.power with triggers := [], warning := false, onHold := false, hold := none, holdWait := false, paneLevel := 0 },
    obs := { s1.obs with queue := [], syncDue := true },
    clocks := { s1.clocks with muxes := s1.clocks.muxes.zipIdx.map (fun m => if m.2 = 1 ∨ m.2 = 3 ∨ m.2 = 4 ∨ (m.2 = 5 ∧ m.1.code = .switching) then { m.1 with code := .off } else m.1) },
    pods := s1.pods.map (fun d =>
      let d1 := clearedPod d
      { d1 with
        mode := .stopped, mux := .off, rcCount := 0, faults := { d1.faults with isoOpen := false },
        conv := Converters.reset, pulse := { d1.pulse with held := true, driving := false }, command := 0,
        doze := { d1.doze with
          sentinel := if sentinelCounts d then d.doze.sentinel else .off, armingFrom := none,
          tripHeld := sentinelCounts d && d.doze.tripHeld } }) }
  backstopHistory (bootStart straps s2)

/-- The record of a chip reset at its trigger (R207): `Dev.ResetCause` and the CHIP-RESET log record. -/
def resetRecord (kind : ResetKind) (s : State) : State :=
  let cls := if s.chip.state = .safe then (match s.guard.safe with | some x => x.1 | none => 0) else 0
  let stamp := if kind = .powerOn then 0 else s.time.stamp
  logAdd 4 kind.code s.chip.state.code [cls] { (if kind = .powerOn then s else hubCount 11 s) with chip := { s.chip with
    causeKind := kind.code, causeState := s.chip.state.code, causeStamp := stamp, causeClass := cls } }

/-- Both discharges start (R134, R210, R218, R571). -/
def startDischarges (s : State) : State :=
  displayWatch { s with panel := { s.panel with
    displayReset := false, paneDischarge := !s.panel.paneDone, stripDischarge := !s.panel.stripDone, lit := false, wantLit := false } }

/-- The engine and the link stop; what the engine held is discarded. -/
def engineStops (s : State) : State :=
  setLink .off { s with engine := { s.engine with running := none, waiting := none, frames := [], inbox := [], commit := none, afterReply := none, resetsDue := [] } }

/-- The level-four class that led to SAFE was SHELL (R35, R210). -/
def safeFromShell (s : State) : Bool :=
  s.chip.state == .safe && (match s.guard.safe with | some x => x.1 == 3 | none => false)

/-- A PIN, GEZOR or RESTORE reset begins (R210): exits recorded, the reset sequence with its freeze. -/
def beginReset (kind : ResetKind) (s : State) : State :=
  if !(s.chip.state == .boot || s.chip.state == .active || s.chip.state == .safe) || s.chip.reset.isSome then s
  else
    let holds := podsHoldEnergy s
    let skipStore := safeFromShell s || (s.chip.state == .boot && !booted s 2)
    let s1 := engineStops (chipResetExits (resetRecord kind s))
    let s2 := abortStore s1
    let s3 := freezePods s2
    let t : State := runTimers false { s3 with chip := { s3.chip with
      state := .boot, reset := some ⟨kind, s.chip.causeClass, !holds, skipStore⟩, standbyWanted := false } }
    if holds then t else startDischarges (if skipStore then t else
      startStoreOn t.shell.abortedSlot (2 ^ 6) false t.time.elapsed { t with chip := { t.chip with reset := t.chip.reset.map (fun r => { r with storeDone := true }) } })

/-- The rails fall: what is not in the shadow array or the log is lost (R29, R137). -/
def goUnpowered (s : State) : State :=
  let s1 := syncPulses s
  { s1 with
    chip := { s1.chip with state := .unpowered, phases := [], reset := none },
    power := { s1.power with
      phase := .idle, rails := 0, charger := false, onHold := false, warning := false, hold := none, holdWait := false, triggers := [] },
    shell := { s1.shell with run := none, pending := 0, queue := [], drops := 0 },
    clocks := { s1.clocks with oscs := .replicate 6 ⟨.off, 0, false, 0, false⟩, spineOn := false, spineLocked := false, relock := none },
    link := { s1.link with code := .off }, engine := Engine.reset }

/-- The class that the strap's probe current gives (R103, R105): the total with the signature current, in uA. -/
def strapClass (microamps : Nat) : Nat :=
  let t := microamps + 200
  if microamps = 0 then 0x11
  else if 1000 ≤ t ∧ t ≤ 1400 then 1 else if 2900 ≤ t ∧ t ≤ 3600 then 2 else if 4800 ≤ t ∧ t ≤ 5800 then 3 else 0x12

/-- POWER-ON: everything but the shadow array, the log and the seal histories starts anew (R101, R105, R215). -/
def powerOnReset (straps : Straps) (s : State) : State :=
  let z := State.reset
  let cls := strapClass straps.classMicroamps
  let s1 : State := { z with
    time := { z.time with elapsed := s.time.elapsed },
    power := { z.power with
      phase := .released, trunk := s.power.trunk, level := s.power.level, vhold := s.power.vhold, hubTemp := s.power.hubTemp,
      powerTemp := s.power.powerTemp, charger := true, rails := 127, cls := cls },
    chip := { z.chip with powerOff := true, podsOff := true, resetLow := s.chip.resetLow },
    shell := { z.shell with
      slots := s.shell.slots, banks := s.shell.banks, general := s.shell.general, audit := s.shell.audit, gaps := s.shell.gaps,
      counter := s.shell.counter },
    pods := s.pods.map (fun d => { Pod.reset with sealRec := d.sealRec, pulse := { Pulse.reset with held := true } }),
    fresh := s.fresh, pending := s.pending }
  let s2 := bootStart straps (resetRecord .powerOn { s1 with chip := { s1.chip with state := .unpowered } })
  if cls = 0x12 then raise .pwr 0 5 0 s2 else s2

/-! ### RECALL (R484-R486, R195) -/

/-- What has lost its bits in the array no longer matches its check (R466, R481, R482). -/
def damageArray (x : Damage) (s : State) : State :=
  let spoil (b : Bool) (h : List Nat) : List Nat := if b && headerMatches h then spoilHeader h else h
  let slots := s.shell.slots.zipIdx.map (fun e => { e.1 with
    header := spoil (x.headers.contains e.2) e.1.header, imageCheck := if x.images.contains e.2 then none else e.1.imageCheck })
  let banks := s.shell.banks.zipIdx.map (fun b => { b.1 with
    header := spoil (x.banks.contains b.2) b.1.header,
    energy := b.1.energy.zipIdx.map (fun r =>
      if x.records.contains (b.2, r.2) && r.1.valid then { r.1 with check := wrap32 (r.1.check + 1) } else r.1) })
  { s with shell := { s.shell with slots := slots, banks := banks } }

/-- A bank record verifies (R483). -/
def recordVerifies (b : Bank) (p : Nat) : Bool :=
  let r := b.energy.getD p noEnergy
  b.good && bit b.mask p && r.valid && r.seq == b.seq

/-- The energy source of a Pod (R485): 0 none, 1 slot block, 2 bank record; with its STAMP. -/
def energySource (s : State) (slot : Option Nat) (p : Nat) : Nat × EnergyRec × Tick :=
  let fromSlot := match slot with
    | some k => let r := (slotAt s k).energy.getD p noEnergy; if r.valid then (1, r, (slotAt s k).stamp) else (0, noEnergy, 0)
    | none => (0, noEnergy, 0)
  [0, 1].foldl (fun a k =>
    let b := bankAt s k
    let r := b.energy.getD p noEnergy
    if recordVerifies b p && (a.1 == 0 || decide (a.2.1.seq < r.seq)) then (2, r, b.stamp) else a) fromSlot

/-- The mode that a source record holds (R482). -/
def modeOfCode (k : Nat) : PodMode :=
  if k = 1 then .doze else if k = 2 then .waking else if k = 3 then .run else if k = 4 then .lean else if k = 5 then .fault else .stopped

/-- A Pod takes the image's values and its source's energy; the mode that decides its gap, and its ticks, from the record only where it has
not restarted since a power-off (R433, R487). -/
def recallPod (img : Option Image) (p : Nat) (powerOff : Bool) (src : Nat × EnergyRec × Tick) (d : Pod) : Pod :=
  let r := src.2.1
  let gen := match img with | some i => i.gens.getD p 0 | none => 0
  { d with
    gapMode := if powerOff then modeOfCode r.mode else d.gapMode,
    values := (match img with | some i => i.pods.getD p [] | none => []), activeGen := gen, stagedGen := gen, staged := [], latched := none,
    meter := { d.meter with
      regs := r.regs, coarse := r.coarse, lastBooking := r.lastBooking, lastUrms := r.urms },
    doze := { d.doze with
      ack := r.ack, bound := r.bound, transfers := r.transfers,
      untransferred := if powerOff then r.ticks else d.doze.untransferred, carriedTicks := if powerOff then 0 else d.doze.carriedTicks,
      carried := if powerOff then 0 else d.doze.carried, saturated := if powerOff then r.saturated else d.doze.saturated },
    pulse := { d.pulse with acc := r.acc * 1000000, owed := r.owed, spreads := [], residueUnknown := false },
    sealRec := { d.sealRec with code := (match img with | some i => i.seals.getD p .closed | none => .closed) } }

/-- RECALL acts (R484-R486, R195, R196): from a blank ring no Pod takes energy. An image that disables LFXO stops it (R140). -/
def recallRun (x : Damage) (s : State) : State :=
  let s1 := damageArray x s
  let newest := newestOf headerVerifies s1
  let loaded := newestOf slotVerifies s1
  let blank := slotList.all (fun k => !(slotAt s1 k).written)
  let outcome := match loaded with
    | some k => if newest = some k then 1 else 2
    | none => if blank then 4 else 3
  let img := loaded.map (fun k => (slotAt s1 k).image)
  let n := highestSeq s1
  let src (p : Nat) := if blank then (0, noEnergy, 0) else energySource s1 loaded p
  let fromBank := podList.foldl (fun m p => if (src p).1 = 2 then m + 2 ^ p else m) 0
  let bad := ([0, 1].map (fun k => (podList.filter (fun p => (bankAt s1 k).good && bit (bankAt s1 k).mask p && !recordVerifies (bankAt s1 k) p)).length)).foldl (· + ·) 0
  let failed := (slotList.filter (fun k => slotState (slotAt s1 k) == 2)).length
  let off := s1.chip.powerOff
  let podsOff := s1.chip.podsOff
  let stamp0 := match loaded with | some k => (slotAt s1 k).stamp | none => 0
  let s2 : State := { s1 with
    chip := { s1.chip with
      phases := s1.chip.phases ++ [2], activeGen := (match img with | some i => i.devGen | none => 0),
      stagedGen := (match img with | some i => i.devGen | none => 0) },
    dict := ⟨(match img with | some i => i.dev | none => []), [], (match img with | some i => i.keys | none => .replicate 3 none)⟩,
    panel := { s1.panel with buffer := storePutAll blackRow [] (match img with | some i => i.buffer | none => []) },
    pods := s1.pods.zipIdx.map (fun e => recallPod img e.2 podsOff (src e.2) e.1),
    shell := { s1.shell with
      counter := max s1.shell.counter n, blocks := (match loaded with | some k => (slotAt s1 k).energy | none => .replicate 64 noEnergy),
      recallRec := ⟨outcome, loaded.getD 0xFF, (match loaded with | some k => (slotAt s1 k).seq | none => 0), n, failed, fromBank, bad, 0⟩,
      sources := Vector.ofFn (fun p : Fin 64 => ((src p.val).1, (src p.val).2.1.seq, (src p.val).2.2)),
      recalledModes := (match img with | some i => i.modes | none => .replicate 64 .stopped) },
    time := if off then { s1.time with stamp := stamp0 } else s1.time }
  let s3 := if off then timeGap 4 stamp0 stamp0 0xFFFFFFFF s2 else s2
  let s4 := if outcome = 2 ∨ outcome = 3 then raise .shell 0 1 (loaded.getD 0xFF) s3 else s3
  let s5 := if devVal s4 0x2115 0 ≠ 1 ∧ (oscAt s4 0).driven then lfxoSet false s4 else s4
  liveFaults s5

/-- RECALL (R187): B2, after B0 and HFRC's qualification, with `RESET_N` high (R209). -/
def execRecall (x : Damage) (s : State) : Host.Outcome State Fault Refusal :=
  .next (if s.chip.state = .boot ∧ s.chip.reset.isNone ∧ booted s 0 ∧ !booted s 2 ∧ qualified s 3 ∧ !s.chip.resetLow then recallRun x s else s)

/-! ### Log scan (R489, R496) -/

/-- The opening record of a pending gap can still be found. -/
def gapFound (s : State) (g : PendingGap) : Bool :=
  s.shell.general.any (fun e => !e.2.damaged && e.2.kind == 6 && e.2.inst == g.pod && e.2.detail % 256 == g.cause && bit e.2.detail 8)

/-! ### The record of the latest HOLD (R138) -/

/-- The valid general records in the order of their sequence numbers, and after them those that wait in the queue. -/
def logInOrder (s : State) : List LogRec :=
  (s.shell.general.map (·.2)).filter (fun r => !r.damaged) ++ s.shell.queue.zipIdx.map (fun e => { e.1 with seq := s.shell.logSeq + 1 + e.2 })

/-- The record of a kind with the highest sequence number. -/
def newestRecord (ok : LogRec → Bool) (s : State) : Option LogRec :=
  (logInOrder s).foldl (fun a r => if ok r then
    (match a with
     | some x => if x.seq < r.seq then some r else a
     | none => some r) else a) none

/-- The steps and the outcome of the HOLD that a POWER-FAIL record opened. DESIGN CHOICE (log 49): the log and the ring show the freeze by the
warning itself, the snapshot by its SNAPSHOT record, the STORE by the slot of the highest sequence, which it wrote for the power-fail
reason; the discharges by a HOLD that reached its end, whoever ran them. So a snapshot or a STORE of an interrupted reset sequence
does not count here. The reserve was exhausted where the STORE is missing that a HOLD from ACTIVE or STANDBY always starts, or where a slot
stands torn. -/
def holdShown (w : LogRec) (s : State) : HoldRec :=
  let snapshot := (logInOrder s).any (fun r => r.kind == 3 && r.detail == 1 && decide (w.seq < r.seq))
  let stored := match newestOf headerVerifies s with
    | some k => slotVerifies (slotAt s k) && (slotAt s k).reason == 3 && decide (w.stamp ≤ (slotAt s k).stamp)
    | none => false
  let torn := match nextSlot s with
    | some k => slotState (slotAt s k) == 2
    | none => false
  let restarted := (logInOrder s).any (fun r => r.kind == 4 && r.inst == 2 && decide (w.seq < r.seq))
  let exhausted := !restarted && !stored && (torn || w.detail == 1 || w.detail == 2)
  ⟨w.stamp, beValue ((w.payload.drop 2).take 2),
    1 + 2 * b2n snapshot + 4 * b2n stored + (if exhausted then 0 else 24), if restarted then 2 else if exhausted then 3 else 1⟩

/-- B3 rebuilds `Pwr.LastHold` from the log and the ring (R138): from the HOLD-END record of the latest warning, or, at the BOOT that follows
the HOLD, anew with that record (R493). Without a POWER-FAIL record there is no HOLD to show. -/
def rebuildHold (s : State) : State :=
  match newestRecord (fun r => r.kind == 1) s with
  | none => s
  | some w =>
    match newestRecord (fun r => r.kind == 2 && decide (w.seq < r.seq)) s with
    | some e =>
      { s with power := { s.power with lastHold := ⟨w.stamp, beValue (e.payload.take 2), beValue ((e.payload.drop 2).take 2), e.detail⟩ } }
    | none =>
      let h := holdShown w s
      let s1 : State := { s with power := { s.power with lastHold := h } }
      if s.chip.causeKind ≤ 2 then logAdd 2 0xFF h.outcome (beOctets 2 h.mv ++ beOctets 2 h.steps) s1 else s1

/-- LOG_SCAN: B3. -/
def logScanRun (damaged : List Nat) (s : State) : State :=
  let general := s.shell.general.map (fun e => if damaged.contains e.1 then (e.1, { e.2 with damaged := true }) else e)
  let audit := s.shell.audit.zipIdx.map (fun e => if damaged.contains (768 + e.2) then { e.1 with damaged := true } else e.1)
  let best := general.foldl (fun a e => if e.2.damaged then a else
    (match a with
     | some x => if x.2.seq < e.2.seq then some e else a
     | none => some e)) (none : Option (Nat × LogRec))
  let indices (p : Nat) : List Nat := ((audit.zipIdx.filter (fun e => !e.1.damaged && e.1.octets.headD 0 % 64 == p)).map (fun e => 768 + e.2)).reverse.take 8
  let s1 : State := { s with
    chip := { s.chip with phases := s.chip.phases ++ [3] },
    shell := { s.shell with
      general := general, audit := audit, logReady := true,
      nextIndex := (match best with | some e => (e.1 + 1) % 768 | none => 0), logSeq := (match best with | some e => e.2.seq | none => 0) },
    pods := s.pods.zipIdx.map (fun e => { e.1 with sealRec := { e.1.sealRec with audit := indices e.2 } }) }
  let s2 := rebuildHold s1
  if s2.chip.podsOff then
    (s2.shell.gaps.filter (gapFound s2)).foldl (fun s g => closeGap g.pod g.cause g.start g.stop none g.dormant false s)
      { s2 with shell := { s2.shell with gaps := [] } }
  else s2

/-- LOG_SCAN (R187, R496). -/
def execLogScan (damaged : List Nat) (s : State) : Host.Outcome State Fault Refusal :=
  .next (if s.chip.state = .boot ∧ s.chip.reset.isNone ∧ booted s 2 ∧ !booted s 3 then logScanRun damaged s else s)

/-! ### B5 to B8 -/

/-- BOOT's later phases also end in a SAFE that B4 or B5 reached, so that the engine opens there (R520, R529, log 22). -/
def booting (s : State) : Bool :=
  s.chip.reset.isNone && (s.chip.state == .boot || (s.chip.state == .safe && !s.engine.opened))

/-- CORE_RELEASE (R187, R194, R209, R531): B5. Where HFXO has missed its start-up limit, the SPINE PLL starts on HFRC (R189). -/
def execCoreRelease (s : State) : Host.Outcome State Fault Refusal :=
  .next (if booting s && booted s 4 && !booted s 5 && qualified s 3 && !s.chip.resetLow then
    let s1 := putMux 1 { muxAt s 1 with code := .alternate } 4 { s with chip := { s.chip with phases := s.chip.phases ++ [5] } }
    let s2 := if devVal s1 0x2115 0 = 1 then startOsc 0 s1 else s1
    let s3 : State := { s2 with chip := { s2.chip with tstHeld := s2.chip.straps.tstA || s2.chip.straps.tstB } }
    let s4 := if s3.guard.pendingSafe && s3.chip.state == .boot then enterSafe { s3 with guard := { s3.guard with pendingSafe := false } } else s3
    displayWatch (if (oscAt s4 2).code = .failed ∧ !s4.clocks.spineOn then settleMux 2 true 0 s4 else s4)
    else s)

/-- HFXO_PHASE (R187, R189, R577): B6. -/
def execHfxoPhase (s : State) : Host.Outcome State Fault Refusal :=
  .next (if booting s && booted s 5 && !booted s 6 && qualified s 2 && !s.chip.tstHeld then
    let s1 := putMux 1 { muxAt s 1 with code := .primary } 4 { s with chip := { s.chip with phases := s.chip.phases ++ [6] } }
    let s2 := phytxSet true { s1 with clocks := { s1.clocks with corePll := true } }
    let s3 := if s2.clocks.spineOn then s2 else settleMux 2 false 4 s2
    let s4 := linkJoin s3
    displayWatch (if s4.link.causes = 0 then s4 else setLink .listenOnly s4)
    else s)

/-- The energy gap of a Pod at B7: its cause, none where nothing went unbooked (R33, R197, R213, R485, R487). -/
def restartGap (s : State) (p : Nat) : Nat :=
  let before := (podAt s p).gapMode
  let (kind, seq, _) := s.shell.sources.getD p (0, 0, 0)
  let r := s.shell.recallRec
  if kind = 0 then (if r.outcome = 4 then 0 else 7)
  else if seq < r.highest then 6
  else if s.chip.podsOff then (if before = .stopped then 0 else 1)
  else if before = .stopped ∨ before = .fault then 0
  else if s.chip.causeKind = 2 then 2 else 3

def openGap (p cause : Nat) (s : State) : State :=
  let d := podAt s p
  let now := s.time.stamp
  let start := d.meter.lastBooking
  let (kind, seq, _) := s.shell.sources.getD p (0, 0, 0)
  let unset := if kind = 1 then (slotAt s s.shell.recallRec.slot).quality == 0
    else [0, 1].any (fun k => (bankAt s k).good && (bankAt s k).seq == seq && (bankAt s k).quality == 0)
  if cause = 0 then s
  else if cause = 7 then closeGap p 7 0 now none false true s
  else if s.chip.podsOff then
    if unset then closeGap p cause start now none false true s
    else
      let g : PendingGap := ⟨p, cause, start, now, gapPower d, false⟩
      logAdd 6 p (cause + 256) (beOctets 8 now ++ beOctets 8 0) { s with shell := { s.shell with gaps := s.shell.gaps ++ [g] } }
  else if sentinelCounts d && (cause == 2 || cause == 3) then
    closeGap p cause start now (some (dormantBound d (pendingEnergy d) (now - start))) true true s
  else closeGap p cause start now (some (energyOf (gapPower d) (now - start))) false true s

/-- One Pod restarts at B7 (R37, R198, R450, R461, R487, R668). A Pod that Guard has put in POD-FAULT since the reset stays there (R36,
R40). DESIGN CHOICE (log 50): a Pod that restarts in DOZE after a reset other than POWER-ON and whose sentinel is OFF, because the image is an
older one, stays in DOZE with its sentinel OFF; R198 speaks only of a sentinel that is found running. -/
def restartPod (p : Nat) (s : State) : State :=
  let d := podAt s p
  let stored := s.shell.recalledModes.getD p .stopped
  let defaults := s.shell.recallRec.slot == 0xFF
  let (kind, seq, stamp) := s.shell.sources.getD p (0, 0, 0)
  let restart : PodMode :=
    if d.mode = .fault then .fault
    else match stored with
      | .stopped | .fault => .stopped
      | .doze => .doze
      | _ => .waking
  let cause := restartGap s p
  let s0 := openGap p cause s
  let s1 := modPod p (fun d =>
    let d1 := pulseRestart (if kind = 0 then none else some (d.pulse.acc, d.pulse.owed, stamp)) s0.time.stamp d
    let d2 := transferPod s0.time.stamp d1
    { d2 with
      restartStored := if defaults then 0xFF else stored.code, restartState := restart.code, restartStamp := s0.time.stamp,
      restartSource := kind, restartSeq := seq, restartGap := cause, pulse := { d2.pulse with ran := s0.time.elapsed } }) s0
  let s2 : State := cacheAfter p (if cause = 0 then s1 else { s1 with shell := { s1.shell with recallRec := { s1.shell.recallRec with gaps := (s1.shell.recallRec.gaps + 1) % 256 } } })
  let s3 := if stored = .fault then logAdd 0x0B p 0 (beOctets 8 stamp) s2 else s2
  let s4 := match restart with
    | .waking => setMode p .waking 0x0C (modPod p (fun d => { d with wake := some 8, mux := .primary, rcCount := podRcCount }) s3)
    | .doze =>
      let t := setMode p .doze 0x0C s3
      if s.chip.podsOff then
        modPod p (fun d => { d with doze := { d.doze with sentinel := .arming, restart := true, entry := 3, armingFrom := none, tripHeld := false, flags := 0 } }) t
      else if d.doze.sentinel = .tripped ∨ d.doze.sentinel = .pending then trigger 1 p (modPod p (fun d => { d with wake := some 1 }) t)
      else t
    | .fault => s3
    | _ => modPod p (fun d => { d with doze := { d.doze with sentinel := .off } }) s3
  if (podAt s4 p).sealRec.code = .opened ∨ (podAt s4 p).sealRec.code = .closing then
    closeSeal p 4 0 false (modPod p (fun d => { d with sealRec := { d.sealRec with code := .opened } }) s4)
  else s4

/-- POD_RESTART (R187, R198): B7; `failing` names Pods whose lanes do not answer (R26). -/
def execPodRestart (failing : List Nat) (s : State) : Host.Outcome State Fault Refusal :=
  .next (if s.chip.state = .boot ∧ s.chip.reset.isNone ∧ s.clocks.spineLocked ∧ booted s 5 ∧ !booted s 7 ∧ !s.chip.tstHeld then
    let s1 : State := { s with chip := { s.chip with phases := s.chip.phases ++ [7] } }
    if s1.chip.fromStandby then
      laneTimeouts (failing.filter (fun p => takesTransfer (podAt s p))) (onPods (fun p s =>
        if (podAt s p).doze.sentinel = .tripped then trigger 1 p (modPod p (fun d => { d with wake := some 1 }) s) else s) (transferAll failing s1))
    else
      let s2 := onPods restartPod s1
      laneTimeouts failing (trigger 8 255 { s2 with chip := { s2.chip with podsOff := false } })
    else s)

/-- ENGINE_OPEN (R578): B8, with the random start of the session numbers (R619). -/
def execEngineOpen (s : State) : Host.Outcome State Fault Refusal :=
  .next (if booting s && booted s 6 && !s.engine.opened && linkOpens s.link.code then
    let (r, s1) := takeFree s
    let s2 : State := { s1 with engine := { s1.engine with nextSession := wrap32 r } }
    if s2.chip.state = .safe then { s2 with engine := { s2.engine with opened := true }, chip := { s2.chip with phases := s2.chip.phases ++ [8] } }
    else openEngine s2
    else s)

/-! ### STANDBY (R29, R30, R173, R206) -/

/-- Autorender's cache takes the shown register of every Pod in the mask (R557). -/
def refreshCache (s : State) : State :=
  let mask := devVal s 0x2420 0
  let k := devVal s 0x2421 0 - 1
  { s with panel := { s.panel with cacheStamp := s.time.stamp, cache := Vector.ofFn (fun p : Fin 64 =>
      if bit mask p.val && !s.pods[p].faults.isoOpen then s.pods[p].meter.regs.getD k 0 / 2 ^ 40 else s.panel.cache[p]) } }

/-- The device enters STANDBY: sessions end, link and sources stop, HUSK keeps STAMP; a freeze of HUSK in progress counts from here on where
SPINE has kept STAMP so far (R165). -/
def enterStandby (s : State) : State :=
  let s1 := runTimers false (refreshCache (syncPulses s))
  let s2 : State := { s1 with
    chip := { s1.chip with state := .standby, standbyWanted := false, command := setCompletion s1.chip.command 2 },
    engine := { s1.engine with
      opened := false, running := none, waiting := none, frames := [], inbox := [], resetsDue := []
      slots := s1.engine.slots.map (fun q => { q with session := none, opening := none }) },
    clocks := { s1.clocks with
      spineOn := false, spineLocked := false, relock := none, corePll := false, phytx := false, brc := false, waiting := [],
      muxes := s1.clocks.muxes.zipIdx.map (fun m => if m.2 = 0 then m.1 else { m.1 with code := .off }) }
    time := { s1.time with huskTicks := 0, frozenAt := if s1.clocks.spineLocked then s1.time.elapsed else s1.time.frozenAt } }
  displayWatch (setLink .wakeListen (stopOsc 5 (stopOsc 3 (stopOsc 2 s2))))

/-- STANDBY wanted by an accepted command is entered when its reply has left and no STORE runs (R499). DESIGN CHOICE (log 50): the
Pods are looked at when the command is accepted (R30) and not again; a Pod that has left STOPPED or DOZE meanwhile does not keep the
device out of STANDBY. -/
def standbyCheck (s : State) : State :=
  if s.chip.standbyWanted && s.shell.run.isNone && s.chip.state == .active then enterStandby s else s

/-- The chip leaves STANDBY for BOOT (R29, R206): B0, B2 and B3 are skipped, Guard stays armed. -/
def leaveStandby (s : State) : State :=
  let s1 : State := { s with
    chip := { s.chip with state := .boot, phases := [0, 1, 2, 3, 4], fromStandby := podsHoldEnergy s },
    time := { s.time with stepped := false, lastTime := none }, clocks := { s.clocks with disciplined := false } }
  setLink .off (startOsc 5 (startOsc 3 (startOsc 2 (sinceBoot s1))))

/-- WAKE_ACTIVITY (R599): activity for `Link.WakeMinLen` without a break. -/
def execWakeActivity (micros : Nat) (s : State) : Host.Outcome State Fault Refusal :=
  .next (if s.chip.state = .standby ∧ s.link.code = .wakeListen ∧ devVal s 0x1106 0 ≤ micros ∧ huskRuns s then
    linkCount 16 (leaveStandby s) else s)

/-! ### Resets -/

/-- RESET_N_ASSERT (R209): the low level and how long it has been held. -/
def execResetNAssert (nanos : Nat) (s : State) : Host.Outcome State Fault Refusal :=
  let s1 : State := { s with chip := { s.chip with resetLow := true } }
  .next (if 10000 ≤ nanos ∨ (1000 ≤ nanos ∧ Config.shortResetAccepted nanos = true) then beginReset .pin s1 else s1)

/-- RESET_N_RELEASE (R209). -/
def execResetNRelease (s : State) : Host.Outcome State Fault Refusal := .next { s with chip := { s.chip with resetLow := false } }

/-- RESET_SEQUENCE_END (R210): step 4, after the snapshot, the STORE and both discharges. -/
def execResetSequenceEnd (straps : Straps) (s : State) : Host.Outcome State Fault Refusal :=
  .next (match s.chip.reset with
    | some r =>
      if r.snapshotDone && r.storeDone && s.shell.run.isNone && !s.panel.paneDischarge && !s.panel.stripDischarge then internalReset straps s else s
    | none => s)

/-- BACKSTOP_TRIP (R166, R211, R508): the log record, `EVENT_N`, then the reset with freeze and snapshot; none in HOLD. The reset is one step
here, so that every Pod freezes in it (log 29). -/
def execBackstopTrip (e : Evidence) (straps : Straps) (s : State) : Host.Outcome State Fault Refusal :=
  let tripped := match e with
    | .stall => true
    | .gates a b => outsideGate 39063 a && outsideGate 39063 b
  .next (if s.chip.state = .unpowered ∨ !tripped ∨ !qualified s 4 then s
    else
      let s1 := failOsc 4 5 s
      let s2 := logAdd 8 8 (4 + 256 * 4) ([0xFF, 1, 0xFF, 0] ++ beOctets 4 (lastGate e)) s1
      let s3 : State := { s2 with guard := { s2.guard with backstop := true, backstopEntry := some (s2.time.stamp, lastGate e) } }
      if s3.chip.state = .hold then s3
      else
        let s4 := engineStops (resetRecord .backstop s3)
        let s5 := abortStore (onPods freezeNow s4)
        let s6 := if podsHoldEnergy s then writeSnapshot 3 s5 else s5
        internalReset straps s6)

end Sys2Proof.Machine
end

