-- ==== Sys2Proof/Machine/Power.lean ====
section
/-! DEFINITION. The power die: start of the trunk, rails, the monitor ADC, the hold-up reserve and the HOLD sequencer
(R98-R138), as meanings of their commands. -/

namespace Sys2Proof.Machine

/-- TRUNK_START (R101, R107): the trunk rises through the start threshold. -/
def execTrunkStart (mv : Nat) (s : State) : Host.Outcome State Fault Refusal :=
  .next (if s.chip.state = .unpowered ∧ s.power.phase = .idle ∧ 11700 ≤ mv then
    { s with power := { s.power with phase := .inrush, level := mv } } else s)

/-- INRUSH_END (R107): the bucks start; their rails rise. -/
def execInrushEnd (s : State) : Host.Outcome State Fault Refusal :=
  .next (if s.chip.state = .unpowered ∧ s.power.phase = .inrush then { s with power := { s.power with phase := .bucks, rails := 15 } } else s)

/-- START_STOP (R101): the trunk falls before power-on reset release. -/
def execStartStop (mv : Nat) (s : State) : Host.Outcome State Fault Refusal :=
  .next (if s.chip.state = .unpowered ∧ s.power.phase ≠ .idle ∧ mv ≤ 11800 then
    { s with power := { s.power with phase := .idle, rails := 0, level := mv } } else s)

/-- POWER_ON_RESET_RELEASE (R108): every buck rail in regulation and the trunk at 17.0 V or more. -/
def execPowerOnResetRelease (mv : Nat) (straps : Straps) (s : State) : Host.Outcome State Fault Refusal :=
  .next (if s.chip.state = .unpowered ∧ s.power.phase = .bucks ∧ railsGood s = true ∧ 17000 ≤ mv then
    powerOnReset straps { s with power := { s.power with level := mv } } else s)

/-- HOLD_CAP_MEASURED (R130). -/
def execHoldCapMeasured (microfarad : Nat) (s : State) : Host.Outcome State Fault Refusal :=
  .next (if s.chip.state = .unpowered then s
    else
      let s1 : State := { s with power := { s.power with capMeasured := microfarad } }
      if microfarad < 54 then raise .pwr 0 6 0 s1 else s1)

/-- HOLD_READY_TIMEOUT (R130): not ready within 5 s of power-on reset release. -/
def execHoldReadyTimeout (s : State) : Host.Outcome State Fault Refusal :=
  .next (if s.chip.state = .unpowered ∨ s.power.readyFault then s
    else raise .pwr 0 6 0 { s with power := { s.power with readyFault := true } })

/-- Whether the reserve is ready (R129). -/
def holdReady (trunk vhold : Nat) : Bool := decide (16500 ≤ vhold ∧ vhold ≤ trunk + 500 ∧ trunk ≤ vhold + 500)

/-! ### The hold-up reserve (R109, R128, R131) -/

/-- The charger conducts: it has started, the bucks run from the trunk, and `VHOLD` stands more than 20 mV below the trunk (R128). -/
def charges (trunk : Nat) (s : State) : Bool := s.power.charger && !s.power.onHold && decide (s.power.vhold + 20 < trunk)

/-- What the charger draws at most, in uA: the class reserve over the trunk voltage (R128). -/
def chargerMicroamps (trunk : Nat) (s : State) : Nat := classReserve s * 1000000 / trunk

/-- How far that current lifts `VHOLD` between two samples of 100 us, in mV, on the capacitance measured within 15 % (R126, R130); unknown
before the first measurement. -/
def chargeRise (trunk : Nat) (s : State) : Option Nat :=
  if s.power.capMeasured = 0 then none else some (chargerMicroamps trunk s * 115 / (1000 * s.power.capMeasured) + 1)

/-- `VHOLD` at a sample (R128): it rises only while the charger conducts, no faster than its current allows and never above the trunk; it keeps
its charge when the trunk falls, and falls only in HOLD or by the leakage of R131, less than 1 mV between two samples. The first sample
after power-on finds what the capacitor has kept. -/
def reserveNow (trunk vhold : Nat) (s : State) : Nat :=
  let old := s.power.vhold
  if !s.power.sampled then vhold
  else if s.power.onHold then min vhold old
  else if old ≤ vhold then
    (if charges trunk s then (match chargeRise trunk s with | some n => min (min vhold trunk) (old + n) | none => min vhold trunk) else old)
  else max vhold (old - 1)

/-- MONITOR_ADC_SAMPLE (R126, R127): the readings, the pre-warning and the overvoltage of three samples in a row. The pre-warning level is that
of the image, so that there is none before B2 (R204); a fault that stays raised makes no new occurrence (R504). -/
def execMonitorAdcSample (trunk vhold : Nat) (hubTemp powerTemp : Int) (s : State) : Host.Outcome State Fault Refusal :=
  .next (if s.chip.state = .unpowered then s
    else
      let v := reserveNow trunk vhold s
      let low := if booted s 2 ∧ trunk < devVal s 0x2005 0 then s.power.lowRun + 1 else 0
      let high := if 33000 < trunk then s.power.highRun + 1 else 0
      let s1 : State := { s with power := { s.power with
        trunk := trunk, vhold := v, sampled := true, hubTemp := hubTemp, powerTemp := powerTemp, lowRun := low, highRun := high,
        ready := holdReady trunk v, readyFault := s.power.readyFault || holdReady trunk v } }
      let s2 := if 3 ≤ low then raise .pwr 0 2 0 s1 else s1
      if 3 ≤ high then raise .pwr 0 3 0 s2 else s2)

/-- RAIL_OUT_OF_RANGE (R111, R500): for more than 50 us; VB3 is Guard's own monitor's source as well. -/
def execRailOutOfRange (rail : Fin 7) (s : State) : Host.Outcome State Fault Refusal :=
  .next (if railOn s rail.val then
    let s1 : State := { s with power := { s.power with rails := clearBit s.power.rails rail.val } }
    let s2 := raise .pwr 0 4 (railStatus s1) s1
    displayWatch (if rail.val = 2 then raise .pwr 0 8 (railStatus s1) s2 else s2)
    else s)

/-! ### HOLD (R125, R133-R138) -/

def holdStep (k : Nat) (s : State) : State :=
  { s with power := { s.power with hold := s.power.hold.map (fun h => { h with steps := setBit h.steps k }) } }

/-- Step 3 of HOLD: the STORE, unless it is skipped, and both discharges unless they have run (R32, R35, R134, R212). -/
def holdStepThree (s : State) : State :=
  let s1 := if s.power.holdStore then startStoreOn s.shell.abortedSlot (2 ^ 3) false s.time.elapsed s else s
  let s2 := if s.panel.paneDone then holdStep 3 s1 else s1
  startDischarges (if s.panel.stripDone then holdStep 4 s2 else s2)

/-- The sequencer's step 1 has begun: the freeze is asked for. -/
def freezing (s : State) : Bool :=
  s.chip.state == .hold && !s.power.holdWait && (match s.power.hold with | some h => !bit h.steps 0 | none => false)

/-- Step 1 of HOLD ends when the last Pod has frozen (R134); where the snapshot is skipped, step 3 follows at once. -/
def holdFrozen (s : State) : State :=
  if freezing s && allFrozen s then
    let s1 := refreshCache (holdStep 0 s)
    if s.power.holdSnap then s1 else holdStepThree s1
  else s

/-- The sequencer begins (R134): every Pod freezes at its next frame boundary. -/
def holdBegin (s : State) : State := holdFrozen (freezePods { s with power := { s.power with holdWait := false } })

/-- The power-fail warning (R29, R32, R35, R125, R135, R212): HOLD, its log record and its fault, then the sequencer. A warning in STANDBY
starts HOLD RC with HFRC and HFXO, and the sequencer waits for HOLD RC's count (R139, R174). What an interrupted reset sequence has
completed is not repeated. -/
def enterHold (mv : Nat) (s : State) : State :=
  let from_ := s.chip.state
  let run := s.chip.reset
  let snapshot := match run with | some r => !r.snapshotDone | none => podsHoldEnergy s
  let store := (match run with | some r => !r.storeDone || s.shell.run.isSome | none => true) && !safeFromShell s &&
    (from_ != .boot || s.chip.fromStandby || booted s 2 || run.isSome)
  let s1 := logAdd 1 0xFF from_.code (beOctets 2 mv ++ beOctets 2 s.power.vhold) s
  let s2 := if from_ = .standby then startOsc 5 (startOsc 3 (startOsc 2 s1)) else s1
  let s3 : State := { s2 with
    chip := { s2.chip with state := .hold, reset := none, standbyWanted := false },
    power := { s2.power with
      level := mv, warning := true, onHold := true, holdStore := store, holdSnap := snapshot,
      holdWait := (oscAt s2 5).code == .qualifying, hold := some ⟨s2.time.stamp, s2.power.vhold, 0, 0⟩ },
    clocks := { s2.clocks with waiting := [] },
    engine := { s2.engine with
      running := none, waiting := none, frames := [], inbox := [], commit := none, resetsDue := [], powerEvent := s2.engine.opened } }
  let s4 := raise .pwr 0 1 0 (abortStore (runTimers false s3))
  displayWatch (if s4.power.holdWait then s4 else holdBegin s4)

/-- POWER_FAIL_WARNING (R125): a dip below the warning threshold of 10 us or more. -/
def execPowerFailWarning (mv micros : Nat) (s : State) : Host.Outcome State Fault Refusal :=
  .next (if 10 ≤ micros ∧ mv ≤ 16700 ∧ (s.chip.state = .boot ∨ s.chip.state = .active ∨ s.chip.state = .standby ∨ s.chip.state = .safe) then
    enterHold mv s else s)

/-- SNAPSHOT_END (R134, R210, R481): step 2 ends, in HOLD or in the reset sequence, and step 3 starts; every Pod has frozen before it. -/
def execSnapshotEnd (s : State) : Host.Outcome State Fault Refusal :=
  .next (match s.power.hold, s.chip.reset with
    | some h, _ =>
      if s.chip.state = .hold ∧ s.power.holdSnap = true ∧ bit h.steps 0 = true then
        holdStepThree (holdStep 1 (writeSnapshot 1 { s with power := { s.power with holdSnap := false } })) else s
    | none, some r =>
      if r.snapshotDone || !allFrozen s then s
      else
        let s1 := writeSnapshot 2 { s with chip := { s.chip with reset := some { r with snapshotDone := true, storeDone := true } } }
        startDischarges (if r.storeDone then s1 else startStoreOn s1.shell.abortedSlot (2 ^ 6) false s1.time.elapsed s1)
    | none, none => s)

/-- Step 3 of HOLD has begun. -/
def stepThreeBegun (s : State) : Bool := !s.power.holdSnap && (match s.power.hold with | some h => bit h.steps 0 | none => false)

/-- HOLD_END (R29, R134): the STORE and both discharges have ended; UNPOWERED below 17.0 V, else the HOLD-RESTART reset. -/
def execHoldEnd (mv : Nat) (straps : Straps) (s : State) : Host.Outcome State Fault Refusal :=
  .next (if s.chip.state = .hold ∧ stepThreeBegun s ∧ s.shell.run.isNone ∧ s.panel.paneDone ∧ s.panel.stripDone then
    if mv < 17000 then goUnpowered { s with power := { s.power with level := mv } }
    else
      let s1 := engineStops (chipResetExits (resetRecord .holdRestart s))
      internalReset straps { s1 with power := { s1.power with level := mv, onHold := false, warning := false } }
    else s)

/-- RESERVE_EXHAUSTED (R132, R137): the rails collapse; a snapshot or a STORE in progress is torn. -/
def execReserveExhausted (vhold : Nat) (s : State) : Host.Outcome State Fault Refusal :=
  .next (if s.chip.state = .hold ∧ vhold ≤ 7200 then
    let started := s.power.holdSnap && (match s.power.hold with | some h => bit h.steps 0 | none => false)
    let s1 : State := if started then
        { s with shell := { s.shell with
            counter := wrap32 (s.shell.counter + 1),
            banks := putAt s.shell.banks (nextBank s) { bankAt s (nextBank s) with
              header := bankHeader (wrap32 (s.shell.counter + 1)) 1 (timeQuality s) s.time.stamp (reachableMask s) } } }
      else s
    goUnpowered (abortStore { s1 with power := { s1.power with vhold := vhold } })
    else s)

/-- SOURCE_QUALIFIED (R141): the count of a source that has oscillated without a break is complete. One that is QUALIFIED and lost its detector
has counted anew and keeps its state; HOLD RC starts the HOLD sequencer that waits for it (R174). -/
def execSourceQualified (src : Fin 6) (s : State) : Host.Outcome State Fault Refusal :=
  let o := oscAt s src.val
  .next (if !o.oscillating then s
    else if o.code = .qualified then
      { s with clocks := { s.clocks with oscs := putAt s.clocks.oscs src.val { o with count := qualCount src.val } } }
    else
      let s1 := setOsc src.val { o with code := .qualified, count := qualCount src.val } 4 s
      if src.val = 5 ∧ s1.power.holdWait then holdBegin s1 else afterQualified src.val (o.code == .failed) s1)

end Sys2Proof.Machine
end

