-- ==== Sys2Proof/Machine/PodFrames.lean ====
section
/-! DEFINITION. The frame boundary of a Pod (R270, R83, R69, R36), its resets (R216, R217), the events of its converters,
meters, sentinel and pulse emitter, and its commands (R664) as items carry them out. -/

namespace Sys2Proof.Machine

/-! ### Pod resets (R216, R217, R435, R450, R525) -/

/-- What every Pod reset does beside the Pod's own state: its seal closes, its instance is released, a command completes. -/
def resetFollows (p : Nat) (s : State) : State :=
  let s1 := closeSeal p 3 0 false (resetExit .pod p s)
  if (podAt s1 p).command % 65536 = 3 then podComplete p 2 s1 else s1

/-- A soft Pod reset acts (R216): booking ends, the dormant interval ends, the residue event, STOPPED. -/
def softReset (p : Nat) (s : State) : State :=
  let s1 := endDoze p s.time.stamp (exitCause (podAt s p) 4) (stopSampling p .stopped 0x0B none (syncPulse p s))
  let s3 := modPod p (fun d => pulseResume s1.time.elapsed (clearedPod (pulseResidue 4 s1.time.stamp d))) s1
  resetFollows p s3

/-- Steps 2 to 4 of R217: the energy of the best candidate, then the gap up to now; sentinel ticks survive (R435). -/
def reloadPod (p : Nat) (s : State) : State :=
  let (kind, r, _) := energySource s (newestOf slotVerifies s) p
  let s1 := modPod p (fun d => { d with
    meter := { d.meter with regs := r.regs, coarse := r.coarse, lastBooking := r.lastBooking, lastUrms := r.urms },
    doze := { d.doze with ack := r.ack, bound := r.bound } }) s
  let now := s1.time.stamp
  if kind = 0 then closeGap p 7 0 now none false true s1
  else closeGap p 4 r.lastBooking now (some (energyOf (gapPower (podAt s1 p)) (now - r.lastBooking))) false true s1

/-- The isolation switch cycles (R217 step 1); a switch that is open already makes no new opening. -/
def cycleSwitch (stamp : Tick) (d : Pod) : Pod :=
  let f := d.faults
  { d with faults :=
      if f.isoOpen then { f with isoOpen := false }
      else { f with isoOpens := wrap32 (f.isoOpens + 1), isoStamp := stamp, isoCause := 2 } }

/-- A hard Pod reset (R217). -/
def hardReset (p : Nat) (s : State) : State :=
  let s0 := syncPulse p s
  let s1 := modPod p (fun d => pulseResidue 4 s.time.stamp (cycleSwitch s.time.stamp d)) s0
  let s2 := setMode p .stopped 0x0B (modPod p (fun d => { stopChannels (abandonIdle d) with plan := .none, frozen := false }) s1)
  let s3 := endDoze p s.time.stamp (exitCause (podAt s p) 4) (modPod p (fun d => if sentinelCounts d then d else transferPod s.time.stamp d) (reloadPod p s2))
  let s4 := modPod p (fun d =>
    let d1 := pulseResume s3.time.elapsed (clearedPod d)
    { d1 with conv := .reset, counters := .replicate 21 0, pulse := { d1.pulse with driving := false } }) s3
  resetFollows p s4

/-- A Pod reset is asked for: hard without a lane or an acknowledgement, at the next frame boundary while sampling. -/
def requestReset (p : Nat) (laneAnswers : Bool) (s : State) : State :=
  let d := podAt s p
  if d.faults.isoOpen then hardReset p s
  else if !laneAnswers then hardReset p (laneTimeout p s)
  else if runsFrames d then modPod p (fun d => { d with plan := { d.plan with reset := true } }) s
  else softReset p s

/-! ### The frame boundary -/

/-- The frame that ends: chains, timing, detectors of crossings and peaks, the harmonic window of a lost reference. -/
def frameWork (codes : List Int) (cm : Nat) (d : Pod) : Pod :=
  let d1 := timingRun d (frameRun codes cm d)
  let d2 := freqStep d (peakStep d d1)
  if d.meter.source = d2.meter.source then d2 else harmDiscard d2 d2.meter.formed

/-- Range changes that are pending take effect, within the limits (R245, R246, R248). -/
def takeRanges (d : Pod) : Pod :=
  (List.range 16).foldl (fun d k =>
    let r := d.conv.ranges.getD k ⟨0, none, 0, 0⟩
    match r.next with
    | none => d
    | some n =>
      let g := max (d.val 0x12 1) (min (d.val 0x12 2) n)
      { d with
        conv := { d.conv with ranges := putAt d.conv.ranges k ⟨g, none, 0, 0⟩ },
        counters := if g = r.gain then d.counters else bump d.counters 2 }) d

/-- Slice corrections that a solve left take effect together (R238). -/
def takeSolve (d : Pod) : Pod :=
  match d.conv.solve with
  | none => d
  | some xs =>
    let c := xs.foldl (fun c x => { c with
      offset := putAt c.offset x.1 x.2.1, gain := putAt c.gain x.1 x.2.2.1, skew := putAt c.skew x.1 x.2.2.2 }) d.conv
    { d with conv := { c with solve := none, solves := wrap32 (c.solves + xs.length / 4) } }

/-- The first pip value of a woken Pod ends the dormant interval at its instant (R428). -/
def firstPip (p : Nat) (s : State) : State :=
  let d := podAt s p
  if (sentinelCounts d || d.doze.restart) && !d.doze.idleEntry then
    match d.chans.toList.find? (fun ch => ch.live && decide (2 ≤ ch.outputs)) with
    | some ch => endDoze p ch.pip.stamp d.doze.exit s
    | none => s
  else s

/-- A Pod in the scope of the COMMIT in progress has answered (R85, R88). -/
def commitAnswer (p : Nat) (applied : Bool) (s : State) : State :=
  { s with engine := { s.engine with commit := s.engine.commit.map (fun c =>
      { c with waiting := clearBit c.waiting p, applied := if applied then setBit c.applied p else c.applied,
               missed := if applied then c.missed else setBit c.missed p }) } }

/-- A new range limit that waits stands before the channels that the same boundary resets: they start within it (R243, R244). -/
def limitsFirst (d : Pod) : Pod :=
  { d with values := storePutAll podDefault d.values (d.hot.filter (fun e => e.1 / 256 == 0x12)) }

/-- The latched staged copy applies where it may, and the HOT values that wait come into effect (R69, R83, R86, R446). -/
def applyAt (p : Nat) (stamp : Tick) (s : State) : State :=
  let s0 := modPod p limitsFirst (syncPulse p s)
  let d := podAt s0 p
  match d.latched with
  | none => modPod p (applyHot stamp false) s0
  | some (es, gen) =>
    if latchedMay d then
      let (d1, residue) := applyValues stamp es gen d
      commitAnswer p true (modPod p (fun _ => applyHot stamp residue d1) s0)
    else commitAnswer p false (modPod p (fun d => applyHot stamp false { d with latched := none }) s0)

/-- The instant of the last value that an input has booked. -/
def lastBooked (d : Pod) (i : Nat) : Tick := ((seriesOf d i).map (·.stamp)).foldl max d.meter.boundary

/-- Entry to LEAN (R39, R290): events on inputs that lose their metering channel clear at the instant their booking stopped (R408); the
restore hold runs from here (R122). -/
def leanEntry (p : Nat) (s : State) : State :=
  let s1 := modPod p (fun d =>
    let lean := { d with mode := .lean }
    let lost := (List.range 7).filter (fun i => (meterChan d i).isSome && (meterChan lean i).isNone)
    enterLean (lost.foldl (fun d i => forceClear (lastBooked d i) (fun a => a.input == i) d) d)) s
  setMode p .lean 6 (modPod p (fun d => { d with leanAt := s.time.elapsed, plan := { d.plan with lean := false } }) s1)

/-- LEAN ends (R39, R291). -/
def leanExit (p : Nat) (s : State) : State :=
  let d := podAt s p
  let cs := leanReturn d
  let s1 := setMode p .run 7 (modPod p (fun d => { d with plan := { d.plan with run := false } }) s)
  modPod p (fun x =>
    let y := handOver d cs (syncChannels (fun _ => false) cs x)
    if meterSet y == meterSet d then y else { y with events := { y.events with idleFrom := none } }) s1

/-- The end of an idle entry (R413): the active-energy path, where a phase has one, has delivered the arming instant. -/
def idleEnds (p : Nat) (s : State) : State :=
  let d := podAt s p
  match d.doze.armingFrom with
  | some t =>
    if d.plan.doze && d.doze.idleEntry && (lastInstant d).elim true (fun last => decide (t ≤ last)) then
      modPod p (fun d => { d with doze := { d.doze with
        entry := 1, armedAt := t, idleEntry := false, armingFrom := none, flags := 0 } }) (stopSampling p .doze 5 (some t) s)
    else s
  | none => s

/-- Switches of the POD mux start at the boundary (R154, R157, R167), and the next frame waits for their end (R159); a CLK containment
stops a return, and holds a rescued mux (R523). A CLOCK-RC that finds the Pod on its RC already needs no switch. -/
def muxAtBoundary (p : Nat) (s : State) : State :=
  let d := podAt s p
  let asked := d.command % 65536 == 0x21 && d.command / 16777216 == 1
  let stays := if asked then pinned (16 + p) s else contained s 0
  if d.plan.toRc then
    let s1 := modPod p (fun d => { d with plan := { d.plan with toRc := false }, rcByCommand := true }) s
    if d.mux = .primary then
      setPodMux p .switching 1 (modPod p (fun d => { d with muxToRc := true, rcCount := podRcCount, periodStart := d.marker, periodFrames := 0 }) s1)
    else completeIf p 0x20 2 s1
  else if d.plan.toSpine then
    let s1 := modPod p (fun d => { d with plan := { d.plan with toSpine := false } }) s
    if d.mux = .primary then completeIf p 0x21 2 s1
    else if s.clocks.spineLocked && !stays then
      setPodMux p .switching (if asked then 1 else 2) (modPod p (fun d => { d with muxToRc := false, rcByCommand := false }) s1)
    else completeIf p 0x21 4 s1
  else s

/-- What the Pod was asked to do at this boundary: reset before STOP before the freeze of HOLD and SAFE (R38) before the rest. -/
def plansAt (p : Nat) (s : State) : State :=
  let d := podAt s p
  if d.plan.reset then softReset p s
  else if d.plan.stop then completeIf p 2 2 (endDoze p s.time.stamp d.doze.exit (stopSampling p .stopped 2 none s))
  else if d.plan.freeze then freezeNow p s
  else
    let s1 := if d.plan.lean && d.mode != .lean then leanEntry p s else if d.plan.run && d.mode == .lean then leanExit p s else s
    idleEnds p (muxAtBoundary p s1)

/-- The arithmetic unit's shares of a frame (R372, R373): at most 70 % foreground work, and lower ranks in what it leaves free; the shares
themselves are free values. `Pod.UnitLoad` takes the means of each 128 000 frames, and the highest foreground share of any. -/
def loadFrame (p : Nat) (d : Pod) : Pod :=
  let fore := Config.unitLoad p 1 d.marker % 71
  let harm := Config.unitLoad p 2 d.marker % (101 - fore)
  let solve := Config.unitLoad p 3 d.marker % (101 - fore - harm)
  let l := d.load
  let sums : Vector Nat 3 := #v[l.sums[0] + fore, l.sums[1] + harm, l.sums[2] + solve]
  let peak := max l.shown[3] fore
  { d with load :=
      if l.frames + 1 < 128000 then ⟨l.frames + 1, sums, putAt l.shown 3 peak⟩
      else ⟨0, .replicate 3 0, #v[sums[0] / 128000, sums[1] / 128000, sums[2] / 128000, peak]⟩ }

/-- The frame that ends: its codes run through the chains, and the hub latches the marker of the new frame. A frame that a rescue stretched
is no whole frame of the RC: the mean of `Pod.FramePeriod` starts at the marker after it (R170). -/
def frameEnds (p : Nat) (codes : List Int) (cm : Nat) (s : State) : State :=
  let rescued := (podAt s p).rescuedFrame
  let s1 := firstPip p (modPod p (frameWork codes cm) s)
  let (t, s2) := latchMarker s1
  let quality := timeQuality s2
  modPod p (fun d => notePhasor d.marker t quality { loadFrame p d with
    marker := t, frames := d.frames + 1, periodStart := if rescued then t else d.periodStart,
    periodFrames := if rescued then 0 else if rcTimed d then d.periodFrames + 1 else d.periodFrames }) s2

/-- What takes effect at the boundary: a commit and HOT values, ranges and slices, then what the Pod was asked to do; HOLD goes on when its
last Pod has frozen, and wakes that waited for a Pod's entry to LEAN power up. -/
def boundaryActs (p : Nat) (s : State) : State :=
  releaseWakes (holdFrozen (drainEvents p (plansAt p (modPod p (fun d => takeSolve (takeRanges d)) (applyAt p (podAt s p).marker s)))))

/-- The Pod's clock runs, so that its frames end (R154, R159, R162). -/
def frameRuns (d : Pod) : Bool := runsFrames d && d.mux.runs

/-! ### Settling and ranges -/

/-- Every live channel of a waking Pod has settled: RUN (R36). -/
def wakeCheck (p : Nat) (s : State) : State :=
  let d := podAt s p
  if d.mode = .waking ∧ d.powering.isNone ∧ d.chans.toList.any (·.live) ∧ d.chans.toList.all (fun ch => !ch.live || ch.settled) then
    setMode p .run 8 s
  else s

/-- SETTLE_COUNT_REACHED (R321). -/
def execSettleCountReached (p : Fin 64) (c : Fin 32) (s : State) : Host.Outcome State Fault Refusal :=
  let d := podAt s p.val
  let ch := d.chans.getD c.val .reset
  .next (if runsFrames d && ch.live && decide (settleCount d c.val ≤ ch.outputs) then
    wakeCheck p.val (modPod p.val (fun d => { d with chans := putAt d.chans c.val { ch with settled := true } }) s) else s)

/-- FUNDAMENTAL_PATH_SETTLED (R338). -/
def execFundamentalPathSettled (p : Fin 64) (input : Fin 7) (s : State) : Host.Outcome State Fault Refusal :=
  let d := podAt s p.val
  .next (match meterChan d input.val with
    | some c =>
      let ch := d.chans.getD c .reset
      if runsFrames d && ch.live && decide (2176 ≤ ch.outputs) then
        modPod p.val (fun d => { d with chans := putAt d.chans c { ch with fundSettled := true } }) s else s
    | none => s)

/-- Frames of a down-range interval (R247). -/
def rangeFrames (d : Pod) : Nat :=
  if d.meter.freq = 0 then 5120
  else let n := d.meter.freq * d.framePeriod; (2 * 65536000000 * 65536 + n - 1) / n

/-- DOWN_RANGE_INTERVAL_END (R246), at the boundary that ends the interval: the frame that starts there converts at the next
higher gain, or a new interval starts. -/
def execDownRangeIntervalEnd (p : Fin 64) (k : Fin 16) (s : State) : Host.Outcome State Fault Refusal :=
  let d := podAt s p.val
  let r := d.conv.ranges.getD k.val ⟨0, none, 0, 0⟩
  .next (if runsFrames d && isAuto (d.seqA.getD k.val 0) && activeA d k.val && r.next.isNone && decide (rangeFrames d ≤ r.frames) then
    let up := decide (r.peak ≤ 3072 ∧ r.gain < d.val 0x12 2)
    modPod p.val (fun d => { d with
      conv := { d.conv with ranges := putAt d.conv.ranges k.val ⟨if up then r.gain + 1 else r.gain, none, 0, 0⟩ },
      counters := bump d.counters 2 (b2n up) }) s
    else s)

/-- CM_EXCURSION_FAULT (R231): an excursion of 1 s without interruption. -/
def execCmExcursionFault (p : Fin 64) (m : Fin 5) (s : State) : Host.Outcome State Fault Refusal :=
  let d := podAt s p.val
  .next (if runsFrames d && decide (65536000 * 65536 ≤ d.conv.cmFrames.getD m.val 0 * d.framePeriod) then raisePod p.val 6 0 s else s)

/-! ### Slices and references (R237-R242, R255-R265, R275, R276) -/

/-- Four values relative to their mean, each one of the two neighbours of the exact difference, so that they sum to zero (R237). -/
def relativeToMean (l : List Int) : List Int :=
  let n := (List.range 4).foldl (fun a j => a + l.getD j 0) 0
  (List.range 4).map (fun j => (4 * l.getD j 0 - n) / 4 + if ((j + Config.sliceTurn n) % 4 : Nat) < (-n) % 4 then 1 else 0)

def clampSolve (lim : Int) (xs : Option (List Int)) : Option (List Int) × Bool :=
  match xs with
  | none => (none, false)
  | some l => (some (l.map (clampInt (-lim) lim)), l.any (fun x => decide (lim < x ∨ x < -lim)))

/-- SLICE_SOLVE (R237-R240): the solve of the interval that the last solve point closed. Its operand holds what the estimator found for
each slice; a quantity without samples that qualify keeps its corrections. -/
def execSliceSolve (p : Fin 64) (onB : Bool) (x : Solve) (s : State) : Host.Outcome State Fault Refusal :=
  let d := podAt s p.val
  .next (match d.conv.estReady.getD (b2n onB) none with
    | none => s
    | some (anyOffset, anyGain) =>
    if !runsFrames d || !estimates d onB then s
    else if x.late then
      podCount p.val 6 1 (modPod p.val (fun d => { d with conv := { d.conv with estReady := putAt d.conv.estReady (b2n onB) none } }) s)
    else
      let o := clampSolve 4096 (if anyOffset then x.offset.map relativeToMean else none)
      let g := clampSolve 8192 (if anyGain then x.gain.map relativeToMean else none)
      let k := clampSolve 256 (if anyGain then x.skew.map relativeToMean else none)
      let base := if onB then 4 else 0
      let pick (v : Vector Int 8) (l : Option (List Int)) (j : Nat) : Int := match l with
        | some l => l.getD j 0
        | none => v.getD (base + j) 0
      let es := (List.range 4).map (fun j => (base + j, pick d.conv.offset o.1 j, pick d.conv.gain g.1 j, pick d.conv.skew k.1 j))
      let clamps := o.2 || g.2 || k.2
      let s1 := modPod p.val (fun d => { d with conv := { d.conv with
        estReady := putAt d.conv.estReady (b2n onB) none, solve := some (d.conv.solve.getD [] ++ es), residual := putAt d.conv.residual (if onB then 1 else 0) x.residual,
        clamped := d.conv.clamped || clamps } }) s
      if clamps && !d.conv.clamped then raisePod p.val 7 0 s1 else s1)

/-- The layout of a converter B group: entry, start, acquisition. -/
def groupLayout (d : Pod) (g : Nat) : List (Nat × Nat × Nat) :=
  ((layoutB d.seqA d.seqB d.shared).getD []).filter (fun e => e.1 % 4 == g)

/-- The earliest 32 free cycles of a group (R275). -/
def freeRoom (d : Pod) (g : Nat) : Bool :=
  let l := groupLayout d g
  let occupied (t : Nat) : Bool := l.any (fun e => decide (e.2.1 < t + 32 ∧ t < e.2.1 + e.2.2 + 17))
  (List.range 97).any (fun t => !occupied t)

/-- A displacing injection at entry k leaves its group ending by cycle 128. -/
def displaceFits (d : Pod) (k : Nat) : Bool :=
  let l := (groupLayout d (k % 4)).filter (fun e => decide (k ≤ e.1))
  match l with
  | [] => false
  | e :: rest =>
    let shift := 15 - e.2.2
    decide (e.2.1 + 32 ≤ 128) && rest.all (fun x => decide (x.2.1 + shift + x.2.2 + 17 ≤ 128))

/-- The entries of converter B that convert, highest index first. -/
def usedB (d : Pod) : List Nat := ((List.range 16).filter (fun k => (bEntry d k).isSome)).reverse

/-- The place of the injection: a group with free room, or the entry that it displaces (R261, R262). -/
def injectionPlace (d : Pod) : Option (Nat × Option Nat) :=
  let us := usedB d
  match (List.range 4).find? (freeRoom d) with
  | some g => some (g, none)
  | none =>
    let plain := us.find? (fun k => d.shared != some k && !entryMark (d.seqB.getD k 0))
    match plain with
    | some k => if displaceFits d k then some (k % 4, some k) else none
    | none => none

/-- The forced place after 60 deferrals (R262): the highest entry other than the shared one that leaves its group room (R275), or the shared
entry where it is the only one; log 51. -/
def forcedPlace (d : Pod) : Option Nat :=
  match (usedB d).filter (fun k => d.shared != some k) with
  | [] => d.shared.filter (displaceFits d)
  | l => l.find? (displaceFits d)

/-- The record of an injection on a slice (R264). -/
def recordRatio (p ratio slice : Nat) (stamp : Tick) (d : Pod) : Pod :=
  let f := Config.factoryRatio p
  let dev := roundOpen (((ratio : Int) - f) * 100000) f
  let off := decide (f < 1000 * ((ratio : Int) - f).natAbs)
  { d with conv := { d.conv with
      refRatio := ratio, refSlice := slice, refFirst := false, refDeviation := clampInt (-2147483648) 2147483647 dev, refStamp := stamp,
      refDefer := 0, refDue := false, refRuns := putAt d.conv.refRuns slice (if off then min 4 (d.conv.refRuns.getD slice 0 + 1) else 0) } }

/-- REFERENCE_INJECTION (R261, R262, R264, R276): at or after the injection point, in the frame whose slice is due. -/
def execReferenceInjection (p : Fin 64) (ratio : Nat) (s : State) : Host.Outcome State Fault Refusal :=
  let d := podAt s p.val
  let forced := decide (60 ≤ d.conv.refDefer)
  let place := match injectionPlace d with
    | some x => some (x, false)
    | none => if forced then (forcedPlace d).map (fun k => ((k % 4, some k), true)) else none
  .next (if !runsFrames d || bOff d || !d.conv.refDue then s
    else match place with
    | none => modPod p.val (fun d => { d with conv := { d.conv with refDue := false, refDefer := min 60 (d.conv.refDefer + 1) } }) s
    | some ((g, entry), byForce) =>
      let slice := (g + d.conv.frameB) % 4
      let due := if d.conv.refFirst then 0 else (d.conv.refSlice + 1) % 4
      if slice ≠ due then s
      else
        let s1 := modPod p.val (fun d =>
          let d1 := recordRatio p.val ratio slice s.time.stamp d
          { d1 with conv := { d1.conv with displaced := entry }, counters := if byForce then bump d1.counters 5 else d1.counters }) s
        if (podAt s1 p.val).conv.refRuns.getD slice 0 = 4 then raisePod p.val 9 0 s1 else s1)

/-- The sums of a plausibility window: of |A - B| and of |A|, over its fine outputs (R255). -/
def plausSums (xs : List (Int × Int × Bool)) : Nat × Nat :=
  xs.foldl (fun a x => (a.1 + (x.1 - x.2.1).natAbs, a.2 + x.1.natAbs)) (0, 0)

/-- PLAUSIBILITY_WINDOW_END (R255-R258). -/
def execPlausibilityWindowEnd (p : Fin 64) (s : State) : Host.Outcome State Fault Refusal :=
  let d := podAt s p.val
  .next (match bOff d, d.shared with
    | false, some k =>
      let n := 2560 / respFrames (chanResp d k)
      if !runsFrames d || decide (d.conv.plausPairs.length < n) then s
      else
        let xs := d.conv.plausPairs.take n
        let rest := d.conv.plausPairs.drop n
        let c0 := { d.conv with plausPairs := rest, plausFs := d.val 0x27 1, plausRdg := d.val 0x27 2 }
        if xs.any (fun x => !x.2.2) then
          modPod p.val (fun d => { d with conv := { c0 with plausSkipped := wrap32 (c0.plausSkipped + 1) } }) s
        else
          let (sd, sm) := plausSums xs
          let lim := d.conv.plausFs * 2 ^ (22 - d.val 0x26 0) * n + d.conv.plausRdg * sm
          let fails := decide (lim < 10000 * sd)
          let count := if fails then d.conv.plausCount + 1 else 0
          let c1 := { c0 with
            plausD := (roundOpen sd n).toNat, plausL := (roundOpen lim (10000 * n)).toNat, plausStamp := (d.chans.getD k .reset).fine.stamp,
            plausCount := if count = 3 then 0 else count, plausStatus := if !fails then 3 else if count = 3 then 5 else 4 }
          let s1 := modPod p.val (fun d => { d with conv := c1, counters := if fails then bump d.counters 4 else d.counters }) s
          if count = 3 then raisePod p.val 8 3 s1 else s1
    | _, _ => s)

/-! ### Meter, harmonics, events -/

/-- What follows a loss of the reference: FREQ-LOSS, and the harmonic window in progress is discarded (R377, R403). -/
def referenceLost (before d : Pod) : Pod :=
  if d.meter.source = before.meter.source then d
  else let d1 := freqStep before d; harmDiscard d1 d1.meter.formed

/-- A booking refreshes RMS½: a reference below its level is dropped at that boundary (R340). -/
def lowReference (d : Pod) : Pod := referenceLost d (dropLow d)

/-- REFERENCE_LOSS (R340). -/
def execReferenceLoss (p : Fin 64) (s : State) : Host.Outcome State Fault Refusal :=
  .next (if runsFrames (podAt s p.val) then modPod p.val (fun d => referenceLost d (dropReference d)) s else s)

/-- EVENT_RMS_REFRESH (R396, R412, R413): the detectors, and the idle decision that arms the sentinel. -/
def execEventRmsRefresh (p : Fin 64) (s : State) : Host.Outcome State Fault Refusal :=
  let d := podAt s p.val
  .next (if runsFrames d && refreshDue d then
    let d1 := refreshRun d
    let d2 := if idleDecision d1.events.refreshAt d1 then { d1 with doze := { d1.doze with sentinel := .arming, idleEntry := true, restart := false } } else d1
    modPod p.val (fun _ => d2) s
    else s)

/-- EVENT_BLOCK_EXPIRY (R402). -/
def execEventBlockExpiry (p : Fin 64) (kind : Nat) (input : Fin 7) (s : State) : Host.Outcome State Fault Refusal :=
  .next (modPod p.val (unblock kind input.val s.time.stamp) s)

/-- The oldest half-cycle that waits has all its values (R354). -/
def halfDue (d : Pod) : Bool :=
  match d.meter.halfQueue with
  | iv :: _ => reached d iv.stop
  | [] => false

/-- HALF_CYCLE_BOOKING (R354). -/
def execHalfCycleBooking (p : Fin 64) (s : State) : Host.Outcome State Fault Refusal :=
  .next (if runsFrames (podAt s p.val) && halfDue (podAt s p.val) then modPod p.val lowReference (withBooking p.val bookNext s) else s)

/-- HARMONIC_WINDOW_END (R375, R389). -/
def execHarmonicWindowEnd (p : Fin 64) (s : State) : Host.Outcome State Fault Refusal :=
  .next (if runsFrames (podAt s p.val) then modPod p.val harmWindowEnd s else s)

/-- HARMONIC_PUBLICATION (R388, R403): of the window that ended at this STAMP, if its results are due. -/
def execHarmonicPublication (p : Fin 64) (stop : Tick) (s : State) : Host.Outcome State Fault Refusal :=
  let d := podAt s p.val
  .next (if runsFrames d && d.harm.due.any (fun w => w.stop == stop) then modPod p.val (fun d => thdStep (harmPublish d s.time.stamp)) s else s)

/-- PHASOR_PUBLICATION (R392). -/
def execPhasorPublication (p : Fin 64) (instant : Tick) (s : State) : Host.Outcome State Fault Refusal :=
  .next (if runsFrames (podAt s p.val) then modPod p.val (fun d => phasorPublish d instant) s else s)

/-! ### Doze and sentinel (R413-R434) -/

/-- An arming passed its self-test. The DOZE command enters DOZE from STOPPED alone (R414): an arming that a START has overtaken falls
away. -/
def armPasses (p : Nat) (s : State) : State :=
  let d := podAt s p
  let t := s.time.stamp
  let armed (d : Pod) : Pod := { d with doze := { d.doze with sentinel := .armed, lastTransfer := t } }
  if d.doze.idleEntry then
    modPod p (fun d => let e := armed d; { e with doze := { e.doze with armingFrom := some t }, plan := { e.plan with doze := true } }) s
  else if d.doze.restart then
    let s1 := modPod p (fun d => let e := armed d; { e with doze := { e.doze with armedAt := t, restart := false, armingFrom := none } }) s
    match d.doze.armingFrom with
    | some t0 => closeGap p 8 t0 t (some (energyOf (gapPower d) (t - t0))) false true s1
    | none => s1
  else if d.mode ≠ .stopped then modPod p (fun d => { d with doze := { d.doze with sentinel := .off } }) s
  else
    completeIf p 0x30 2 (setMode p .doze 3 (modPod p (fun d => let e := armed d; { e with doze := { e.doze with armedAt := t, entry := 2, flags := 0 } }) s))

/-- An arming failed its self-test: POD source 0x0A, and OFF outside a restart (R418, R419). At a restart the retries begin
with the first failure, and with them the gap (R487). -/
def armFails (p : Nat) (s : State) : State :=
  let d := podAt s p
  let s1 := if d.doze.restart then modPod p (fun d => { d with doze := { d.doze with
        armingFrom := some (d.doze.armingFrom.getD s.time.stamp) } }) s
    else if d.doze.idleEntry then modPod p (fun d => let e := abandonIdle d; { e with events := { e.events with idleFrom := some e.events.refreshAt } }) s
    else completeIf p 0x30 4 (modPod p (fun d => { d with doze := { d.doze with sentinel := .off } }) s)
  raisePod p 0x0A 0 s1

/-- SENTINEL_ARMED (R418): the ticks that the self-test yielded, within 1 000 ± 50 or not. -/
def execSentinelArmed (p : Fin 64) (testTicks : Nat) (s : State) : Host.Outcome State Fault Refusal :=
  .next (if (podAt s p.val).doze.sentinel = .arming then
    if 950 ≤ testTicks ∧ testTicks ≤ 1050 then armPasses p.val s else armFails p.val s
    else s)

/-- ARMING_RETRY (R418): once per second at a restart. -/
def execArmingRetry (p : Fin 64) (s : State) : Host.Outcome State Fault Refusal :=
  let d := podAt s p.val
  .next (if d.doze.sentinel = .arming ∧ d.doze.restart then
    modPod p.val (fun d => { d with doze := { d.doze with
      flags := setBit d.doze.flags 1, armingFrom := some (d.doze.armingFrom.getD s.time.stamp) } }) s else s)

/-- A latched trip of an armed sentinel (R413, R419, R420). -/
def tripLatched (p : Nat) (s : State) : State :=
  let d := podAt s p
  if d.doze.idleEntry then
    modPod p (fun d => let e := abandonIdle d; { e with events := { e.events with idleFrom := some e.events.refreshAt } }) s
  else
    let s1 := modPod p (fun d => { d with doze := { d.doze with sentinel := .tripped, tripAt := s.time.stamp } }) s
    if s1.chip.state = .standby then leaveStandby s1
    else if governorActs s1 then trigger 1 p (modPod p (fun d => { d with wake := some (d.wake.getD 1) }) s1)
    else s1

/-- A trip is latched: by an armed sentinel; one that has not armed, or has tripped already, counts it (R421). -/
def latchTrip (p : Nat) (s : State) : State :=
  match (podAt s p).doze.sentinel with
  | .off => s
  | .armed => tripLatched p s
  | _ => podCount p 14 1 s

/-- HUSK runs again: the trips held while it was frozen are latched now (R420). -/
def latchHeldTrips (s : State) : State :=
  if !huskRuns s then s
  else (List.range 64).foldl (fun s p =>
    if (podAt s p).doze.tripHeld then latchTrip p (modPod p (fun d => { d with doze := { d.doze with tripHeld := false } }) s)
    else s) s

/-- SENTINEL_TRIP (R416, R420, R421): the level above the threshold and how long it held; latched while HUSK runs, held while
its mux holds it low. -/
def execSentinelTrip (p : Fin 64) (microvolts micros : Nat) (s : State) : Host.Outcome State Fault Refusal :=
  let d := podAt s p.val
  .next (if microvolts ≤ d.val 0xB3 0 ∨ micros < 20 ∨ s.chip.state = .unpowered ∨ d.doze.sentinel = .off then s
    else if !huskRuns s then modPod p.val (fun d => { d with doze := { d.doze with tripHeld := true } }) s
    else latchTrip p.val s)

/-- WAKE_POWER_UP_DONE (R422, R425, R199): frame 0 of a Pod whose wake was granted, on SPINE where it is locked; not before the LEAN entries
of its evaluation (R119). -/
def execWakePowerUpDone (p : Fin 64) (s : State) : Host.Outcome State Fault Refusal :=
  let d := podAt s p.val
  .next (match d.powering with
    | none => s
    | some src =>
      if !governorActs s || d.frozen || d.powerWait then s
      else
        let cause := if src = 2 then 1 else if src = 9 then 0x0A else if src = 8 then 0x0C else 4
        let dozed := d.mode == .doze
        let s1 := startSampling p.val cause (if src = 9 then modPod p.val (pulseResume s.time.elapsed) (syncPulse p.val s) else s)
        let s2 := setPodMux p.val (if s.clocks.spineLocked then .primary else .alternate) 4 (modPod p.val (fun d => { d with mux := .off }) s1)
        let s3 := modPod p.val (fun e => { e with
          rcCount := podRcCount, rcByCommand := false, framePeriod := 33554432,
          counters := if dozed then bump e.counters 12 else e.counters,
          doze := if dozed then
              { e.doze with exit := if src = 2 then 2 else 1, latency := if src = 1 then microsOf (s.time.stamp - d.doze.tripAt) else e.doze.latency }
            else e.doze }) s2
        completeIf p.val 1 2 s3)

/-- DORMANT_TRANSFER (R415, R429): ticks counted since the last command; the transfer of each second while ACTIVE. -/
def execDormantTransfer (p : Fin 64) (ticks : Nat) (saturated : Bool) (s : State) : Host.Outcome State Fault Refusal :=
  let d := podAt s p.val
  .next (if s.chip.state = .unpowered ∨ !(takesTransfer d || d.doze.idleEntry) then s
    else
      let n := if sentinelCounts d then ticks else 0
      let s1 := modPod p.val (fun d => { d with doze := { d.doze with
        ticks := d.doze.ticks + n, untransferred := d.doze.untransferred + n, saturated := d.doze.saturated || (saturated && sentinelCounts d) } }) s
      if s.chip.state ≠ .active ∨ d.doze.idleEntry = true then s1
      else if laneSilent s p.val then laneFell p.val s1
      else laneDone p.val (modPod p.val (transferPod s1.time.stamp) s1))

/-! ### Pulses, supply, lane -/

/-- PULSE_LEADING_EDGE (R440, R441, R93). -/
def execPulseLeadingEdge (p : Fin 64) (s : State) : Host.Outcome State Fault Refusal :=
  let s1 := syncPulse p.val s
  .next (if pulseRuns s1 && gateOn s1 3 && edgeAllowed (podAt s1 p.val) s1.time.elapsed then
    modPod p.val (pulseEdge s1.time.elapsed s1.time.stamp) s1 else s1)

/-- PULSE_WIDTH_END (R441). -/
def execPulseWidthEnd (p : Fin 64) (s : State) : Host.Outcome State Fault Refusal :=
  let s1 := syncPulse p.val s
  let q := (podAt s1 p.val).pulse
  .next (if s1.clocks.spineLocked ∧ q.edgeTicks + 16 * q.width ≤ s1.time.elapsed then
    modPod p.val (fun d => { d with pulse := { d.pulse with driving := false } }) s1 else s1)

/-- ISOLATION_SWITCH_OPEN (R19): more than 12 mA for more than 10 us. -/
def execIsolationSwitchOpen (p : Fin 64) (microamps nanos : Nat) (s : State) : Host.Outcome State Fault Refusal :=
  let d := podAt s p.val
  .next (if s.chip.state = .unpowered ∨ microamps ≤ 12000 ∨ nanos ≤ 10000 ∨ d.faults.isoOpen then s
    else
      let s1 := modPod p.val (fun d => { d with faults := { d.faults with
        isoOpen := true, isoOpens := wrap32 (d.faults.isoOpens + 1), isoStamp := s.time.stamp, isoCause := 1, isoPeak := min 65535 microamps, current := 0 } }) s
      raisePod p.val 1 0 s1)

/-- REGISTER_FILE_ECC_ERROR (R23). -/
def execRegisterFileEccError (p : Fin 64) (word : Nat) (double : Bool) (s : State) : Host.Outcome State Fault Refusal :=
  .next (if s.chip.state = .unpowered then s
    else if double then
      raisePod p.val 3 0 (modPod p.val (fun d => { d with faults := { d.faults with eccBadWord := word % 65536, eccBadStamp := s.time.stamp } }) s)
    else modPod p.val (fun d => { d with
      faults := { d.faults with eccWord := word % 65536, eccStamp := s.time.stamp }, counters := bump d.counters 16 }) s)

/-- LANE_TIMEOUT (R26): an item of the same instant that makes this access fails (log 24). -/
def execLaneTimeout (p : Fin 64) (s : State) : Host.Outcome State Fault Refusal :=
  .next (if s.chip.state = .unpowered then s
    else laneTimeout p.val (modPod p.val (fun d => { d with faults := { d.faults with laneFailed := some s.time.elapsed } }) s))

/-- SUPPLY_CURRENT_REPORT (R675). -/
def execSupplyCurrentReport (p : Fin 64) (microamps : Nat) (s : State) : Host.Outcome State Fault Refusal :=
  .next (modPod p.val (fun d => { d with faults := { d.faults with current := if d.faults.isoOpen then 0 else min 65535 microamps } }) s)

/-- QUIET_EXIT (R525, R526, R679): an isolated Pod is reloaded before its wake. -/
def execQuietExit (c : FaultClass) (p : Fin 64) (s : State) : Host.Outcome State Fault Refusal :=
  let i := instAt s (instIndex c p.val)
  let s1 := if c = .pod ∧ leavesQuiet i = true ∧ (podAt s p.val).faults.isoOpen = true then
      reloadPod p.val (modPod p.val (cycleSwitch s.time.stamp) s) else s
  .next (quietExitOf c p.val s1)

/-! ### Commands of a Pod as items carry them out (R664, R157, R414, R432, R457, R459) -/

/-- A command is written: its word with a completion. -/
def noteCommand (p code arg completion : Nat) (s : State) : State := podCommand p code arg completion s

/-- START: the wake pends for the governor; the reply waits for its evaluation (R665). -/
def podStart (p : Nat) (s : State) : Nat × State :=
  let d := podAt s p
  if d.mode = .fault ∨ !(d.seqA.any entryUsed) then (stWrongState, noteCommand p 1 0 3 s)
  else if sampling d.mode then (stOk, noteCommand p 1 0 2 s)
  else if d.powering.isSome then (stOk, noteCommand p 1 0 1 s)
  else (stOk, trigger 2 p (noteCommand p 1 0 1 (modPod p (fun d => { d with wake := some 2 }) s)))

/-- STOP (R36, R41): a sentinel crossing that loses is counted. -/
def podStop (p : Nat) (s : State) : Nat × State :=
  let d := podAt s p
  if d.mode = .fault then (stWrongState, noteCommand p 2 0 3 s)
  else if d.mode = .stopped then (stOk, noteCommand p 2 0 2 (modPod p (fun d => { d with wake := none, powering := none }) s))
  else if runsFrames d then (stOk, noteCommand p 2 0 1 (modPod p (fun d => { d with plan := { d.plan with stop := true } }) s))
  else
    let lost := d.doze.sentinel == .tripped || d.doze.sentinel == .pending
    let s1 := modPod p (fun d =>
      { d with wake := none, powering := none, counters := if lost then bump d.counters 14 else d.counters })
        (endDoze p s.time.stamp (exitCause d 3) s)
    (stOk, noteCommand p 2 0 2 (setMode p .stopped 2 s1))

/-- DOZE (R414). -/
def podDoze (p : Nat) (s : State) : Nat × State :=
  let d := podAt s p
  if d.mode = .doze then (stOk, noteCommand p 0x30 0 2 s)
  else if d.mode = .stopped ∧ d.powering.isNone then
    (stOk, noteCommand p 0x30 0 1 (modPod p (fun d => { d with doze := { d.doze with sentinel := .arming, restart := false, idleEntry := false } }) s))
  else (stWrongState, noteCommand p 0x30 0 3 s)

/-- ACK-DORMANT (R432). -/
def podAckDormant (p arg : Nat) (s : State) : Nat × State :=
  let d := podAt s p
  if d.doze.transfers % 256 = arg % 256 then
    (stOk, noteCommand p 0x31 arg 2 (modPod p (fun d => { d with doze := { d.doze with ack := d.meter.regs.getD 12 0 } }) s))
  else (stWrongState, noteCommand p 0x31 arg 3 s)

/-- CLOCK-RC and CLOCK-SPINE (R157, R523). -/
def podClock (p : Nat) (toRc : Bool) (s : State) : Nat × State :=
  let d := podAt s p
  let code := if toRc then 0x20 else 0x21
  if !sampling d.mode ∨ (!toRc ∧ (!s.clocks.spineLocked ∨ (pinned (16 + p) s ∧ d.mux ≠ .primary))) then (stWrongState, noteCommand p code 0 3 s)
  else if toRc then
    if d.mux = .alternate ∨ d.mux = .rescueRelease then
      (stOk, noteCommand p code 0 2 (modPod p (fun d => { d with rcByCommand := true, plan := { d.plan with toSpine := false } }) s))
    else (stOk, noteCommand p code 0 1 (modPod p (fun d => { d with plan := { d.plan with toRc := true } }) s))
  else if d.mux = .primary then (stOk, noteCommand p code 0 2 s)
  else (stOk, noteCommand p code 0 1 (modPod p (fun d => { d with plan := { d.plan with toSpine := true } }) s))

/-- RESET (R216, R217, R665): it acts once the reply has left, and its completion field moves then. -/
def podResetCommand (p : Nat) (laneAnswers : Bool) (s : State) : Nat × State :=
  let s1 := noteCommand p 3 0 1 s
  (stOk, { s1 with engine := { s1.engine with resetsDue := s1.engine.resetsDue ++ [(0, .pod p laneAnswers)] } })

/-- SEAL-OPEN (R457): a protected record is reserved, a general record written. -/
def podSealOpen (p session : Nat) (s : State) : Nat × State :=
  let d := podAt s p
  match d.sealRec.code with
  | .opened => (stOk, noteCommand p 0x40 0 2 s)
  | .closing => (stWrongState, noteCommand p 0x40 0 3 s)
  | .closed =>
    if contained s 2 then (stWrongState, noteCommand p 0x40 0 3 s)
    else if auditFree s = 0 then (stAuditFull, noteCommand p 0x40 0 3 s)
    else
      let crc := calCrc d
      let s1 := modPod p (fun d => { d with sealRec := { d.sealRec with
        code := .opened, opens := wrap32 (d.sealRec.opens + 1), openStamp := s.time.stamp, session := session, crcOpen := crc } }) s
      (stOk, noteCommand p 0x40 0 2 (logAdd 0x0A p 0
        (beOctets 4 session ++ beOctets 4 crc ++ beOctets 4 (metrologistPrint s) ++ beOctets 2 (auditFree s1)) s1))

/-- SEAL-CLOSE (R459). -/
def podSealClose (p session : Nat) (s : State) : Nat × State :=
  let d := podAt s p
  match d.sealRec.code with
  | .closed => (stOk, noteCommand p 0x41 0 2 s)
  | .closing => (stWrongState, noteCommand p 0x41 0 3 s)
  | .opened =>
    if d.staged.any (fun e => sealedLoc e.1) then (stWrongState, noteCommand p 0x41 0 3 s)
    else (stOk, closeSeal p 1 session true (noteCommand p 0x41 0 1 s))

end Sys2Proof.Machine
end

