-- ==== Sys2Proof/Machine/Panel.lean ====
section
/-! DEFINITION. The panel drivers between their frames and ticks (15_panels.md): panel frames, the always-on band with blink
and autorender, Strip frames, crack probes, discharges, and the display reset of R218. Glyph bitmaps are constants of
manufacture (log 10), numbered 0-9 digits, 10 "P", 11 blank, 12 dash, 16-25 digits with a point, 32-34 units. -/

namespace Sys2Proof.Machine

/-! ### Band content (R548, R552-R556) -/

/-- Eight pixels of one glyph row in two colours, 24 bits. -/
def glyphPixels (bits fg bg : Nat) : Nat := (List.range 8).foldl (fun a i => a * 8 + (if bit bits (7 - i) then fg else bg)) 0

/-- The cells of the rendered line: glyph codes of cells 0-12, digits with the point of `d` decimals (R555). -/
def lineGlyphs (pod figure decimals : Nat) (failed : Bool) : List Nat :=
  let digit (k : Nat) : Nat := figure / 10 ^ (7 - k) % 10
  [10, pod / 10, pod % 10, 11] ++
  (List.range 8).map (fun k => if failed then 12 else digit k + (if decimals ≠ 0 ∧ k + 4 = 11 - decimals then 16 else 0)) ++ [11]

/-- The unit glyph of a register of R363. -/
def unitGlyph (register : Nat) : Nat := if register = 9 then 34 else if 5 ≤ register ∧ register ≤ 8 then 33 else 32

/-- A band row as autorender draws it; each ROM row is repeated to fill the band's height. -/
def autoRow (s : State) (height r : Nat) : Nat :=
  let colour := devVal s 0x2424 0
  let fg := colour % 8
  let bg := colour / 8 % 8
  if s.panel.autoPod = 255 then (List.range 16).foldl (fun a _ => a * 2 ^ 24 + glyphPixels 0 fg bg) 0
  else
    let row := r / height
    let cells := (lineGlyphs s.panel.autoPod s.panel.autoValue (devVal s 0x2422 0) (bit s.panel.autoFlags 0)).map (fun g => Config.glyphRow g row)
    let u := Config.glyphRow (unitGlyph (devVal s 0x2421 0)) row
    (cells ++ [u / 65536 % 256, u / 256 % 256, u % 256]).foldl (fun a b => a * 2 ^ 24 + glyphPixels b fg bg) 0

/-- The blink code's second half of a period, at a band tick counted from BOOT (R553). -/
def blinkDark (code ticks : Nat) : Bool :=
  if code = 0 then false else let half := 2 ^ code; decide (half ≤ ticks % (2 * half))

/-- A band row with the blinking cells that are dark now. -/
def blinkRow (s : State) (r row : Nat) : Nat :=
  (List.range 16).foldl (fun a c =>
    let dark := blinkDark (devVal s 0x2414 (16 * (r / 8) + c + 1)) s.panel.huskTicks
    a * 2 ^ 24 + (if dark then 0 else row / 2 ^ (24 * (15 - c)) % 2 ^ 24)) 0

/-- Autorender shows its line: enabled and not gated. -/
def autoOn (s : State) : Bool := devVal s 0x2425 0 == 1 && gateOn s 4

/-- The band rows as they are to be shown. -/
def bandContent (s : State) : List Nat :=
  let h := devVal s 0x2410 0
  (List.range (8 * h)).map (fun r => blinkRow s r (if autoOn s then autoRow s h r else devVal s 0x2412 (r + 1)))

/-- The next set Pod of a mask after Pod p, 255 for an empty mask (R556). -/
def nextShown (mask p : Nat) : Nat :=
  if mask = 0 then 255
  else ((List.range 64).map (fun k => (p + 1 + k) % 64)).find? (bit mask) |>.getD 255

/-- Autorender at a band tick: rolling, the read of each second over the lane, or the cache (R556, R557). A change of the
register is read at the tick that shows it; one of the decimals renders the last read anew. A block that is gated keeps its state and
goes on from it (R93), and so does one that is not enabled (log 51). -/
def autoTick (s : State) : State :=
  if !autoOn s then s
  else
    let mask := devVal s 0x2420 0
    let n := s.panel
    let start := if n.autoPod = 255 then 63 else n.autoPod
    let moves := n.autoPod == 255 || mask != n.autoMask || decide (8 * devVal s 0x2423 0 ≤ n.autoFor + 1)
    let p := if moves then nextShown mask start else n.autoPod
    let register := devVal s 0x2421 0
    let s1 : State := { s with panel := { n with autoPod := p, autoMask := mask, autoRegister := register, autoFor := if moves then 0 else n.autoFor + 1 } }
    let figure (i : Nat) : Nat := i / 10 ^ (6 - devVal s 0x2422 0) % 100000000
    let put (v : Nat) (stamp : Tick) (flags : Nat) (s : State) : State := { s with panel := { s.panel with autoValue := v, autoStamp := stamp, autoFlags := flags } }
    if p = 255 then s1
    else if s1.chip.state = .active ∨ s1.chip.state = .safe then
      if n.huskTicks % 8 = 0 ∨ register ≠ n.autoRegister then
        if laneSilent s1 p then put s1.panel.autoValue s1.panel.autoStamp 1 (laneFell p s1)
        else
          let v := shownValue s1 p
          put (figure v) s1.time.stamp 0 (laneDone p { s1 with panel := { s1.panel with cache := putAt s1.panel.cache p v, cacheStamp := s1.time.stamp } })
      else if moves then put (figure (s1.panel.cache.getD p 0)) s1.panel.cacheStamp 2 s1
      else put (figure (s1.panel.cache.getD p 0)) s1.panel.autoStamp s1.panel.autoFlags s1
    else put (figure (s1.panel.cache.getD p 0)) s1.panel.cacheStamp 2 s1

/-! ### Ticks and frames -/

/-- A change of the mode that the glass shows; leaving FULL blanks the rows outside the band (R542). -/
def showMode (m : Nat) (s : State) : State :=
  { s with panel := { s.panel with
      mode := m, blankRows := s.panel.blankRows || (s.panel.mode == 2 && m != 2) || m == 0,
      frp := if m = 0 then false else s.panel.frp } }

/-- The AMPIX driver may scan the panel: its block is enabled and AMPIX is not off (R535). -/
def scanMay (s : State) : Bool := gateOn s 0 && (muxAt s 3).code != .off

/-- It scans while its clock, a division of CORE, runs (R152, R185). -/
def scanRuns (s : State) : Bool := scanMay s && coreRuns s

/-- BAND_TICK (R549, R542, R547, R550, R204): while HUSK runs and the gate rails are in regulation the band is written, in FULL by the next
panel frame. -/
def execBandTick (s : State) : Host.Outcome State Fault Refusal :=
  .next (if s.chip.state = .unpowered ∨ !huskRuns s then s
    else
      let e := paneEffective s
      let n := s.panel
      let s1 : State := { s with panel := { n with ticks := wrap32 (n.ticks + 1), huskTicks := n.huskTicks + 1 } }
      let s2 := autoTick s1
      let s3 := if n.mode = 2 ∧ e = 2 then s2 else if n.mode = 2 ∧ scanMay s then s2 else showMode e s2
      if e = 3 ∨ !(bit s.power.rails 4 && bit s.power.rails 5) ∨ (s.chip.state = .boot ∧ !booted s 5) then s3
      else
        let rows := 8 * devVal s3 0x2410 0
        let place := (devVal s3 0x2411 0, rows)
        let content := if e = 0 then List.replicate rows 0 else bandContent s3
        let full := s3.panel.mode == 2
        { s3 with panel := { s3.panel with
            bandAt := if full then s3.panel.bandAt else place, bandShown := if full then s3.panel.bandShown else content,
            bandNext := if full then some (place, content) else none,
            blankRows := if s3.panel.mode = 2 then s3.panel.blankRows else false,
            frp := if e = 0 then false else if s3.panel.huskTicks % 8 = 0 then !s3.panel.frp else s3.panel.frp } })

/-- PANEL_FRAME_BOUNDARY (R536, R542, R550): a frame of full mode ends; a change of mode takes effect; the next frame writes the band rows
that a tick has marked. -/
def execPanelFrameBoundary (s : State) : Host.Outcome State Fault Refusal :=
  .next (if s.panel.mode = 2 ∧ scanRuns s = true ∧ s.panel.paneDone = false then
    let n := s.panel
    let (place, content) := n.bandNext.getD (n.bandAt, n.bandShown)
    showMode (paneEffective s) { s with panel := { n with
      frames := wrap32 (n.frames + 1), bandAt := place, bandShown := content, bandNext := none } }
    else s)

/-! ### What the Pane's balls carry (R536-R539, R543, R550, R569) -/

/-- A half-row of the frame buffer (R544, R545): zeros beyond the last. -/
def halfRow (s : State) (k : Nat) : Nat := if 127 < k then 0 else storeGet blackRow s.panel.buffer k

/-- The code of a pixel in the frame buffer: 6 bits of one colour, red 0, green 1, blue 2 (R544). -/
def pixelCode (s : State) (y x colour : Nat) : Nat := halfRow s (2 * y + x / 64) / 2 ^ (1152 - 18 * (x % 64) - 6 * (colour + 1)) % 64

/-- The memory bit of a pixel of row y in its colour (R539, R548): of a band row as shown; 0 in every other row. -/
def memoryBit (s : State) (y x colour : Nat) : Nat :=
  let n := s.panel
  if n.bandAt.1 ≤ y ∧ y < n.bandAt.1 + n.bandAt.2 then n.bandShown.getD (y - n.bandAt.1) 0 / 2 ^ (383 - 3 * x - colour) % 2 else 0

/-- The row is driven from the frame buffer: full mode, outside the band (R540, R547). -/
def fullRow (s : State) (y : Nat) : Bool :=
  s.panel.mode == 2 && !(decide (s.panel.bandAt.1 ≤ y) && decide (y < s.panel.bandAt.1 + s.panel.bandAt.2))

/-- The level of source x in mV while row y takes its levels of a colour (R538, R539): `Pane.Vcom` plus or minus the gamma entry of the
pixel's code, by the parity of source number and panel frame count; in memory mode 0 V or VB1, which is 3.3 V. -/
def sourceLevel (s : State) (x y colour : Nat) : Nat :=
  if fullRow s y then
    let g := devVal s 0x2405 (64 * colour + pixelCode s y x colour + 1)
    if (x + s.panel.frames) % 2 = 0 then devVal s 0x2404 0 + g else devVal s 0x2404 0 - g
  else 3300 * memoryBit s y x colour

/-- The level of `PNL_VCOM` in mV (R538, R542, R569): 0 V while the Pane is off or discharged. -/
def vcomLevel (s : State) : Nat := if s.panel.mode = 1 ∨ s.panel.mode = 2 ∨ s.panel.paneDischarge = true then devVal s 0x2404 0 else 0

/-- At a cycle of a line slot (R536): the gate is at VGH; the colour whose demultiplexer control is on; the colour of the levels
that the sources hold. -/
def lineSlot (s : State) (cycle : Nat) : Bool × Option Nat × Nat :=
  let p := devVal s 0x2403 3
  let n := devVal s 0x2403 4
  (decide (cycle < 4 * n + 3 * p),
   (List.range 3).find? (fun c => decide ((c + 1) * n + c * p ≤ cycle ∧ cycle < (c + 1) * n + (c + 1) * p)),
   if cycle < n + p then 0 else if cycle < 2 * n + 2 * p then 1 else 2)

/-- The same at a HUSK cycle of a band row that the Husk domain writes (R550). -/
def bandSlot (cycle : Nat) : Bool × Option Nat × Nat :=
  (decide (cycle < 7), (List.range 3).find? (fun c => decide (2 * c + 1 ≤ cycle ∧ cycle < 2 * c + 3)), min 2 ((cycle - 1) / 2))

/-- Microseconds of a Pane discharge at which its gates stand at VGH; from 1.7 ms on the gate rails follow to ground (R569). -/
def dischargeGates (micros : Nat) : Bool := decide (micros < 1700)

/-- The front-light current in uA (R543). -/
def frontLight (s : State) : Nat := 200 * paneLevelNow s

/-- The grey levels of the Strip's 768 pixels, summed (R560, R561). -/
def greySum (s : State) : Nat :=
  (List.range 8).foldl (fun a r => (beOctets 48 (devVal s 0x2484 (r + 1))).foldl (fun a o => a + o / 16 + o % 16) a) 0

/-- The step length of a frame (R561). -/
def stepLength (current grey : Nat) : Nat := if 1774285 < current * grey then 112 * 1774285 / (current * grey) else 112

/-- STRIP_FRAME (R561, R562): the Strip lights or goes dark at a frame boundary; the limiter acts for the frame. Its clock is a division of
CORE (R152). -/
def execStripFrame (s : State) : Host.Outcome State Fault Refusal :=
  .next (if !coreRuns s then s else if stripMay s && s.panel.wantLit then
    let x := stepLength (devVal s 0x2481 0) (greySum s)
    let limited := decide (1774285 < devVal s 0x2481 0 * greySum s)
    { s with panel := { s.panel with
        lit := true, step := x, stripTicks := s.panel.huskTicks, stripFrames := wrap32 (s.panel.stripFrames + 1),
        limited := if limited then wrap32 (s.panel.limited + 1) else s.panel.limited } }
    else { s with panel := { s.panel with lit := false } })

/-- A grey level of the Strip now shown at column x of row r: none in a region's dark half (R563). -/
def stripGrey (s : State) (r x : Nat) : Nat :=
  let codes := ((List.range 4).map (fun k => devVal s 0x2485 (k + 1))).filter
    (fun v => v / 65536 % 4 != 0 && decide (v % 128 ≤ x ∧ x ≤ v / 256 % 128))
  let code := codes.foldl (fun a v => if a = 0 then v / 65536 % 4 else min a (v / 65536 % 4)) 0
  let o := (beOctets 48 (devVal s 0x2484 (r + 1))).getD (x / 2) 0
  if !s.panel.lit || blinkDark code s.panel.stripTicks then 0 else if x % 2 = 0 then o / 16 else o % 16

/-- What column x does at a cycle of the slot of row r (R558, R562): 0 pulled to ground, 1 driven to the precharge level, with it in mV, 2
sourcing, with its current in uA, 3 off. -/
def stripColumn (s : State) (r x cycle : Nat) : Nat × Nat :=
  if !s.panel.lit then (3, 0)
  else if cycle < 32 then (0, 0)
  else if cycle < 32 + devVal s 0x2483 0 then (1, 250 * devVal s 0x2482 0)
  else if 128 ≤ cycle ∧ cycle < 128 + stripGrey s r x * s.panel.step then (2, devVal s 0x2481 0)
  else (3, 0)

/-! ### Crack loops (R565-R568) -/

/-- One test of a loop: two failures in a row raise its source, two passes in a row clear it. -/
def crackTest (source : Nat) (fails : Bool) (run : Nat) (good : Nat) (s : State) : State :=
  if fails then (if 2 ≤ run then raise .disp 0 source 0 s else s)
  else if 2 ≤ good then clearCause .disp 0 source s else s

/-- A probe that ended: its verdict and its counts. -/
def crackVerdict (c : Crack) (loop ground : Nat) (stamp : Tick) : Crack :=
  let open_ := decide (2000 < loop)
  let short := decide (ground < 5)
  { c with
    verdict := if open_ && short then 4 else if open_ then 2 else if short then 3 else 1, loop := loop, ground := ground, stamp := stamp,
    failing := if open_ || short then min 255 (c.failing + 1) else 0, completed := wrap32 (c.completed + 1),
    openRun := if open_ then c.openRun + 1 else 0, openGood := if open_ then 0 else c.openGood + 1,
    shortRun := if short then c.shortRun + 1 else 0, shortGood := if short then 0 else c.shortGood + 1 }

/-- Probes run in ACTIVE and SAFE, and from B6 in BOOT, with their block enabled (R566). -/
def probesRun (s : State) : Bool :=
  gateOn s 6 && (s.chip.state == .active || s.chip.state == .safe || (s.chip.state == .boot && booted s 6))

/-- CRACK_PROBE (R565-R567); readings saturate at 4 095. -/
def execCrackProbe (onStrip : Bool) (loop ground : Nat) (ended : Bool) (s : State) : Host.Outcome State Fault Refusal :=
  let c := if onStrip then s.panel.strip else s.panel.pane
  let put (c : Crack) (s : State) : State := { s with panel := if onStrip then { s.panel with strip := c } else { s.panel with pane := c } }
  .next (if !probesRun s then s
    else if !ended then put { c with postponed := wrap32 (c.postponed + 1) } s
    else
      let l := min 4095 loop
      let g := min 4095 ground
      let c1 := crackVerdict c l g s.time.stamp
      let base := if onStrip then 3 else 1
      let s1 := crackTest base (decide (2000 < l)) c1.openRun c1.openGood (put c1 s)
      crackTest (base + 1) (decide (g < 5)) c1.shortRun c1.shortGood s1)

/-! ### Discharges and the display reset (R218, R569-R571) -/

/-- Both drivers reinitialise from their values in effect, frame buffers zero, probing restarts. -/
def displayReinit (s : State) : State :=
  let restart (c : Crack) : Crack := { c with openRun := 0, shortRun := 0, openGood := 0, shortGood := 0, failing := 0 }
  let s1 : State := clearStripData { s with panel := { s.panel with
    displayReset := false, paneDone := false, stripDone := false, buffer := [], bandShown := [], bandNext := none, mode := 0,
    pane := restart s.panel.pane, strip := restart s.panel.strip } }
  displayWatch (resetExit .disp 0 s1)

/-- A display reset begins (R218): its discharges run. -/
def displayResetRun (s : State) : State :=
  displayWatch { s with panel := { s.panel with displayReset := true, paneDischarge := true, stripDischarge := true, lit := false, wantLit := false } }

def dischargesEnd (s : State) : State :=
  if s.panel.displayReset && !s.panel.paneDischarge && !s.panel.stripDischarge && s.chip.state != .unpowered then
    displayReinit s
  else displayWatch s

/-- PANE_DISCHARGE_END (R569). -/
def execPaneDischargeEnd (s : State) : Host.Outcome State Fault Refusal :=
  .next (if s.panel.paneDischarge then
    let s1 : State := { s with panel := { s.panel with paneDischarge := false, paneDone := true, mode := 3, frp := false, bandShown := [] } }
    dischargesEnd (if s1.chip.state = .hold then holdStep 3 s1 else s1)
    else s)

/-- STRIP_DISCHARGE_END (R570). -/
def execStripDischargeEnd (s : State) : Host.Outcome State Fault Refusal :=
  .next (if s.panel.stripDischarge then
    let s1 : State := { s with panel := { s.panel with stripDischarge := false, stripDone := true, lit := false } }
    dischargesEnd (if s1.chip.state = .hold then holdStep 4 s1 else s1)
    else s)

end Sys2Proof.Machine
end

