-- ==== Sys2Proof/Machine/Reads.lean ====
section
/-! DEFINITION. What every object reads (18_device_objects.md, 19_pod_objects.md): the value in effect of a writable object,
the present reading of every other, in the raw encoding of its type (R51), and the octets of a read (R49, R50, R94). -/

namespace Sys2Proof.Machine

/-! ### Places (R45, R648, R660) -/

/-- An object that an index names: the Pod for a Pod-level one, and its row. -/
structure Place where
  pod : Option Nat
  obj : Obj
deriving DecidableEq, Repr

def findPlace (index : Nat) : Option Place :=
  if 0x4000 ≤ index ∧ index < 0x8000 then (podObj (index % 256)).map (fun o => ⟨some ((index - 0x4000) / 256), o⟩)
  else (deviceObj index).map (fun o => ⟨none, o⟩)

/-- The type code of an answer (R51, R607) and its length; a whole object is 0x12 (R50). -/
def Obj.isKey (o : Obj) : Bool := o.index == 0x1210 || o.index == 0x1211 || o.index == 0x1212

/-- A lane-served object: Pod-level and not held by the hub (R661). -/
def Place.laneServed (x : Place) : Bool := x.pod.isSome && !x.obj.hub

/-! ### Encodings -/

/-- An energy in 2^-40 of a register LSB as the 96 bits of ENERGY (R51). -/
def energyRaw (e : Nat) : Nat := e / 256 % 2 ^ 96

def i16 (v : Int) : Nat := rawOf 16 v
def i32 (v : Int) : Nat := rawOf 32 v
def i64 (v : Int) : Nat := rawOf 64 v

/-- Field `sub` of a record, counted from 1. -/
def field (xs : List Nat) (sub : Nat) : Nat := xs.getD (sub - 1) 0

/-! ### Link and engine objects -/

/-- The last intrusions within one second (R591). -/
def recentIntrusions (s : State) : Nat := (s.link.intrusions.filter (fun t => decide (s.time.stamp < t + 65536000))).length

/-- `Link.State` (R588). BRC is locked only while a frame is received (R597), and a frame takes no time here (log 14). -/
def linkState (s : State) : List Nat :=
  let l := s.link
  [l.code.code, effectiveNode s, l.control, l.beaconStamp, l.cycle, l.causes,
   b2n (decide (16 ≤ l.unreached)) + 4 * b2n (decide (1 ≤ recentIntrusions s)), l.queue.length, l.stateStamp]

/-- An element of `Gz.Requesters` (R614). -/
def requesterOctets (s : State) (k : Nat) : List Nat :=
  let q := s.engine.slots.getD k .empty
  if !q.used then List.replicate 16 0
  else
    let level := match q.session with | some x => x.level | none => 0
    let number := match q.session with | some x => x.number | none => 0
    let unset := match q.session with | some x => x.unset | none => false
    let holds := s.engine.subs.toList.any (fun x => x.active && x.owner == k)
    beOctets 6 q.mac ++ beOctets 2 q.node ++
      [q.tag, level, b2n q.session.isSome + 2 * b2n unset + 4 * b2n q.opening.isSome + 8 * b2n holds, 0] ++ beOctets 4 number

/-- An element of `Gz.ReplyCache` (R617): entry e of slot k. The payload of a fragment is its octets after 26. -/
def cacheOctets (s : State) (k e : Nat) : List Nat :=
  match (s.engine.slots.getD k .empty).cache[e]? with
  | none => 0xFF :: List.replicate 7 0
  | some c =>
    let payload := c.frames.foldl (fun a f => a + beValue ((f.drop 24).take 2)) 0
    [k, if c.complete then 2 else 1] ++ beOctets 2 c.tid ++ [c.service, c.frames.length] ++ beOctets 2 payload

/-- An element of `Gz.SubTable` (R637). -/
def subOctets (x : Sub) : List Nat :=
  if !x.active then List.replicate 7 0 ++ [0xFF] ++ List.replicate 64 0
  else
    let b := x.body
    let addrs := (b.addrs.map (fun a => beOctets 2 a.1 ++ [a.2])).flatten
    [b.number, b.kind, b.flags, b.pod] ++ beOctets 2 b.period ++ [b.addrs.length, x.owner] ++ beOctets 8 b.mask.toNat ++
      (addrs ++ List.replicate (48 - addrs.length) 0) ++ beOctets 4 x.sent ++ beOctets 2 x.misses ++ beOctets 2 x.replaced

/-- A key as it reads: its fingerprint (R67). -/
def keyRead (s : State) (index : Nat) : Nat := fingerprint (index - 0x120F) (s.dict.keys.getD (index - 0x1210) none)

def linkRead (s : State) (index sub : Nat) : Nat :=
  if index = 0x1000 then 0x6430
  else if index = 0x1001 then
    field [Config.siliconRevision % 65536, 0x0100, Config.romVersion % 65536, Config.serialNumber % 2 ^ 64, Config.manufactureDate % 2 ^ 32, 64] sub
  else if index = 0x1100 then field (linkState s) sub
  else if index = 0x1107 then Config.macAddress % 2 ^ 48
  else if index = 0x1110 then s.chip.straps.node.toNat
  else if index = 0x1203 then beValue (requesterOctets s (sub - 1))
  else if index = 0x1204 then beValue (cacheOctets s ((sub - 1) / 8) ((sub - 1) % 8))
  else if index = 0x1210 ∨ index = 0x1211 ∨ index = 0x1212 then keyRead s index
  else if index = 0x1230 then
    field [s.engine.evSeq, s.engine.outstanding.length, s.engine.events.length, s.engine.evDropped, s.engine.evUnacked] sub
  else if index = 0x1300 then beValue (subOctets (s.engine.subs.getD (sub - 1) .empty))
  else devVal s index sub

/-! ### Power and clocks -/

def decisionFields (d : Decision) : List Nat := [d.stamp, d.trigger, d.pod, d.outcome, d.leaned, d.refused, d.level]

def powerRead (s : State) (index sub : Nat) : Nat :=
  let p := s.power
  if index = 0x2000 then p.cls
  else if index = 0x2001 then p.trunk % 65536
  else if index = 0x2002 then p.vhold % 65536
  else if index = 0x2003 then b2n p.ready
  else if index = 0x2004 then i16 (if sub = 1 then p.hubTemp else p.powerTemp)
  else if index = 0x2006 then railStatus s
  else if index = 0x2007 then p.capMeasured % 65536
  else if index = 0x2008 then managedBudget s % 65536
  else if index = 0x2009 then field [podsCharge s, paneChargeNow s, stripCharge s, totalCharge s] sub % 65536
  else if index = 0x2013 then paneLevelNow s
  else if index = 0x2018 then field (decisionFields p.decision) sub
  else if index = 0x2019 then p.decisions
  else if index = 0x2020 then field [p.lastHold.stamp, p.lastHold.mv % 65536, p.lastHold.steps, p.lastHold.outcome] sub
  else devVal s index sub

/-- `Clk.QualCount` (R141, R142): the whole count of a qualified source, the count so far of one that oscillates, also where a
qualified source's detector dropped out and its count began again. -/
def qualCountNow (s : State) (k : Nat) : Nat :=
  let o := oscAt s k
  if o.code = .qualified ∧ o.count ≠ 0 then o.count
  else if o.oscillating ∧ o.code ≠ .off then
    min (Config.qualCycles k s.time.elapsed % qualCount k) (mostCycles (sourceRate k).1 (sourceRate k).2 (s.time.elapsed - o.startedAt))
  else 0

def clockRead (s : State) (index sub : Nat) : Nat :=
  let c := s.clocks
  if index = 0x2100 then c.command
  else if index = 0x2101 then (muxAt s (sub - 1)).code.code
  else if index = 0x2102 then (oscAt s (sub - 1)).code.code
  else if index = 0x2103 then qualCountNow s (sub - 1)
  else if index = 0x2106 then c.frac
  else if index = 0x2107 then spineState s
  else if index = 0x2109 then i32 c.freqError
  else if index = 0x2114 then (muxAt s (sub - 1)).rescues
  else devVal s index sub

/-! ### Shell -/

/-- `Shell.State` (R470, R479). -/
def shellState (s : State) : Nat :=
  match s.shell.run with
  | some r => r.phase
  | none => if liveSlots s = 0 then 4 else 0

/-- Items that wait in the write queue: one for each frame held (R477). -/
def heldLevel (s : State) : Nat :=
  (s.engine.frames.filter (·.held)).length + (match s.engine.running with | some r => b2n r.held | none => 0)

def logOctets (r : LogRec) : List Nat :=
  beOctets 4 r.seq ++ [r.kind, r.inst] ++ beOctets 2 r.detail ++ beOctets 8 r.stamp ++ r.payload

/-- An element of `Shell.LogWindow` for a record index (R498). -/
def logElement (s : State) (index : Nat) : List Nat :=
  let put (status : Nat) (os : List Nat) : List Nat := beOctets 2 index ++ [status, 0] ++ os
  let valid (os : List Nat) : List Nat := put 1 (os ++ beOctets 4 (crc32c os))
  let damaged : List Nat := put 2 (beOctets 36 (Config.damagedRecord index))
  if 1023 < index then put 3 (List.replicate 36 0)
  else if index < 768 then
    match s.shell.general.find? (fun e => e.1 == index) with
    | some e => if e.2.damaged then damaged else valid (logOctets e.2)
    | none => put 0 (List.replicate 36 0xFF)
  else match s.shell.audit[index - 768]? with
    | some e => if e.damaged then damaged else valid e.octets
    | none => put 0 (List.replicate 36 0xFF)

/-- `Shell.LogStatus` (R498). -/
def logStatus (s : State) : List Nat :=
  let g := s.shell.general
  let a := s.shell.audit
  let bad := (g.filter (fun e => e.2.damaged)).length
  [s.shell.nextIndex, s.shell.logSeq, g.length - bad, bad, a.length, (a.filter (·.damaged)).length, s.shell.lostSinceBoot]

/-- The bank that holds the newer verifying header, with `Shell.SnapInfo`'s fields. -/
def snapInfo (s : State) : List Nat :=
  let a := bankAt s 0
  let b := bankAt s 1
  if !a.good && !b.good then [0xFF, 0, 0, 0, 0]
  else
    let k := 1 - nextBank s
    let x := bankAt s k
    [k, x.seq, x.trigger, x.stamp, x.mask]

def lastStoreFields (l : LastStore) : List Nat := [l.reason, l.reasons, l.slot, l.seq, l.stamp, l.micros, l.outcome, l.missed]

def recallFields (r : RecallRec) : List Nat := [r.outcome, r.slot, r.seq, r.highest, r.failed, r.fromBank, r.badRecords, r.gaps]

def shellRead (s : State) (index sub : Nat) : Nat :=
  let h := s.shell
  let slot := slotAt s (sub - 1)
  if index = 0x2200 then h.command
  else if index = 0x2202 then shellState s
  else if index = 0x2203 then
    field [liveSlots s, (newestOf headerVerifies s).getD 0xFF, highestSeq s, heldLevel s, h.queuePeak, h.busy, h.stores, h.failures, h.pending] sub
  else if index = 0x2204 then field (lastStoreFields h.last) sub
  else if index = 0x2205 then field (recallFields h.recallRec) sub
  else if index = 0x2206 then slot.seq
  else if index = 0x2207 then slotState slot
  else if index = 0x2208 then slot.wear
  else if index = 0x2209 then slot.stamp
  else if index = 0x220A then slot.reason
  else if index = 0x2210 then field (snapInfo s) sub
  else if index = 0x2211 then h.gapCount
  else if index = 0x2212 then field [h.lastGap.pod, h.lastGap.cause, h.lastGap.start, h.lastGap.stop, energyRaw h.lastGap.bound, h.lastGap.flags] sub
  else if index = 0x2213 then h.gaps.length
  else if index = 0x2220 then auditFree s
  else if index = 0x9001 then beValue (logElement s (devVal s 0x9000 0 + (sub - 1)))
  else if index = 0x9002 then field (logStatus s) sub
  else devVal s index sub

/-! ### Guard -/

def historyRaw (es : List HistEntry) (k : Nat) : Nat :=
  match es[k]? with
  | some e => beValue (histOctets e)
  | none => 0

/-- Lockstep compares since BOOT (R500, R532): one in each GUARD RC cycle, so no more than those of an RC that is 3 % fast. -/
def lockstepNow (s : State) : Nat :=
  min (Config.lockstepCompares s.time.elapsed) (mostCycles (sourceRate 4).1 (sourceRate 4).2 (s.time.elapsed - s.chip.bootAt))

def guardRead (s : State) (index sub : Nat) : Nat :=
  let g := s.guard
  if index = 0x2300 then g.command
  else if index = 0x2301 then classLevel s sub
  else if index = 0x2302 then levelCode (instAt s (8 + (sub - 1))).level
  else if index = 0x2303 then (List.range 8).foldl (fun a k => putBit a k (classUnacked s (k + 1))) 0
  else if index = 0x2304 then podList.foldl (fun a p => if (instAt s (8 + p)).unacked then a + 2 ^ p else a) 0
  else if index = 0x2309 then min 255 (classRecovery s sub)
  else if index = 0x230A then min 255 (instAt s (8 + (sub - 1))).recoveries
  else if index = 0x230B then
    (match g.safe with
     | some x => field [x.1, x.2.1, x.2.2.1, x.2.2.2.1, x.2.2.2.2] sub
     | none => 0)
  else if index = 0x230C then (if sub = 1 then g.corrected else lockstepNow s % 2 ^ 64)
  else if index = 0x230D then g.raises.getD (sub - 1) 0
  else if index = 0x2310 then historyRaw g.history (sub - 1)
  else devVal s index sub

/-! ### Panels -/

def crackFields (c : Crack) : List Nat := [c.verdict, c.loop, c.ground, c.stamp, c.failing, c.postponed, c.completed]

/-- The measured panel frame rate in 0.01 Hz (R536, R541): AMPIX by its source, off by the accuracy of R139 and slowed by half the spread
(R176, R572), over the cycles of a frame; where in that range is free. While no frame is scanned the spec states no reading (log 5). -/
def paneRateNow (s : State) : Nat :=
  let alt := (muxAt s 3).code == .alternate
  let hz := if alt then 24000000 else 50000000
  let ppm := if alt then 10000 else 50
  let spread := devVal s 0x2111 0 % 16 * 1250
  let frame := devVal s 0x2112 (if alt then 2 else 1) * devVal s 0x2403 1 * (64 + devVal s 0x2403 2) * 10000
  let low := hz * (1000000 - ppm - spread) / frame
  let high := hz * (1000000 + ppm - spread) / frame + 1
  let free := Config.paneRate s.time.elapsed
  if s.panel.mode = 2 ∧ scanRuns s = true then low + free % (high + 1 - low) else free % 65536

/-- `Strip.State` sub-index 0x02: bit 7 for a request not yet granted (R562). -/
def stripDark (s : State) : Nat := stripCauses s + 128 * b2n (devVal s 0x2480 0 == 1 && !s.panel.wantLit)

def panelRead (s : State) (index sub : Nat) : Nat :=
  let n := s.panel
  if index = 0x2402 then field [paneEffective s, paneCauses s, n.frames, n.ticks, paneRateNow s] sub
  else if index = 0x2407 then halfRow s (devVal s 0x2406 0 + (sub - 1))
  else if index = 0x2426 then field [if autoOn s then n.autoPod else 0xFF, n.autoValue, n.autoStamp, n.autoFlags] sub
  else if index = 0x2486 then field [b2n n.lit, stripDark s, n.step, n.limited, n.stripFrames] sub
  else if index = 0x24C1 then field (crackFields n.pane) sub
  else if index = 0x24C2 then field (crackFields n.strip) sub
  else devVal s index sub

/-! ### Time, chip, observation -/

/-- Device-level objects from 0x2500. DESIGN CHOICE (log 48): `Time.LastOffset` saturates where an offset leaves its 32 bits. -/
def chipRead (s : State) (index sub : Nat) : Nat :=
  let c := s.chip
  let t := s.time
  if index = 0x2501 then t.stamp % 2 ^ 64
  else if index = 0x2502 then timeQuality s
  else if index = 0x2505 then i32 (clampInt (-2147483648) 2147483647 t.lastOffset)
  else if index = 0x2506 then t.gapCount
  else if index = 0x2507 then field [t.lastGap.kind, t.lastGap.before, t.lastGap.after, t.lastGap.uncertainty] sub
  else if index = 0x2508 then t.rejects
  else if index = 0x2600 then c.command
  else if index = 0x2601 then c.state.code
  else if index = 0x2603 then gateMap s
  else if index = 0x2604 then c.activeGen
  else if index = 0x2605 then c.stagedGen
  else if index = 0x2606 then c.commitCount
  else if index = 0x2607 then c.commitResult
  else if index = 0x2608 then field [c.causeKind, c.causeState, c.causeStamp, c.causeClass] sub
  else devVal s index sub

def observeRead (s : State) (index sub : Nat) : Nat :=
  let o := s.obs
  if index = 0x8004 then o.gated
  else if index = 0x8010 then s.link.counters.getD (sub - 1) 0
  else if index = 0x8011 then s.engine.counters.getD (sub - 1) 0
  else if index = 0x8012 then o.hub.getD (sub - 1) 0
  else if index = 0x8101 then field [o.emitted, o.lost, b2n ((muxAt s 5).code == .alternate), o.lostStamp] sub
  else devVal s index sub

/-- The value of a device-level element. -/
def deviceRead (s : State) (index sub : Nat) : Nat :=
  if index < 0x2000 then linkRead s index sub
  else if index < 0x2100 then powerRead s index sub
  else if index < 0x2200 then clockRead s index sub
  else if index < 0x2300 then shellRead s index sub
  else if index < 0x2400 then guardRead s index sub
  else if index < 0x2500 then panelRead s index sub
  else if index < 0x8000 then chipRead s index sub
  else if index < 0x9000 then observeRead s index sub
  else shellRead s index sub

/-! ### Pod objects -/

/-- The Pod with its staged values in place of those in effect (R64). -/
def Pod.asStaged (d : Pod) : Pod := { d with values := storePutAll podDefault d.values d.staged }

/-- The entries that convert in LEAN, where the Pod is in LEAN. -/
def keptNow (d : Pod) : Option (List Nat) := if d.mode = .lean then some (keptEntries d.seqA) else none

/-- `Pod.GroupDelay` of a channel (R331). -/
def groupDelay (d : Pod) (c : Nat) : Nat :=
  let used := if c < 16 then entryUsed (d.seqA.getD c 0) else (bEntry d (c - 16)).isSome
  if used then chanDelay2 (chanResp d c) (chanAvg d c) * 256 else 0

/-- `Pod.PlausState` sub-index 0x01 (R259); the converters of a Pod that does not sample are off (R36). -/
def plausStatusNow (d : Pod) : Nat :=
  if d.val 0x24 0 ≠ 2 ∨ bOff d ∨ !sampling d.mode ∨ d.powering.isSome then 0
  else match d.shared with
    | none => 1
    | some k =>
      let valid (c : Nat) : Bool := (d.chans.getD c .reset).fine.valid
      if valid k && valid (16 + k) && d.conv.plausStatus != 0 then d.conv.plausStatus else 2

/-- `Pod.ChanSample` of a channel (R329). -/
def chanSample (d : Pod) (c : Nat) : List Nat :=
  let ch := d.chans.getD c .reset
  [i32 ch.fine.value, ch.fine.stamp, b2n ch.fine.valid, if ch.fine.valid then 0 else settleCount d c - ch.outputs, i32 ch.pip.value, ch.pip.stamp,
   b2n ch.fine.saturated + 2 * b2n ch.pip.saturated + 4 * b2n (!ch.pip.valid && decide (0 < ch.pip.stamp)),
   if chanResp d c = 3 then i32 ch.quad else 0]

/-- `Pod.FilterSnap` of a channel (R330): the 40 bits of each register above the model's fraction bits (log 12). -/
def filterSnap (d : Pod) (c : Nat) : List Nat :=
  let ch := d.chans.getD c .reset
  let reg (v : Int) : Nat := i64 (v / 1048576)
  (ch.integrators.toList.map reg) ++ (ch.combs.toList.map reg) ++
    [wrap32 ch.outputs, if chanResp d c = 5 ∨ chanResp d c = 7 then i64 (iirShown (chanResp d c) ch) else 0, d.marker]

def chanValid (d : Pod) : Nat := (List.range 32).foldl (fun a c => putBit a c (d.chans.getD c .reset).fine.valid) 0

/-- `Pod.WindowInfo` (R347). -/
def windowFields (w : WindowRec) : List Nat := [w.seq, w.start, w.stop, w.cycles, w.marks, w.error, w.clipped, w.coarse]

/-- `Pod.HarmInfo` (R385). -/
def harmFields (d : Pod) : List Nat :=
  let h := d.harm.info
  let i := d.val 0x92 0
  [h.seq, h.start, h.stop, h.cycles, h.marks, h.status, h.valid, h.highest.getD i 0, h.published, i]

/-- `Pod.Phasor` (R392). -/
def phasorFields (d : Pod) : List Nat :=
  let h := d.harm
  [h.phasorT, h.phasorQuality, h.phasorMarks, h.phasorFreq] ++ h.phasorMag.toList ++ h.phasorAngle.toList.map i32

/-- `Pod.EventActive` (R407). -/
def eventActive (d : Pod) : Nat := (List.range 16).foldl (fun a b => putBit a b (d.events.active.any (fun e => e.kind == b + 1))) 0

/-- `Pod.EventLast` (R407). -/
def eventFields (e : EventRec) : List Nat := [e.stamp, e.kind, e.edge, e.input, e.flags, i32 e.value, e.aux, e.seq]

/-- `Pod.DozeInfo` (R426); a saturated cycle shows at once (R415). -/
def dozeFields (s : State) (d : Pod) : List Nat :=
  let z := d.doze
  let idle := match d.events.idleFrom with
    | some t => min 65535 ((s.time.stamp - t) / 65536000)
    | none => 0
  [z.armedAt, z.entry, z.tripAt, z.endAt, z.exit, z.latency, z.transfers, idle, if z.saturated then setBit z.flags 0 else z.flags]

/-- `Pod.PlsState` (R444): paused while PULSE has no SPINE (R449). -/
def pulseFields (s : State) (d : Pod) : List Nat :=
  let p := d.pulse
  [wrap32 (p.acc / 1000000), p.owed, pulseFlags d (!s.clocks.spineLocked), p.lastEdge, p.width]

/-- `Pod.PlsResidue` (R447). -/
def residueFields (d : Pod) : List Nat :=
  let p := d.pulse
  [p.residueCause, p.residueStamp, p.residueSource, p.residueEnergy % 2 ^ 96, p.residuePulses, p.residueTotal, b2n p.residueUnknown]

/-- `Pod.SealInfo` (R463). -/
def sealFields (s : State) (d : Pod) : List Nat :=
  let x := d.sealRec
  let left := if x.code = .opened then (x.openStamp + d.val 0xCA 0 * 65536000 - s.time.stamp) / 65536000 else 0
  [x.opens, x.openStamp, x.closeStamp, x.cause, x.session, x.index, x.crcClose, left]

/-- Whole seconds of quiet that remain, a part counting as one; 0 while a cause is present (R525, R672). -/
def quietLeft (s : State) (i : Inst) : Nat :=
  match i.contain with
  | some x => if x.quiet && !i.occs.any (fun o => !o.causes.isEmpty) then (x.since + x.seconds * 65536000 - s.time.elapsed + 65535999) / 65536000 else 0
  | none => 0

/-- `Pod.FaultState` (R672). -/
def faultFields (s : State) (p : Nat) : List Nat :=
  let i := instAt s (8 + p)
  let mode := match i.contain with | some x => b2n x.quiet | none => 0xFF
  [levelCode i.level, b2n i.unacked, min 255 i.occs.length, i.lastSource, (match (s.guard.podHistory.getD p []) with | e :: _ => e.stamp | [] => 0),
   min 255 i.recoveries, mode, min 65535 (quietLeft s i), b2n ((podAt s p).wake == some 9)]

/-- `Pod.MonitorCount` (R677): gate counts are measured; a count reads 0 while the POD mux is not PRIMARY. -/
def monitorFields (s : State) (p : Nat) (d : Pod) : List Nat :=
  let gate (k : Nat) : Nat := if d.mux = .primary then Config.podGate p k s.time.elapsed % 65536 else 0
  [gate 1, gate 2, gate 3, d.faults.monStamp]

/-- Locals 0x00 to 0x13: control, state and inputs. -/
def controlRead (d : Pod) (loc sub : Nat) : Nat :=
  if loc = 0x00 then d.mode.code
  else if loc = 0x01 then d.command
  else if loc = 0x02 then d.activeGen
  else if loc = 0x03 then d.stagedGen
  else if loc = 0x04 then d.mux.code
  else if loc = 0x05 then d.framePeriod
  else if loc = 0x07 then field [d.prevMode, d.changeStamp, d.changeCause, d.changes] sub
  else if loc = 0x08 then field [d.restartStored, d.restartState, d.restartStamp, d.restartSource, d.restartSeq, d.restartGap] sub
  else if loc = 0x11 then gainNow d (sub - 1)
  else if loc = 0x13 then d.conv.cm
  else d.val loc sub

/-- Locals 0x20 to 0x5F: sequences, slices, filter chain, calibration. -/
def chainRead (d : Pod) (p loc sub : Nat) : Nat :=
  let c := d.conv
  if loc = 0x22 then seqTiming d.seqA d.seqB (bOff d) d.shared (keptNow d) (sub - 1)
  else if loc = 0x23 then groupLoad d.seqA d.seqB (bOff d) d.shared (keptNow d) (sub - 1)
  else if loc = 0x28 then field [plausStatusNow d, c.plausCount, c.plausD, c.plausL, c.plausStamp, c.plausSkipped] sub
  else if loc = 0x30 then i16 (c.offset.getD (sub - 1) 0)
  else if loc = 0x31 then i16 (c.gain.getD (sub - 1) 0)
  else if loc = 0x32 then i16 (c.skew.getD (sub - 1) 0)
  else if loc = 0x33 then i16 (c.residual.getD (sub - 1) 0)
  else if loc = 0x34 then c.solves
  else if loc = 0x38 then field [Config.factoryRatio p % 2 ^ 32, c.refRatio % 2 ^ 32, c.refSlice, i32 c.refDeviation, c.refStamp, c.refDefer] sub
  else if loc = 0x44 then chanValid d
  else if loc = 0x46 then field (chanSample d (d.val 0x45 0)) sub
  else if loc = 0x47 then field (filterSnap d (d.val 0x45 0)) sub
  else if loc = 0x48 then groupDelay d (sub - 1)
  else if loc = 0x55 then calCrc d
  else d.val loc sub

/-- A quantity, register or sub-index of a phase that the wiring does not form (R333). -/
def unformed (d : Pod) (loc sub : Nat) : Bool :=
  let of (ph : Nat) : Bool := decide (ph < 3) && !(formedPhases d).contains ph
  if 0x60 ≤ loc ∧ loc ≤ 0x68 then of (sub - 1)
  else if 0x89 ≤ loc ∧ loc ≤ 0x8B then of (loc - 0x89)
  else loc == 0x8E && decide (10 ≤ sub) && of (sub - 10)

/-- Locals 0x60 to 0x8E: quantities and energy registers. -/
def meterRead (d : Pod) (loc sub : Nat) : Nat :=
  let m := d.meter
  let k := sub - 1
  if unformed d loc sub then 0
  else if loc = 0x60 then m.urms.getD k 0
  else if loc = 0x61 then m.irms.getD k 0
  else if loc = 0x62 then m.urmsHalf.getD k 0
  else if loc = 0x63 then m.irmsHalf.getD k 0
  else if loc = 0x64 then i32 (m.p.getD k 0)
  else if loc = 0x65 then i32 (m.p1.getD k 0)
  else if loc = 0x66 then i32 (m.q1.getD k 0)
  else if loc = 0x67 then m.s.getD k 0
  else if loc = 0x68 then i32 (m.pf.getD k 0)
  else if loc = 0x69 then m.freq
  else if loc = 0x6A then m.source
  else if loc = 0x6B then field (windowFields m.window) sub
  else if loc = 0x6C then field [wrap32 m.halves, m.halfStamp, m.halfKind, m.halfMarks] sub
  else if loc = 0x6D then energyRaw m.coarse
  else if loc = 0x6E then field d.load.shown.toList sub
  else if 0x80 ≤ loc ∧ loc ≤ 0x8D then energyRaw (m.regs.getD (loc - 0x80) 0)
  else if loc = 0x8E then (if sub = 15 then m.lastBooking else energyRaw (m.regs.getD k 0))
  else d.val loc sub

/-- Locals 0x90 to 0xBA: harmonics, phasors, events, doze. -/
def analysisRead (s : State) (d : Pod) (loc sub : Nat) : Nat :=
  let h := d.harm
  if loc = 0x93 then field (harmFields d) sub
  else if loc = 0x94 then (h.mags.getD (d.val 0x92 0) []).getD (sub - 1) 0
  else if loc = 0x95 then i16 ((h.phases.getD (d.val 0x92 0) []).getD (sub - 1) 0)
  else if loc = 0x96 then h.thd.getD (sub - 1) 0
  else if loc = 0x98 then field (phasorFields d) sub
  else if loc = 0xA7 then eventActive d
  else if loc = 0xA8 then field (eventFields d.events.last) sub
  else if loc = 0xA9 then d.events.queue.length
  else if loc = 0xB5 then d.doze.sentinel.code
  else if loc = 0xB6 then d.doze.ticks % 2 ^ 64
  else if loc = 0xB7 then energyRaw d.doze.ack
  else if loc = 0xB8 then (d.meter.regs.getD 12 0 / 256 - d.doze.ack / 256) % 2 ^ 96
  else if loc = 0xB9 then energyRaw d.doze.bound
  else if loc = 0xBA then field (dozeFields s d) sub
  else d.val loc sub

/-- Locals 0xC0 to 0xF6: pulse, seal, counters, fault records. -/
def recordRead (s : State) (d : Pod) (p loc sub : Nat) : Nat :=
  let f := d.faults
  if loc = 0xC5 then field (pulseFields s (podAt (syncPulse p s) p)) sub
  else if loc = 0xC6 then field (residueFields (podAt (syncPulse p s) p)) sub
  else if loc = 0xC8 then d.sealRec.code.code
  else if loc = 0xC9 then field (sealFields s d) sub
  else if loc = 0xCB then d.sealRec.audit.getD (sub - 1) 0xFFFF
  else if 0xD0 ≤ loc ∧ loc ≤ 0xE4 then d.counters.getD (loc - 0xD0) 0
  else if loc = 0xF0 then field (faultFields s p) sub
  else if loc = 0xF1 then historyRaw (s.guard.podHistory.getD p []) (sub - 1)
  else if loc = 0xF2 then field [b2n f.isoOpen, f.isoOpens, f.isoStamp, f.isoCause, f.isoPeak] sub
  else if loc = 0xF3 then (if f.isoOpen then 0 else f.current)
  else if loc = 0xF4 then field [if f.isoOpen then 2 else 0, f.laneTimeouts, f.laneStamp, f.laneRun, min 65535 f.laneLongest] sub
  else if loc = 0xF5 then field (monitorFields s p d) sub
  else if loc = 0xF6 then field [f.eccWord, f.eccStamp, f.eccBadWord, f.eccBadStamp] sub
  else d.val loc sub

/-- The value of a Pod-level element. -/
def podRead (s : State) (d : Pod) (p loc sub : Nat) : Nat :=
  if loc < 0x20 then controlRead d loc sub
  else if loc < 0x60 then chainRead d p loc sub
  else if loc < 0x90 then meterRead d loc sub
  else if loc < 0xC0 then analysisRead s d loc sub
  else recordRead s d p loc sub

/-! ### Octets of a read -/

/-- The value at a sub-index: the highest sub-index at 0x00 of an array or record (R49), else the element; READ-STAGED
takes staged values, and what follows from them for the layout and the group delay (R64, R278, R331). -/
def elementAt (s : State) (x : Place) (staged : Bool) (sub : Nat) : Nat :=
  if sub = 0 ∧ x.obj.isSimple = false then x.obj.subs
  else match x.pod with
    | none => if staged ∧ x.obj.apply = .warm then devStaged s x.obj.index sub else deviceRead s x.obj.index sub
    | some p =>
      let d := podAt s p
      let layout := x.obj.index = 0x22 ∨ x.obj.index = 0x23 ∨ x.obj.index = 0x48
      podRead s (if staged ∧ (x.obj.apply = .warm ∨ layout) then d.asStaged else d) p x.obj.index sub

/-- The type that a read of a sub-index answers: a key reads as U32 (R67), a whole object as 0x12. -/
def readType (o : Obj) (sub : Nat) : Option (Nat × Nat) :=
  if o.isKey then (if sub = 0 then some (4, 4) else none)
  else if sub = 0xFF ∧ o.isSimple = false then
    some (0x12, ((List.range o.subs).map (fun k => match o.tyAt (k + 1) with | some t => t.size | none => 0)).foldl (· + ·) 0)
  else (o.tyAt sub).map (fun t => (t.code, t.size))

/-- The octets of a read of a sub-index, one element or the whole (R50). -/
def readOctets (s : State) (x : Place) (staged : Bool) (sub : Nat) : List Nat :=
  if x.obj.isKey then beOctets 4 (elementAt s x staged sub)
  else if sub = 0xFF ∧ x.obj.isSimple = false then
    ((List.range x.obj.subs).map (fun k => match x.obj.tyAt (k + 1) with
      | some t => beOctets t.size (elementAt s x staged (k + 1))
      | none => [])).flatten
  else match x.obj.tyAt sub with
    | some t => beOctets t.size (elementAt s x staged sub)
    | none => []

end Sys2Proof.Machine
end

