-- ==== Sys2Proof/Machine/Items.lean ====
section
/-! DEFINITION. The items of a trunk frame (R606): READ and READ-STAGED, WRITE with every check of R725 in its order, the
command objects, COMMIT (R79-R88), and what a written value does. -/

namespace Sys2Proof.Machine

/-- What an item comes to: its reply, or what it waits for. -/
inductive Done where
  | now (r : Reply)
  | waits (w : Waiting)
deriving DecidableEq, Repr

/-- A reply without a value. -/
def statusReply (st : Nat) : Reply := ⟨st, 0, []⟩

def answered (st : Nat) (s : State) : Done × State := (.now (statusReply st), s)

/-! ### Gated blocks (R92-R97) -/

/-- The gate bit of a block that is gated now (R92, R175). -/
def gatedBit (s : State) (x : Place) : Option Nat :=
  match x.obj.gate with
  | some k => if blockOpen s k x.pod then none else some k
  | none => none

/-- An access to an object of a gated block is counted and traced, whatever its status (R97, R685). -/
def gatedAccess (who : Who) (index sub op : Nat) (x : Place) (s : State) : State :=
  match gatedBit s x with
  | some k =>
    let s1 : State := { s with obs := { s.obs with gated := wrap32 (s.obs.gated + 1) } }
    traceAdd 7 s.time.stamp [index / 256 % 256, index % 256, sub, op, k, match who.slot with | some q => q.val | none => 0xFF] s1
  | none => s

/-! ### The lane (R26, R661, R662) -/

def Place.unreachable (x : Place) (s : State) : Bool :=
  x.laneServed && (match x.pod with | some p => laneSilent s p | none => false)

/-- The lane access of an item that failed (R26): the next access of the frame is another one. -/
def laneLost (x : Place) (s : State) : State :=
  match x.pod with
  | some p => laneFell p s
  | none => s

/-- The lane access of an item that reached its Pod. -/
def laneOf (x : Place) (s : State) : State :=
  match x.pod with
  | some p => if x.laneServed then laneDone p s else s
  | none => s

/-! ### READ and READ-STAGED (R55, R63, R64, R94, R498) -/

/-- Record indices of the protected region that a read of the log window returns (R498). -/
def windowDenied (who : Who) (x : Place) (sub : Nat) (s : State) : Bool :=
  let cursor := devVal s 0x9000 0
  let guarded (i : Nat) : Bool := decide (768 ≤ i ∧ i ≤ 1023)
  x.pod.isNone && x.obj.index == 0x9001 && decide (who.level.val < 2) &&
    (if sub = 0xFF then (List.range 16).any (fun i => guarded (cursor + i)) else sub != 0 && guarded (cursor + (sub - 1)))

/-- A read of `Pod.FilterSnap` waits for the next frame boundary of a Pod that runs frames (R330). -/
def snapshotWait (x : Place) (sub : Nat) (s : State) : Option Waiting :=
  match x.pod with
  | some p =>
    if h : p < 64 then
      let d := podAt s p
      if x.obj.index = 0x47 ∧ runsFrames d = true ∧ sub ≠ 0 then some (.snapshot ⟨p, h⟩ (d.val 0x45 0) sub) else none
    else none
  | none => none

def readItem (who : Who) (staged : Bool) (index sub : Nat) (s : State) : Done × State :=
  match findPlace index with
  | none => answered stNoObject s
  | some x =>
    match readType x.obj sub with
    | none => answered stNoObject s
    | some (code, size) =>
      let s1 := gatedAccess who index sub (if staged then 3 else 1) x s
      if who.level.val < x.obj.read ∨ windowDenied who x sub s = true then answered stDenied s1
      else if (gatedBit s x).isSome then (.now ⟨stOk, code, List.replicate size 0⟩, s1)
      else if x.unreachable s then answered stPodUnavailable (laneLost x s)
      else match snapshotWait x sub s with
        | some w => (.waits w, laneOf x s)
        | none => (.now ⟨stOk, code, readOctets s x staged sub⟩, laneOf x s)

/-! ### What a value does (R68-R74) -/

/-- A staged copy with one value put in (R74, R75). -/
def stagePut (es : List (Nat × Nat)) (k v : Nat) : List (Nat × Nat) := es.filter (fun e => e.1 != k) ++ [(k, v)]

/-- A WARM write to a Pod: the first since an apply moves StagedGen (R76). -/
def stagePod (k v : Nat) (d : Pod) : Pod :=
  { d with staged := stagePut d.staged k v, stagedGen := if d.staged.isEmpty then wrap32 (d.activeGen + 1) else d.stagedGen }

def stageDev (k v : Nat) (s : State) : State :=
  { s with
    dict := { s.dict with staged := stagePut s.dict.staged k v },
    chip := { s.chip with stagedGen := if s.dict.staged.isEmpty then wrap32 (s.chip.activeGen + 1) else s.chip.stagedGen } }

/-- A HOT write to a Pod waits for its next frame boundary, or takes effect at once where it runs no frames (R69). DESIGN CHOICE (log 51):
R69 names STOPPED and DOZE alone, and the model applies the write at once also in POD-FAULT, in a frozen Pod and before frame 0. -/
def hotPod (p k v : Nat) (s : State) : State :=
  if runsFrames (podAt s p) then modPod p (fun d => { d with hot := d.hot ++ [(k, v)] }) s
  else modPod p (fun d => applyHot s.time.stamp false { d with hot := d.hot ++ [(k, v)] }) (syncPulse p s)

/-- The governor is asked where it does not wait to be already (R117). -/
def askGovernor (code pod : Nat) (s : State) : State := if s.chip.state = .active ∧ !triggerWaits code s then trigger code pod s else s

/-- Gates change (R92, R175, R684): displays are looked at again, a trace port that starts owes a SYNC. -/
def gateWrite (v : Nat) (s : State) : State :=
  let starts := !gateOn s 2 && bit v 2
  let s1 := setDev 0x2602 0 v s
  displayWatch (if starts then { s1 with obs := { s1.obs with syncDue := true } } else s1)

/-- A HOT value of a device-level object and what follows from it (R70). -/
def hotDevice (index sub v : Nat) (s : State) : State :=
  if index = 0x2602 then gateWrite v s
  else if index = 0x2407 then
    { s with panel := { s.panel with buffer := storePut blackRow s.panel.buffer (devVal s 0x2406 0 + (sub - 1)) v } }
  else
    let s1 := setDev index sub v (if index = 0x2108 then sourceNodeSet v s else s)
    if index = 0x2400 ∨ index = 0x2401 then askGovernor 4 255 (displayWatch s1)
    else if index = 0x2010 then trigger 6 (sub - 1) s1
    else if index = 0x2011 then trigger 6 255 s1
    else if index = 0x2115 then lfxoSet (v == 1) s1
    else if index = 0x2413 ∨ index = 0x2480 then displayWatch s1
    else s1

def keyPut (index v : Nat) (s : State) : State :=
  { s with dict := { s.dict with keys := putAt s.dict.keys (index - 0x1210) (some v) } }

/-- The block that owns a device-level COLD object is gated off (R72, R153, R649). -/
def coldMay (s : State) (index : Nat) : Bool := !gateOn s (if index = 0x2113 then 1 else 0)

/-- An accepted value of a device-level object; a request for the Strip waits for the governor (R121, R562). -/
def deviceWrite (o : Obj) (sub v : Nat) (s : State) : Done × State :=
  match o.apply with
  | .warm => answered stOk (stageDev (keyOf o.index sub) v s)
  | .cold => if coldMay s o.index then answered stOk (setDev o.index sub v s) else answered stNeedsStop s
  | _ =>
    if o.isKey then answered stOk (keyPut o.index v s)
    else if o.index = 0x2480 ∧ v = 1 ∧ s.panel.wantLit = false then (.waits .strip, askGovernor 5 255 (setDev 0x2480 0 1 s))
    else answered stOk (hotDevice o.index sub v s)

/-- An accepted value of a Pod-level object. -/
def podWrite (p : Nat) (o : Obj) (sub v : Nat) (s : State) : Done × State :=
  match o.apply with
  | .warm => answered stOk (modPod p (stagePod (keyOf o.index sub) v) s)
  | .cold => if (podAt s p).mode = .stopped then answered stOk (modPod p (fun d => d.setVal o.index sub v) s) else answered stNeedsStop s
  | _ => answered stOk (hotPod p (keyOf o.index sub) v s)

/-- A write that needs the seal open (R56, R445). -/
def sealNeeded (o : Obj) (v : Nat) : Bool := decide (0x50 ≤ o.index ∧ o.index ≤ 0x54) || (o.index == 0xC4 && v == 1)

/-! ### Command objects (R65, R655, R664) -/

def Place.isCommand (x : Place) : Bool :=
  match x.pod with
  | some _ => x.obj.index == 0x01
  | none => x.obj.index == 0x2100 || x.obj.index == 0x2200 || x.obj.index == 0x2300 || x.obj.index == 0x2600

/-- The session level of a command code (R655, R664). -/
def commandLevel (x : Place) (code : Nat) : Nat :=
  match x.pod with
  | some _ => if code = 3 ∨ code = 0x20 ∨ code = 0x21 then 2 else if code = 0x40 ∨ code = 0x41 then 3 else 1
  | none => if x.obj.index = 0x2600 ∧ code = 0x10 then 2 else if x.obj.index = 0x2100 then 2 else 1

/-- The session number of a requester, 0 without a session. -/
def sessionNumber (who : Who) (s : State) : Nat :=
  match who.slot with
  | some q => (match (s.engine.slots.getD q.val .empty).session with | some x => x.number | none => 0)
  | none => 0

def chipCommand (code arg completion : Nat) (s : State) : State :=
  { s with chip := { s.chip with command := commandWord code arg completion } }

/-- STANDBY (R30, R499, R580). -/
def standbyCommand (s : State) : Nat × State :=
  if s.pods.toList.any (fun d => d.mode != .stopped && d.mode != .doze) then (stNeedsStop, chipCommand 1 0 3 s)
  else if s.link.code = .coordinator ∨ s.link.code = .silent then (stWrongState, chipCommand 1 0 3 s)
  else (stOk, chipCommand 1 0 1 { s with chip := { s.chip with standbyWanted := true } })

/-- The catalogue defaults in the working image; keys and sealed calibration stay (R61, R62). -/
def defaultsWritten (s : State) : State :=
  let s1 : State := { s with
    dict := { s.dict with values := [] },
    panel := { s.panel with buffer := [] },
    pods := s.pods.map (fun d => { d with values := d.values.filter (fun e => sealedLoc e.1) }) }
  displayWatch (if devVal s 0x2115 0 = 0 then lfxoSet true s1 else s1)

/-- RESTORE-DEFAULTS (R61): its checks, the defaults, the log record, the STORE. -/
def restoreCommand (s : State) : Nat × State :=
  if s.pods.toList.any (fun d => d.mode != .stopped) then (stNeedsStop, chipCommand 0x10 0 3 s)
  else if s.pods.toList.any (fun d => d.sealRec.code != .closed) then (stWrongState, chipCommand 0x10 0 3 s)
  else
    let s1 := defaultsWritten (chipCommand 0x10 0 1 s)
    (stOk, requestStore 5 (logAdd 0x0C 0xFF 0 (beOctets 4 s.chip.activeGen) s1))

def discardPod (d : Pod) : Pod := { d with staged := [], stagedGen := d.activeGen }

def discardDev (s : State) : State := { s with dict := { s.dict with staged := [] }, chip := { s.chip with stagedGen := s.chip.activeGen } }

/-- DISCARD-STAGED (R77). -/
def discardStaged (arg : Nat) (s : State) : Nat × State :=
  if arg < 64 then (stOk, chipCommand 0x11 arg 2 (modPod arg discardPod s))
  else if arg = 0xFE then (stOk, chipCommand 0x11 arg 2 (discardDev s))
  else if arg = 0xFF then (stOk, chipCommand 0x11 arg 2 (discardDev { s with pods := s.pods.map discardPod }))
  else (stBadValue, s)

/-- `Shell.Command` (R473, R523). -/
def storeCommand (code arg : Nat) (s : State) : Nat × State :=
  let put (completion : Nat) (s : State) : State := { s with shell := { s.shell with command := commandWord code arg completion } }
  let soon := match s.shell.lastCommandEnd with
    | some t => decide (s.time.elapsed < t + 60 * 65536000)
    | none => false
  if code ≠ 1 ∨ arg ≠ 0 then (stBadValue, s)
  else if soon || contained s 2 then (stWrongState, put 3 s)
  else (stOk, requestStore 1 (put 1 s))

def devCommand (code arg : Nat) (s : State) : Nat × State :=
  if code = 0x11 then discardStaged arg s
  else if code = 1 ∧ arg = 0 then standbyCommand s
  else if code = 0x10 ∧ arg = 0 then restoreCommand s
  else (stBadValue, s)

/-- A Pod's command but for START's wait (R664). -/
def podCommandRun (who : Who) (p code arg : Nat) (laneAnswers : Bool) (s : State) : Nat × State :=
  if code = 0x31 then podAckDormant p arg s
  else if arg ≠ 0 then (stBadValue, s)
  else if code = 1 then podStart p s
  else if code = 2 then podStop p s
  else if code = 3 then podResetCommand p laneAnswers s
  else if code = 0x20 then podClock p true s
  else if code = 0x21 then podClock p false s
  else if code = 0x30 then podDoze p s
  else if code = 0x40 then podSealOpen p (sessionNumber who s) s
  else if code = 0x41 then podSealClose p (sessionNumber who s) s
  else (stBadValue, s)

/-- What an accepted command's reply waits for: the governor after START (R665), the STORE of RESTORE-DEFAULTS (R61). -/
def commandWait (x : Place) (code st : Nat) (s : State) : Option Waiting :=
  if st ≠ stOk then none
  else match x.pod with
    | some p => if h : p < 64 then (if code = 1 ∧ (podAt s p).wake = some 2 then some (.start ⟨p, h⟩) else none) else none
    | none => if x.obj.index = 0x2600 ∧ code = 0x10 then some .restore else none

/-- A command code reaches its object. -/
def commandWrite (who : Who) (x : Place) (value : Nat) (laneAnswers : Bool) (s : State) : Done × State :=
  let code := value % 65536
  let arg := value / 65536 % 256
  if who.level.val < commandLevel x code then answered stDenied s
  else if x.unreachable s && code != 3 then answered stPodUnavailable (laneLost x s)
  else
    let s0 := if x.unreachable s then s else laneOf x s
    let (st, s1) := match x.pod with
      | some p => podCommandRun who p code arg laneAnswers s0
      | none =>
        if x.obj.index = 0x2100 then clkCommand code arg s0
        else if x.obj.index = 0x2200 then storeCommand code arg s0
        else if x.obj.index = 0x2300 then guardCommand code arg s0
        else devCommand code arg s0
    match commandWait x code st s1 with
    | some w => (.waits w, s1)
    | none => answered st s1

/-! ### WRITE (R725) -/

/-- The checks from POD_UNAVAILABLE on, and the value's effect. -/
def valueWrite (x : Place) (t : Ty) (sub value : Nat) (s : State) : Done × State :=
  if x.unreachable s then answered stPodUnavailable (laneLost x s)
  else
    let s1 := laneOf x s
    let v := maskReserved x.pod.isSome x.obj.index value
    match x.pod with
    | some p =>
      let d := podAt s p
      if sealNeeded x.obj v && d.sealRec.code != .opened then answered stSealed s1
      else if !podValueOk d x.obj t sub v then answered stBadValue s1
      else podWrite p x.obj sub v s1
    | none => if !devValueOk s x.obj t sub v then answered stBadValue s1 else deviceWrite x.obj sub v s1

def writeItem (who : Who) (laneAnswers : Bool) (index sub typeCode length value : Nat) (s : State) : Done × State :=
  match findPlace index with
  | none => answered stNoObject s
  | some x =>
    let whole := !x.obj.isSimple && sub == 0xFF
    let s1 := gatedAccess who index sub 2 x s
    match x.obj.tyAt sub with
    | none => if whole then answered stReadOnly s1 else answered stNoObject s
    | some t =>
      match x.obj.write with
      | none => answered stReadOnly s1
      | some level =>
        if x.obj.isSimple = false ∧ sub = 0 then answered stReadOnly s1
        else if who.level.val < level then answered stDenied s1
        else
          if typeCode ≠ t.code ∨ length ≠ t.size then answered stBadType s1
          else if x.isCommand then commandWrite who x (value % 256 ^ length) laneAnswers s1
          else valueWrite x t sub (value % 256 ^ length) s1

/-! ### COMMIT (R79-R88, R583) -/

/-- The highest write level among the objects staged in the scope (R80). -/
def scopeLevel (device : Bool) (pods : BitVec 64) (s : State) : Nat :=
  let top (find : Nat → Option Obj) (es : List (Nat × Nat)) (a : Nat) : Nat :=
    es.foldl (fun a e => match find (e.1 / 256) with | some o => max a (o.write.getD 0) | none => a) a
  let dev := if device then top deviceObj s.dict.staged 0 else 0
  podList.foldl (fun a p => if pods.getLsbD p then top podObj (podAt s p).staged a else a) dev

/-- The link after an apply that may move its node ID or PLCA (R577, R583, R590). -/
def linkApplied (node : Nat) (off : Bool) (s : State) : State :=
  let s1 := if effectiveNode s ≠ 0 then clearCause .link 0 3 s else s
  if effectiveNode s1 = node ∧ plcaOff s1 = off then s1
  else if linkOpens s1.link.code then linkJoin s1
  else if s1.link.code = .joining ∧ plcaOff s1 = true then setLink .csma s1
  else s1

/-- The device staged copy comes into effect in one step (R87). -/
def deviceApply (s : State) : State :=
  if s.dict.staged.isEmpty then s
  else
    let s1 : State := { s with
      dict := { s.dict with values := storePutAll deviceDefault s.dict.values s.dict.staged, staged := [] },
      chip := { s.chip with activeGen := s.chip.stagedGen } }
    linkApplied (effectiveNode s) (plcaOff s) s1

/-- The strobe reaches a Pod in scope (R82-R85): it applies at once, at its next boundary, or not at all where it is in POD-FAULT or its
lane does not acknowledge. -/
def strobe (p : Nat) (s : State) : State :=
  let d := podAt s p
  let s1 := if d.faults.isoOpen then s else hubCount 2 s
  if d.mode = .fault ∨ laneSilent s p = true then commitAnswer p false (laneFell p s1)
  else
    let s2 := modPod p (fun d => { d with latched := some (d.staged, d.stagedGen) }) s1
    if runsFrames d then
      { s2 with engine := { s2.engine with commit := s2.engine.commit.map (fun c => { c with waiting := setBit c.waiting p }) } }
    else applyAt p s2.time.stamp s2

/-- A Pod that has not acknowledged within 50 us does not apply, and its lane faults (R26, R85). -/
def strobeMissed (p : Nat) (s : State) : State :=
  let d := podAt s p
  let s1 := commitAnswer p false (modPod p (fun d => { d with latched := none }) s)
  if d.mode = .fault ∨ d.faults.isoOpen then s1 else laneTimeout p s1

/-- The COMMIT ends (R88): its result, its count, its reply. -/
def commitEnds (s : State) : Reply × State :=
  match s.engine.commit with
  | none => (statusReply stOk, s)
  | some c =>
    let s1 := podList.foldl (fun s p => if bit c.waiting p then strobeMissed p s else s) s
    let c1 := s1.engine.commit.getD c
    (⟨if c1.missed = 0 then stOk else stCommitPartial, 5, beOctets 8 c1.applied⟩,
     { s1 with
       chip := { s1.chip with commitResult := c1.applied, commitCount := wrap32 (s1.chip.commitCount + 1) },
       engine := { s1.engine with commit := none } })

def commitItem (who : Who) (device : Bool) (pods : BitVec 64) (s : State) : Done × State :=
  if who.level.val < scopeLevel device pods s then answered stDenied s
  else
    let s1 := if device then deviceApply s else s
    let s2 : State := { s1 with engine := { s1.engine with commit := some ⟨0, 0, 0, s1.time.elapsed⟩ } }
    let s3 := podList.foldl (fun s p => if pods.getLsbD p then strobe p s else s) s2
    if (s3.engine.commit.map (·.waiting)).getD 0 = 0 then let (r, s4) := commitEnds s3; (.now r, s4)
    else (.waits .commit, s3)

/-! ### Any item -/

/-- A Pod RESET by its command row is the write of code 3 to `Pod.Command`. -/
def podIndex (p loc : Nat) : Nat := 0x4000 + 0x100 * p + loc

def doItem (who : Who) (it : Item) (s : State) : Done × State :=
  match it with
  | .read index sub => readItem who false index sub s
  | .readStaged index sub => readItem who true index sub s
  | .write index sub typeCode length value => writeItem who true index sub typeCode length value s
  | .commit device pods => commitItem who device pods s
  | .podReset pod laneAnswers => writeItem who laneAnswers (podIndex pod 1) 0 4 4 3 s

/-- A STORE holds this item: a write to a writable object that is not a command, a key write, a COMMIT (R477). -/
def mustHold (it : Item) (s : State) : Bool :=
  s.shell.run.isSome && (match it with
    | .write index _ _ _ _ => (match findPlace index with | some x => x.obj.write.isSome && !x.isCommand | none => false)
    | .commit _ _ => true
    | _ => false)

/-- An item of a fast frame (R624). -/
def fastItem (it : Item) : Bool :=
  match it with
  | .read index _ | .readStaged index _ => (match findPlace index with | some x => x.obj.fast | none => false)
  | _ => false

end Sys2Proof.Machine
end

