-- ==== Sys2Proof/Machine/Engine.lean ====
section
/-! DEFINITION. The execution of items (R623-R627, R477): the frames that wait, the frame that executes, replies built into
fragments, and the meanings of the commands that are one item, or that let a waiting item go on. -/

namespace Sys2Proof.Machine

/-! ### Frames of the device (R602-R605) -/

def ownMac : Nat := Config.macAddress % 2 ^ 48

/-- A frame that the device sends carries a check (R604). -/
def wantCheck (s : State) (asked : Bool) : Bool := asked || devVal s 0x1201 0 == 1

/-- Header and payload of a Gezor frame (R603). -/
def gezorData (s : State) (flags tag service tid count fragment : Nat) (payload : List Nat) (check : Bool) : List Nat :=
  let g := [1, flags + b2n check] ++ beOctets 2 (nodeNumber s) ++ [tag % 256, service] ++ beOctets 2 tid ++ [count, fragment % 256] ++
    beOctets 2 payload.length ++ payload
  if check then g ++ beOctets 4 (crc32c g) else g

/-- The Ethernet frame but for its FCS, padded to 60 octets (R602). -/
def etherFrame (s : State) (dst : Nat) (data : List Nat) : List Nat :=
  let f := beOctets 6 dst ++ beOctets 6 ownMac ++ beOctets 2 (devVal s 0x1109 0) ++ data
  f ++ List.replicate (60 - f.length) 0

/-- Payload that a fragment of the device holds (R623). -/
def payloadRoom (s : State) (check : Bool) : Nat := min 1400 (devVal s 0x110A 0 - 30 - (if check then 4 else 0))

/-! ### Transmit queue (R641) -/

/-- A frame joins the queue behind the frames of its class and of the classes before it. -/
def queueFrame (f : TxFrame) (q : List TxFrame) : List TxFrame :=
  q.filter (fun x => decide (x.cls ≤ f.cls)) ++ [f] ++ q.filter (fun x => decide (f.cls < x.cls))

/-- A FRAME-OUT record: service, disposition and flags, transaction, fragment, count (R685, R686). -/
def traceOut (disposition : Nat) (octets : List Nat) (s : State) : State :=
  let c := octets.drop 14
  traceAdd 5 s.time.stamp ([c.getD 5 0, disposition * 16 + c.getD 1 0 % 16] ++ (c.drop 6).take 2 ++ [c.getD 9 0, c.getD 8 0]) s

/-- A frame is handed to the link: over the length limit it is discarded and counted (R587). -/
def sendFrame (f : TxFrame) (s : State) : State :=
  if devVal s 0x110A 0 < f.octets.length + 4 then linkCount 9 (traceOut f.disposition f.octets s)
  else { s with link := { s.link with queue := queueFrame f s.link.queue } }

def gezorCount (k : Nat) (s : State) : State := { s with engine := { s.engine with counters := bump s.engine.counters k } }

/-! ### Replies (R607, R623) -/

def replyOctets (r : Reply) : List Nat :=
  [r.status, r.typeCode] ++ (if 0x10 ≤ r.typeCode then beOctets 2 r.octets.length else []) ++ r.octets

/-- A reply item as it goes into a fragment: TOO_BIG where it cannot fit an empty one. -/
def fitted (room : Nat) (r : Reply) : List Nat := if (replyOctets r).length ≤ room then replyOctets r else replyOctets (statusReply stTooBig)

/-- Items gather in a fragment until the next one does not fit. -/
def packStep (room : Nat) (a : List (List (List Nat)) × List (List Nat)) (x : List Nat) : List (List (List Nat)) × List (List Nat) :=
  if a.2 ≠ [] ∧ room < a.2.flatten.length + x.length then (a.1 ++ [a.2], [x]) else (a.1, a.2 ++ [x])

def fragmentsOf (room : Nat) (rs : List Reply) : List (List (List Nat)) :=
  let a := (rs.map (fitted room)).foldl (packStep room) ([], [])
  a.1 ++ [a.2]

/-- The frames of an item reply: REPLY set, MORE in all but the last. -/
def replyFrames (s : State) (r : Running) : List (List Nat) :=
  let check := wantCheck s r.check
  let parts := fragmentsOf (payloadRoom s check) r.replies
  parts.zipIdx.map (fun x =>
    etherFrame s r.mac (gezorData s (if x.2 + 1 < parts.length then 6 else 2) r.tag r.service r.tid x.1.length x.2 x.1.flatten check))

/-! ### Reply cache (R615, R616) -/

def slotOf (s : State) (q : Nat) : Requester := s.engine.slots.getD q .empty

def modSlot (q : Nat) (f : Requester → Requester) (s : State) : State :=
  { s with engine := { s.engine with slots := putAt s.engine.slots q (f (slotOf s q)) } }

/-- A new entry replaces the oldest of eight. -/
def cacheOpen (q tid service : Nat) (s : State) : State :=
  modSlot q (fun x => { x with cache := (x.cache ++ [(⟨tid, service, false, []⟩ : CacheEntry)]).drop (x.cache.length - 7) }) s

def cacheClose (q tid : Nat) (frames : List (List Nat)) (s : State) : State :=
  modSlot q (fun x => { x with cache := x.cache.map (fun e => if e.tid = tid then { e with complete := true, frames := frames } else e) }) s

/-- A whole reply enters the cache and the transmit queue; its last frame carries the mark of what follows it: 1 a chip reset, more the
resets of that mark, 0 nothing. -/
def queueReply (slot : Option (Fin 4)) (tid : Nat) (frames : List (List Nat)) (mark : Nat) (s : State) : State :=
  let s1 := match slot with
    | some q => cacheClose q.val tid frames s
    | none => s
  frames.zipIdx.foldl (fun s x => sendFrame ⟨3, x.1, if x.2 + 1 = frames.length then mark else 0, 0⟩ s) s1

/-! ### STREAM frames (R635-R637) -/

def subAt (s : State) (k : Nat) : Sub := s.engine.subs.getD k .empty

def modSub (k : Nat) (f : Sub → Sub) (s : State) : State :=
  { s with engine := { s.engine with subs := putAt s.engine.subs k (f (subAt s k)) } }

/-- The pass over a subscription's items, as a frame of the service STREAM executes: its tag is the subscription, its transaction number
the STAMP of the sampling. -/
def streamRun (k : Nat) (s : State) : Running :=
  let x := subAt s k
  ⟨⟨Fin.ofNat 4 x.level, some (Fin.ofNat 4 x.owner)⟩, 0, k, s.time.stamp, 8, false, x.body.addrs.map (fun a => .read a.1 a.2), [], false, false⟩

/-- A pass has ended: its STREAM frame is queued, in place of one that still waits (R636, R637). -/
def sendStream (r : Running) (s : State) : State :=
  let k := r.tag
  let x := subAt s k
  let payload := [k, 0, 0, 0] ++ beOctets 4 x.seq ++ beOctets 8 r.tid ++ (r.replies.map replyOctets).flatten
  let dst := if bit x.body.flags 0 then devVal s 0x1108 0 else (slotOf s x.owner).mac
  let frame := etherFrame s dst (gezorData s 0 0 8 0 r.replies.length 0 payload (wantCheck s false))
  let waits := s.link.queue.any (fun f => f.cls == 5 && f.tag == k)
  let s1 : State := { s with link := { s.link with queue := s.link.queue.filter (fun f => !(f.cls == 5 && f.tag == k)) } }
  let s2 := modSub k (fun x => { x with seq := wrap32 (x.seq + 1), replaced := if waits then (x.replaced + 1) % 65536 else x.replaced })
    (if waits then gezorCount 14 s1 else s1)
  if x.active && s.chip.state == .active && gateOn s 5 then sendFrame ⟨5, frame, k, 0⟩ s2 else s

/-! ### Execution (R623-R626) -/

/-- The engine takes requests: open, in ACTIVE or SAFE (R643). -/
def engineTakes (s : State) : Bool := s.engine.opened && (s.chip.state == .active || s.chip.state == .safe)

/-- The engine serves items; while a mux holds CORE they wait until CORE runs (R159, R162, R185). -/
def serving (s : State) : Bool := engineTakes s && coreRuns s

/-- What reaches the engine while CORE is held waits in order. -/
def engineWait (x : RxWait) (s : State) : State := { s with engine := { s.engine with inbox := s.engine.inbox ++ [x] } }

/-- The chip reset that an accepted request asked for begins after its reply (R61, R208). -/
def resetAfter (s : State) : State :=
  match s.engine.afterReply with
  | some k => beginReset k s
  | none => s

/-- A Pod or display reset begins (R208, R627): hard where the lane fails at that moment. -/
def resetBegins (x : ResetDue) (s : State) : State :=
  match x with
  | .pod p lane => requestReset p (lane && (podAt s p).faults.laneFailed != some s.time.elapsed) (laneFell p s)
  | .display => displayResetRun s

/-- The resets that waited for the reply of a mark begin. -/
def resetsBegin (mark : Nat) (s : State) : State :=
  (s.engine.resetsDue.filter (·.1 == mark)).foldl (fun s x => resetBegins x.2 s)
    { s with engine := { s.engine with resetsDue := s.engine.resetsDue.filter (·.1 != mark) } }

/-- A mark that no reset carries yet. -/
def freshMark (s : State) : Nat := s.engine.resetsDue.foldl (fun a x => max a (x.1 + 1)) 2

/-- The mark of the reply that goes out now, and the resets of its frame that take it. -/
def claimResets (s : State) : Nat × State :=
  if s.engine.afterReply.isSome then (1, s)
  else if s.engine.resetsDue.any (·.1 == 0) then
    let m := freshMark s
    (m, { s with engine := { s.engine with resetsDue := s.engine.resetsDue.map (fun x => if x.1 = 0 then (m, x.2) else x) } })
  else (0, s)

/-- A frame's last item has executed: its reply goes out, and into the cache of a slot that its requester still holds; an
item command without a frame leaves its outcome. -/
def deliver (r : Running) (owner : Bool) (s : State) : State :=
  if r.service = 8 then sendStream r s
  else if r.service = 0 then
    let s1 : State := { s with engine := { s.engine with last := r.replies.getLastD s.engine.last } }
    if owner then resetAfter (resetsBegin 0 s1) else s1
  else
    let (mark, s1) := if owner then claimResets s else (0, s)
    let kept := match r.who.slot with
      | some q => if (slotOf s q.val).mac = r.mac ∧ (slotOf s q.val).tag = r.tag then some q else none
      | none => none
    queueReply kept r.tid (replyFrames s r) mark s1

def putRunning (r : Running) (s : State) : State := { s with engine := { s.engine with running := some r } }

def addReply (r : Running) (x : Reply) : Running := { r with replies := r.replies ++ [x] }

/-- Only READ items execute in SAFE (R529, R643). -/
def readOnlyItem (it : Item) : Bool :=
  match it with
  | .read _ _ => true
  | _ => false

/-- The checks of R725 that stand before those of a command or a service. -/
def earlyStatus (st : Nat) : Bool :=
  [stNoObject, stReadOnly, stDenied, stBadType, stPodUnavailable, stSealed, stBadValue].contains st

/-- An item executes, outside the write queue. In SAFE an item other than READ answers the status of the first earlier check that it
fails, else WRONG_STATE, and does nothing (R529, R725). -/
def runItem (who : Who) (it : Item) (s : State) : Done × State :=
  let a := doItem who it s
  if s.chip.state = .safe ∧ readOnlyItem it = false then
    match a.1 with
    | .now r => if earlyStatus r.status then a else answered stWrongState s
    | .waits _ => answered stWrongState s
  else a

/-- An item that finds the write queue full, and the items after it in its frame, answer BUSY (R477, R625). -/
def busyItem (r : Running) (rest : List Item) (s : State) : State :=
  putRunning { addReply r (statusReply stBusy) with items := rest, busy := true }
    (gezorCount 15 { s with shell := { s.shell with busy := wrap32 (s.shell.busy + 1) } })

/-- A frame whose next item a STORE holds waits in the write queue. -/
def holdFrame (r : Running) (s : State) : State :=
  let s1 : State := { s with engine := { s.engine with running := none, frames := s.engine.frames ++ [{ r with held := true }] } }
  { s1 with shell := { s1.shell with queuePeak := max s1.shell.queuePeak (heldLevel s1) } }

/-- The next item of the frame that executes. -/
def stepItem (r : Running) (it : Item) (rest : List Item) (s : State) : State :=
  if r.busy then busyItem r rest s
  else if mustHold it s then (if 32 ≤ heldLevel s then busyItem r rest s else holdFrame r s)
  else
    let (d, s1) := runItem r.who it s
    match d with
    | .now x => putRunning { addReply r x with items := rest } s1
    | .waits w =>
      let s2 := putRunning { r with items := rest } s1
      { s2 with engine := { s2.engine with waiting := some w } }

/-- A fast frame (R624): at most eight reads of fast-marked objects. -/
def fastFrame (r : Running) : Bool := decide (r.items.length ≤ 8) && r.items.all fastItem

/-- A fast frame executes whole, between two items of another frame. -/
def runFast (r : Running) (s : State) : State :=
  let (r1, s1) := r.items.foldl (fun (a : Running × State) it =>
    let (d, s2) := runItem r.who it a.2
    match d with
    | .now x => (addReply a.1 x, s2)
    | .waits _ => (a.1, s2)) (r, s)
  deliver r1 false s1

/-- The octets of a snapshot of one channel as `Pod.FilterSnap` answers them (R330). -/
def snapshotReply (p chan sub : Nat) (s : State) : Reply :=
  match findPlace (podIndex p 0x47) with
  | none => statusReply stNoObject
  | some x =>
    match readType x.obj sub with
    | none => statusReply stNoObject
    | some (code, _) => ⟨stOk, code, readOctets (modPod p (fun d => d.setVal 0x45 0 chan) s) x false sub⟩

/-- START's reply, once the governor has evaluated (R665). -/
def startDone (p : Nat) (s : State) : Option (Reply × State) :=
  let d := podAt s p
  if s.chip.state = .safe ∨ d.mode = .fault then
    some (statusReply stWrongState, podComplete p 3 (modPod p (fun d => { d with wake := none }) s))
  else if d.wake = some 2 then none
  else if d.powering.isSome ∨ sampling d.mode then some (statusReply stOk, s)
  else some (statusReply stNoBudget, podComplete p 3 s)

/-- The reply to `Strip.Enable`, once the governor has evaluated (R121, R562). -/
def stripDone (s : State) : Option (Reply × State) :=
  if s.chip.state = .safe then some (statusReply stWrongState, setDev 0x2480 0 0 s)
  else if s.panel.wantLit then some (statusReply stOk, s)
  else if triggerWaits 5 s then none
  else if stripMay s = false ∧ stripFits s = true then some (statusReply stOk, s)
  else some (statusReply stNoBudget, setDev 0x2480 0 0 s)

/-- The STORE of RESTORE-DEFAULTS has ended (R61). -/
def restoreDone (s : State) : Option (Reply × State) :=
  let runs := match s.shell.run with | some r => bit r.reasons 5 | none => false
  if runs || bit s.shell.pending 5 then none
  else some (statusReply stOk, { s with engine := { s.engine with afterReply := some .restore } })

/-- Whether what an item waits for has come: its reply then. -/
def waitDone (w : Waiting) (s : State) : Option (Reply × State) :=
  match w with
  | .start p => startDone p.val s
  | .strip => stripDone s
  | .restore => restoreDone s
  | .snapshot p chan sub =>
    if laneSilent s p.val then some (statusReply stPodUnavailable, laneFell p.val s)
    else if runsFrames (podAt s p.val) then none
    else some (snapshotReply p.val chan sub s, s)
  | .commit => none

/-- The item that waited has its reply, and its frame goes on. -/
def resume (x : Reply) (s : State) : State :=
  match s.engine.running with
  | some r => { s with engine := { s.engine with waiting := none, running := some (addReply r x) } }
  | none => { s with engine := { s.engine with waiting := none } }

/-- The next frame that may start: a fast one before the others, a held one not at all. -/
def nextFrame (fast : Bool) (s : State) : Option Running := s.engine.frames.find? (fun r => !r.held && (!fast || fastFrame r))

def dropFrame (r : Running) (s : State) : State := { s with engine := { s.engine with frames := s.engine.frames.erase r } }

/-- One step of the engine's work; none where nothing is left that it can do now. -/
def pumpStep (s : State) : Option State :=
  let committing := s.engine.waiting == some .commit
  match (if committing then none else nextFrame true s) with
  | some f => some (runFast f (dropFrame f s))
  | none =>
    match s.engine.running with
    | none => (nextFrame false s).map (fun f => putRunning f (dropFrame f s))
    | some r =>
      match s.engine.waiting with
      | some w => (waitDone w s).map (fun x => resume x.1 x.2)
      | none =>
        match r.items with
        | it :: rest => some (stepItem r it rest s)
        | [] => some (deliver r true { s with engine := { s.engine with running := none } })

/-- Repeats the engine's steps, at most so often. -/
def pumpTimes : Nat → State → State
  | 0, s => s
  | n + 1, s => match pumpStep s with
    | some t => pumpTimes n t
    | none => s

/-- Steps that the engine's work can take at most. -/
def pumpFuel (s : State) : Nat :=
  let items := s.engine.frames.foldl (fun a r => a + r.items.length) (match s.engine.running with | some r => r.items.length | none => 0)
  items + 4 * s.engine.frames.length + 8

/-- The engine does all the work that it can do now. -/
def pump (s : State) : State := pumpTimes (pumpFuel s) s

/-! ### Streams (R635) -/

/-- Samplings that are due come after every frame that waits (R635), one pass after the other; a pass that waits for a frame boundary
holds back the next (R330). -/
def streamPass (s : State) : State :=
  (List.range 8).foldl (fun s k =>
    if (subAt s k).active && (subAt s k).due && s.engine.running.isNone && s.engine.frames.all (·.held) then
      pump (putRunning (streamRun k s) (modSub k (fun x => { x with due := false }) s))
    else s) s

/-- Streams sample in ACTIVE while their block is enabled (R529, R636). -/
def streamsRun (s : State) : Bool := s.engine.opened && s.chip.state == .active && gateOn s 5

/-- STANDBY, once accepted, is entered after the replies, with no STORE in progress (R30, R499). -/
def standbyGate (s : State) : State :=
  if s.chip.standbyWanted && s.engine.running.isNone && s.engine.frames.isEmpty && !s.link.queue.any (·.cls == 3) then standbyCheck s else s

/-- The engine's work, the samplings that are due, and STANDBY where it is due. -/
def settle (s : State) : State := if serving s then standbyGate (streamPass (pump s)) else s

/-! ### Commands that are one item (log 8) -/

/-- The frame that stands for an item without a frame. -/
def rowFrame (who : Who) (items : List Item) : Running := ⟨who, 0, 0, 0, 0, false, items, [], false, false⟩

/-- The engine executes nothing, so an item that no STORE holds executes at once. -/
def rowFree (it : Item) (s : State) : Bool :=
  s.engine.running.isNone && s.engine.waiting.isNone && s.engine.frames.all (·.held) && !mustHold it s

/-- An item without a frame has executed: its outcome goes to `engine.last`, or it waits as a frame does. -/
def rowEnds (who : Who) (a : Done × State) : State :=
  let s := a.2
  match a.1 with
  | .now x => resetAfter (resetsBegin 0 { s with engine := { s.engine with last := x } })
  | .waits w => { s with engine := { s.engine with running := some (rowFrame who []), waiting := some w } }

/-- An item that reaches the engine by itself: it executes at once, or waits its turn behind the frames. -/
def rowRun (who : Who) (it : Item) (s : State) : State :=
  if !serving s then (if engineTakes s then engineWait (.item who it) s else s)
  else if rowFree it s then settle (rowEnds who (runItem who it s))
  else settle { s with engine := { s.engine with frames := s.engine.frames ++ [rowFrame who [it]] } }

/-- A write in the type of the object. -/
def rowWrite (who : Who) (index sub value : Nat) (s : State) : State :=
  let (code, size) := match findPlace index with
    | some x => (match x.obj.tyAt sub with | some t => (t.code, t.size) | none => (0, 0))
    | none => (0, 0)
  rowRun who (.write index sub code size value) s

def rowCommand (who : Who) (index code arg : Nat) (s : State) : State := rowWrite who index 0 (code + arg % 256 * 65536) s

/-- START (R664, R665). -/
def execStart (who : Who) (p : Fin 64) (s : State) : Host.Outcome State Fault Refusal := .next (rowCommand who (podIndex p.val 1) 1 0 s)

/-- STOP (R664, R41). -/
def execStop (who : Who) (p : Fin 64) (s : State) : Host.Outcome State Fault Refusal := .next (rowCommand who (podIndex p.val 1) 2 0 s)

/-- POD_CMD_RESET (R216, R217). -/
def execPodCmdReset (who : Who) (p : Fin 64) (laneAnswers : Bool) (s : State) : Host.Outcome State Fault Refusal :=
  .next (rowRun who (.podReset p.val laneAnswers) s)

/-- CLOCK_RC (R157). -/
def execClockRc (who : Who) (p : Fin 64) (s : State) : Host.Outcome State Fault Refusal := .next (rowCommand who (podIndex p.val 1) 0x20 0 s)

/-- CLOCK_SPINE (R157). -/
def execClockSpine (who : Who) (p : Fin 64) (s : State) : Host.Outcome State Fault Refusal := .next (rowCommand who (podIndex p.val 1) 0x21 0 s)

/-- DOZE (R414). -/
def execDoze (who : Who) (p : Fin 64) (s : State) : Host.Outcome State Fault Refusal := .next (rowCommand who (podIndex p.val 1) 0x30 0 s)

/-- ACK_DORMANT (R432). -/
def execAckDormant (who : Who) (p : Fin 64) (arg : Nat) (s : State) : Host.Outcome State Fault Refusal :=
  .next (rowCommand who (podIndex p.val 1) 0x31 arg s)

/-- SEAL_OPEN (R457). -/
def execSealOpen (who : Who) (p : Fin 64) (s : State) : Host.Outcome State Fault Refusal := .next (rowCommand who (podIndex p.val 1) 0x40 0 s)

/-- SEAL_CLOSE (R459). -/
def execSealClose (who : Who) (p : Fin 64) (s : State) : Host.Outcome State Fault Refusal := .next (rowCommand who (podIndex p.val 1) 0x41 0 s)

/-- SLICE_RUN (R241). -/
def execSliceRun (who : Who) (p : Fin 64) (s : State) : Host.Outcome State Fault Refusal := .next (rowWrite who (podIndex p.val 0x36) 0 1 s)

/-- SLICE_FREEZE (R241). -/
def execSliceFreeze (who : Who) (p : Fin 64) (s : State) : Host.Outcome State Fault Refusal := .next (rowWrite who (podIndex p.val 0x36) 0 0 s)

/-- SLICE_FACTORY (R241). -/
def execSliceFactory (who : Who) (p : Fin 64) (s : State) : Host.Outcome State Fault Refusal := .next (rowWrite who (podIndex p.val 0x36) 0 2 s)

/-- PLS_TEST_WRITE (R445). -/
def execPlsTestWrite (who : Who) (p : Fin 64) (value : Nat) (s : State) : Host.Outcome State Fault Refusal :=
  .next (rowWrite who (podIndex p.val 0xC4) 0 value s)

/-- STANDBY (R30). -/
def execStandby (who : Who) (s : State) : Host.Outcome State Fault Refusal := .next (rowCommand who 0x2600 1 0 s)

/-- RESTORE_DEFAULTS (R61). -/
def execRestoreDefaults (who : Who) (s : State) : Host.Outcome State Fault Refusal := .next (rowCommand who 0x2600 0x10 0 s)

/-- DISCARD_STAGED (R77). -/
def execDiscardStaged (who : Who) (arg : Nat) (s : State) : Host.Outcome State Fault Refusal := .next (rowCommand who 0x2600 0x11 arg s)

/-- STORE (R473). -/
def execStore (who : Who) (arg : Nat) (s : State) : Host.Outcome State Fault Refusal := .next (rowCommand who 0x2200 1 arg s)

/-- SWITCH_HUSK (R156). -/
def execSwitchHusk (who : Who) (arg : Nat) (s : State) : Host.Outcome State Fault Refusal := .next (rowCommand who 0x2100 1 arg s)

/-- SWITCH_CORE (R156). -/
def execSwitchCore (who : Who) (arg : Nat) (s : State) : Host.Outcome State Fault Refusal := .next (rowCommand who 0x2100 2 arg s)

/-- SWITCH_SPINEREF (R156). -/
def execSwitchSpineref (who : Who) (arg : Nat) (s : State) : Host.Outcome State Fault Refusal := .next (rowCommand who 0x2100 3 arg s)

/-- SWITCH_TRACE (R156). -/
def execSwitchTrace (who : Who) (arg : Nat) (s : State) : Host.Outcome State Fault Refusal := .next (rowCommand who 0x2100 4 arg s)

/-- GUARD_ACK (R515). -/
def execGuardAck (who : Who) (code arg : Nat) (s : State) : Host.Outcome State Fault Refusal :=
  .next (rowWrite who 0x2300 0 (code % 65536 + arg % 256 * 65536) s)

/-- ACK_ALL (R515). -/
def execAckAll (who : Who) (s : State) : Host.Outcome State Fault Refusal := .next (rowCommand who 0x2300 0x10 0 s)

/-- LFXO_ENABLE (R140). -/
def execLfxoEnable (who : Who) (value : Nat) (s : State) : Host.Outcome State Fault Refusal := .next (rowWrite who 0x2115 0 value s)

/-- POD_RANK_WRITE (R116). -/
def execPodRankWrite (who : Who) (sub value : Nat) (s : State) : Host.Outcome State Fault Refusal := .next (rowWrite who 0x2010 sub value s)

/-- DIM_FLOOR_WRITE (R116). -/
def execDimFloorWrite (who : Who) (value : Nat) (s : State) : Host.Outcome State Fault Refusal := .next (rowWrite who 0x2011 0 value s)

/-- PANE_MODE_WRITE (R540). -/
def execPaneModeWrite (who : Who) (value : Nat) (s : State) : Host.Outcome State Fault Refusal := .next (rowWrite who 0x2400 0 value s)

/-- PANE_LEVEL_WRITE (R543). -/
def execPaneLevelWrite (who : Who) (value : Nat) (s : State) : Host.Outcome State Fault Refusal := .next (rowWrite who 0x2401 0 value s)

/-- STRIP_ENABLE_WRITE (R562). -/
def execStripEnableWrite (who : Who) (value : Nat) (s : State) : Host.Outcome State Fault Refusal := .next (rowWrite who 0x2480 0 value s)

/-- FB_DATA_WRITE (R546). -/
def execFbDataWrite (who : Who) (sub value : Nat) (s : State) : Host.Outcome State Fault Refusal := .next (rowWrite who 0x2407 sub value s)

/-- GATE_ENABLE_WRITE (R92). -/
def execGateEnableWrite (who : Who) (value : Nat) (s : State) : Host.Outcome State Fault Refusal := .next (rowWrite who 0x2602 0 value s)

/-- KEY_WRITE (R58). -/
def execKeyWrite (who : Who) (level value : Nat) (s : State) : Host.Outcome State Fault Refusal :=
  .next (rowWrite who (if 1 ≤ level ∧ level ≤ 3 then 0x120F + level else 0x120F) 0 value s)

/-- TRACE_SELECT_WRITE (R657). -/
def execTraceSelectWrite (who : Who) (value : Nat) (s : State) : Host.Outcome State Fault Refusal := .next (rowWrite who 0x8100 0 value s)

/-- WRITE (R68, R725). -/
def execWrite (who : Who) (index sub typeCode length value : Nat) (s : State) : Host.Outcome State Fault Refusal :=
  .next (rowRun who (.write index sub typeCode length value) s)

/-- READ_STAGED (R64). -/
def execReadStaged (who : Who) (index sub : Nat) (s : State) : Host.Outcome State Fault Refusal := .next (rowRun who (.readStaged index sub) s)

/-- FILTER_SNAPSHOT_READ (R330). -/
def execFilterSnapshotRead (who : Who) (p : Fin 64) (sub : Nat) (s : State) : Host.Outcome State Fault Refusal :=
  .next (rowRun who (.read (podIndex p.val 0x47) sub) s)

/-- COMMIT (R79-R88). -/
def execCommit (who : Who) (device : Bool) (pods : BitVec 64) (s : State) : Host.Outcome State Fault Refusal :=
  .next (rowRun who (.commit device pods) s)

/-! ### Commands that let a waiting item go on -/

/-- COMMIT_COMPLETE (R85, R88): every Pod in scope has answered, or its 50 us have run. -/
def execCommitComplete (s : State) : Host.Outcome State Fault Refusal :=
  .next (match s.engine.commit with
    | some c =>
      if !serving s then s
      else if c.waiting = 0 ∨ c.since + 3277 ≤ s.time.elapsed then
        let (x, s1) := commitEnds s
        settle (resume x s1)
      else s
    | none => s)

/-- GOVERNOR_EVALUATION (R117): what waited for it has its reply. -/
def execGovernorEvaluation (s : State) : Host.Outcome State Fault Refusal :=
  .next (if s.power.triggers ≠ [] ∧ governorActs s = true then settle (evaluate s) else s)

/-- Held frames may go on once no STORE runs (R477). -/
def releaseHeld (s : State) : State :=
  if s.shell.run.isSome then s else { s with engine := { s.engine with frames := s.engine.frames.map (fun r => { r with held := false }) } }

/-- VERIFY (R134, R474, R477, R478): held items, then the pending STORE. -/
def execVerify (good : Bool) (s : State) : Host.Outcome State Fault Refusal :=
  let s1 := verifyEnds good s
  let s2 := if s.chip.state = .hold ∧ good = true ∧ s.shell.run.isSome = true ∧ s1.shell.run.isNone = true then holdStep 2 s1 else s1
  .next (settle (startPending (settle (releaseHeld s2))))

/-- The snapshot that an item waits for is taken at this Pod's frame boundary (R330). -/
def serveSnapshot (p : Nat) (s : State) : State :=
  match s.engine.waiting with
  | some (.snapshot q chan sub) => if q.val = p ∧ laneSilent s p = false then resume (snapshotReply p chan sub s) s else s
  | _ => s

/-- FRAME_BOUNDARY (R270): the frame that ends, a snapshot read, then what takes effect at the boundary. -/
def execFrameBoundary (p : Fin 64) (codes : List Int) (cm : Nat) (s : State) : Host.Outcome State Fault Refusal :=
  .next (if frameRuns (podAt s p.val) then settle (boundaryActs p.val (serveSnapshot p.val (frameEnds p.val codes cm s))) else s)

end Sys2Proof.Machine
end

