-- ==== Sys2Proof/Machine/Gezor.lean ====
section
/-! DEFINITION. Requests as frames (R602-R617), sessions (R618-R622), RESET (R627), EVENT frames (R628-R633), subscriptions
(R634-R637) and TIME frames (R639, R640). -/

namespace Sys2Proof.Machine

/-- What a service comes to: the body of its reply, or a STATUS with its detail (R610). -/
inductive Answer where
  | body (octets : List Nat)
  | status (code detail : Nat)
deriving DecidableEq, Repr

def statusBody (st : Nat) : Answer := .body [st, 0, 0, 0]

/-! ### Structure of a request (R603, R606, R608) -/

/-- The header of a frame (R603). -/
structure Header where
  version : Nat
  flags : Nat
  node : Nat
  tag : Nat
  service : Nat
  tid : Nat
  count : Nat
  plen : Nat
deriving DecidableEq, Repr

def headerOf (c : List Nat) : Header :=
  ⟨c.getD 0 0, c.getD 1 0, beValue ((c.drop 2).take 2), c.getD 4 0, c.getD 5 0, beValue ((c.drop 6).take 2), c.getD 8 0, beValue ((c.drop 10).take 2)⟩

def Header.tchk (h : Header) : Bool := bit h.flags 0
def Header.sess (h : Header) : Bool := bit h.flags 3

/-- TIME and ACK are no requests (R609). -/
def Header.isRequest (h : Header) : Bool := h.service != 7 && h.service != 0x0B

/-- Length of a value by its type code (R51); none for OCTS and TEXT, whose length stands in the item. -/
def wireLength (code : Nat) : Option (Option Nat) :=
  if code = 0x10 ∨ code = 0x11 then some none
  else if 1 ≤ code ∧ code ≤ 0x0F then some (([1, 1, 2, 4, 8, 2, 4, 8, 4, 4, 8, 12, 1, 2, 4])[code - 1]?) else none

/-- What reading an item gives: the offset of its fault, or the item and its length. -/
inductive Parse (α : Type) where
  | bad (offset : Nat)
  | good (x : α) (length : Nat)
deriving DecidableEq, Repr

/-- The value of a WRITE item, from its type code on. -/
def parseWrite (off index sub : Nat) (rest : List Nat) : Parse Item :=
  match rest with
  | [] => .bad (off + 4)
  | code :: r =>
    match wireLength code with
    | none => .bad (off + 4)
    | some (some n) => if r.length < n then .bad (off + 5) else .good (.write index sub code n (beValue (r.take n))) (5 + n)
    | some none =>
      if r.length < 2 then .bad (off + 5)
      else
        let n := beValue (r.take 2)
        if r.length < 2 + n then .bad (off + 7) else .good (.write index sub code n (beValue ((r.drop 2).take n))) (7 + n)

/-- One request item at an offset (R606, R608). -/
def parseItem (off : Nat) (os : List Nat) : Parse Item :=
  match os with
  | a :: b :: sub :: op :: rest =>
    let index := a % 256 * 256 + b % 256
    if op = 1 then .good (.read index sub) 4
    else if op = 3 then .good (.readStaged index sub) 4
    else if op = 2 then parseWrite off index sub rest
    else if op = 4 then
      if index ≠ 0 ∨ sub ≠ 0 then .bad off
      else if rest.length < 12 then .bad (off + 4)
      else .good (.commit (bit (rest.headD 0) 0) (BitVec.ofNat 64 (beValue ((rest.drop 4).take 8)))) 16
    else .bad (off + 3)
  | _ => .bad off

/-- The items of a payload, at most the given number. -/
def parseItems : Nat → Nat → List Nat → Parse (List Item)
  | _, _, [] => .good [] 0
  | 0, _, _ => .bad 8
  | n + 1, off, os =>
    match parseItem off os with
    | .bad e => .bad e
    | .good it len =>
      match parseItems n (off + len) (os.drop len) with
      | .bad e => .bad e
      | .good its _ => .good (it :: its) 0

/-- The service code of an item's operation. -/
def Item.service : Item → Nat
  | .read _ _ => 1
  | .write _ _ _ _ _ => 2
  | .readStaged _ _ => 3
  | .commit _ _ => 4
  | .podReset _ _ => 2

/-- The services of R609 that a frame sent to the device may name. -/
def knownService (service : Nat) : Bool := decide ((1 ≤ service ∧ service ≤ 5) ∨ service = 7 ∨ service = 9 ∨ (0x0A ≤ service ∧ service ≤ 0x0C))

/-- The length of the body of a service with a fixed one, or of SUBSCRIBE by its count (R634). -/
def bodyFits (service : Nat) (body : List Nat) : Bool :=
  if service = 5 then body.length == 16 + 3 * body.getD 6 0
  else if service = 7 ∨ service = 9 ∨ service = 0x0C then body.length == 4
  else if service = 0x0A then body.length == 20
  else if service = 0x0B then body.length == 24
  else true

/-- A request after its structure has been read: session field, body, items. -/
structure Request where
  session : Option (Nat × Nat)
  body : List Nat
  items : List Item
deriving DecidableEq, Repr

/-- Step 2 of R612: the structure, with the offset of the first fault. -/
def parseRequest (h : Header) (c : List Nat) : Parse Request :=
  if 1400 < h.plen ∨ c.length < 12 + h.plen + (if h.tchk then 4 else 0) ∨ (h.sess = true ∧ h.plen < 8) then .bad 10
  else
    let start := if h.sess then 20 else 12
    let body := (c.take (12 + h.plen)).drop start
    let session := if h.sess then some (beValue ((c.drop 12).take 4), beValue ((c.drop 16).take 4)) else none
    if 1 ≤ h.service ∧ h.service ≤ 4 then
      match parseItems 32 start body with
      | .bad e => .bad e
      | .good its _ =>
        match its with
        | [] => .bad 8
        | it :: _ => if its.length ≠ h.count then .bad 8 else if it.service ≠ h.service then .bad 5 else .good ⟨session, body, its⟩ 0
    else if knownService h.service = true ∧ h.count ≠ 0 then .bad 8
    else if !bodyFits h.service body then .bad start
    else .good ⟨session, body, []⟩ 0

/-! ### STATUS and traces (R610, R686) -/

/-- A STATUS frame answers a request that was not executed. -/
def sendStatus (mac : Nat) (h : Header) (code detail : Nat) (s : State) : State :=
  let payload := [code, 0] ++ beOctets 2 detail
  sendFrame ⟨3, etherFrame s mac (gezorData s 2 h.tag 0x0F h.tid 0 0 payload (wantCheck s h.tchk)), 0, 0⟩ s

/-- A FRAME-IN record: its disposition (R685, R686). -/
def traceIn (stamp : Tick) (h : Header) (disposition : Nat) (s : State) : State :=
  traceAdd 4 stamp ([h.service, disposition * 16 + h.flags % 16] ++ beOctets 2 h.tid ++ [h.tag, h.count]) s

/-- A frame fails a step of R612: its counter, its record, a STATUS where it is a request. -/
def rejectFrame (mac : Nat) (stamp : Tick) (h : Header) (step counter code detail : Nat) (s : State) : State :=
  let s1 := traceIn stamp h step (if counter < 18 then gezorCount counter s else s)
  if h.isRequest then sendStatus mac h code detail s1 else s1

/-! ### Requester slots (R614) -/

def slotIndices : List (Fin 4) := [0, 1, 2, 3]

def holdsSub (s : State) (q : Nat) : Bool := s.engine.subs.toList.any (fun x => x.active && x.owner == q)

def sameRequester (x : Requester) (mac node tag : Nat) : Bool := x.used && x.mac == mac && x.node == node && x.tag == tag

def findSlot (mac node tag : Nat) (s : State) : Option (Fin 4) := slotIndices.find? (fun q => sameRequester (slotOf s q.val) mac node tag)

/-- The slot that a new identity may reclaim: the least recently used that holds nothing. -/
def reclaimSlot (s : State) : Option (Fin 4) :=
  slotIndices.foldl (fun a q =>
    let x := slotOf s q.val
    if x.session.isSome || x.opening.isSome || holdsSub s q.val then a
    else match a with
      | some b => if (slotOf s q.val).lastUsed < (slotOf s b.val).lastUsed then some q else a
      | none => some q) none

/-- The slot of an identity: its own, a free one, a reclaimed one with its cache cleared, or none. -/
def takeSlot (mac node tag : Nat) (s : State) : Option (Fin 4) × State :=
  let uses := s.engine.uses + 1
  let put (q : Fin 4) (x : Requester) : Option (Fin 4) × State :=
    (some q, modSlot q.val (fun _ => { x with lastUsed := uses }) { s with engine := { s.engine with uses := uses } })
  match findSlot mac node tag s with
  | some q => put q (slotOf s q.val)
  | none =>
    match (match slotIndices.find? (fun q => !(slotOf s q.val).used) with | some q => some q | none => reclaimSlot s) with
    | some q => put q { Requester.empty with used := true, mac := mac, node := node, tag := tag }
    | none => (none, s)

/-! ### Sessions (R618-R622) -/

/-- SESSION-OPEN within 100 ms of a BAD_PROOF is BUSY (R619). -/
def openBusy (s : State) : Bool :=
  match s.engine.badProof with
  | some t => decide (s.time.elapsed < t + 6553600)
  | none => false

def sessionOpen (q : Fin 4) (level : Nat) (s : State) : Answer × State :=
  if openBusy s then (.status stBusy 0, s)
  else if 3 < level then (.body ([stBadValue] ++ List.replicate 15 0), s)
  else if level = 0 then (.body (List.replicate 16 0), modSlot q.val (fun x => { x with session := none, opening := none }) s)
  else
    let (r, s1) := takeFree s
    let nonce := r % 2 ^ 64
    let number := s1.engine.nextSession
    let s2 : State := { s1 with engine := { s1.engine with nextSession := wrap32 (number + 1) } }
    (.body ([stOk, 0, 0, 0] ++ beOctets 4 number ++ beOctets 8 nonce),
     modSlot q.val (fun x => { x with session := none, opening := some ⟨level, number, nonce, s2.time.elapsed⟩ }) s2)

/-- The message M of R620. -/
def proofMessage (x : Requester) (o : PendingOpen) : List Nat :=
  [o.level] ++ beOctets 4 o.number ++ beOctets 8 o.nonce ++ beOctets 6 x.mac ++ beOctets 2 x.node ++ [x.tag] ++ beOctets 6 ownMac

/-- The key of a level as octets; sixteen zeros where it has never been written (R622). -/
def keyOctets (s : State) (level : Nat) : List Nat := beOctets 16 ((s.dict.keys.getD (level - 1) none).getD 0)

/-- The pending open that a proof proves. -/
def provenOpen (q : Fin 4) (number proof : Nat) (s : State) : Option PendingOpen :=
  let x := slotOf s q.val
  match x.opening with
  | some o =>
    if o.number = number ∧ s.time.elapsed ≤ o.at_ + 65536000 ∧
        beValue ((hmac256 (keyOctets s o.level) (1 :: proofMessage x o)).take 16) = proof then some o else none
  | none => none

def sessionProof (q : Fin 4) (number proof : Nat) (s : State) : Answer × State :=
  let x := slotOf s q.val
  match provenOpen q number proof s with
  | some o =>
    let unset := (s.dict.keys.getD (o.level - 1) none).isNone
    (.body ([stOk, o.level, 0, 0] ++ (hmac256 (keyOctets s o.level) (2 :: proofMessage x o)).take 16),
     gezorCount 6 (modSlot q.val (fun x => { x with opening := none, session := some ⟨o.level, o.number, 0, s.time.elapsed, unset⟩ }) s))
  | none =>
    let s1 := gezorCount 7 (modSlot q.val (fun x => { x with opening := none }) s)
    (.status 0x26 0, { s1 with engine := { s1.engine with badProof := some s1.time.elapsed } })

/-! ### RESET (R208, R627) -/

/-- The status of a RESET request: the chip at every level in SAFE. -/
def resetStatus (who : Who) (target pod : Nat) (s : State) : Nat :=
  if target = 0 then (if who.level.val < 2 ∧ s.chip.state ≠ .safe then stDenied else stOk)
  else if target = 1 then (if who.level.val < 2 then stDenied else if 63 < pod then stBadValue else stOk)
  else if target = 2 then (if who.level.val < 1 then stDenied else stOk)
  else stBadValue

/-- What an accepted RESET of a Pod or of the display does after its reply. -/
def resetDue (target pod : Nat) (laneAnswers : Bool) : ResetDue := if target = 1 then .pod pod laneAnswers else .display

/-- An accepted RESET waits for its reply: the mark that the reply then carries. -/
def resetMarked (target pod : Nat) (s : State) : Nat × State :=
  if target = 0 then (1, { s with engine := { s.engine with afterReply := some .gezor } })
  else
    let m := freshMark s
    (m, { s with engine := { s.engine with resetsDue := s.engine.resetsDue ++ [(m, resetDue target pod true)] } })

/-- An accepted RESET begins. -/
def resetStarts (target pod : Nat) (laneAnswers : Bool) (s : State) : State :=
  if target = 0 then beginReset .gezor s else resetBegins (resetDue target pod laneAnswers) s

/-! ### SUBSCRIBE (R634) -/

/-- Length of the reply item of an address. -/
def addrLength (a : Nat × Nat) : Nat :=
  match findPlace a.1 with
  | none => 2
  | some x => match readType x.obj a.2 with
    | some (code, n) => n + (if 0x10 ≤ code then 4 else 2)
    | none => 2

/-- The status of an address for a stream. -/
def addrStatus (level : Nat) (a : Nat × Nat) : Nat :=
  match findPlace a.1 with
  | none => stNoObject
  | some x => if (readType x.obj a.2).isNone then stNoObject else if level < x.obj.read then stDenied else stOk

def streamStatus (level : Nat) (b : SubBody) (s : State) : Nat :=
  if b.addrs.isEmpty then stNoObject
  else match (b.addrs.map (addrStatus level)).find? (fun st => st != stOk) with
    | some st => st
    | none =>
      let size := b.addrs.foldl (fun n a => n + addrLength a) 16
      if payloadRoom s (wantCheck s false) < size then stTooBig else stOk

/-- The fields of a body that its kind does not allow. -/
def badBody (b : SubBody) : Bool :=
  decide (7 < b.number ∨ 3 < b.kind ∨ 16 < b.addrs.length ∨ (b.kind = 2 ∧ (b.period = 0 ∨ 6000 < b.period)) ∨ (b.kind = 3 ∧ 63 < b.pod))

def putSub (b : SubBody) (owner level : Nat) (s : State) : State :=
  modSub b.number (fun _ => ⟨true, owner, { b with flags := b.flags % 2 }, level, 0, 0, 0, 0, false⟩) s

def subscribeRun (who : Who) (b : SubBody) (s : State) : Nat × State :=
  match who.slot with
  | none => (if who.level.val < 1 then stDenied else 0x27, s)
  | some q =>
    let x := subAt s b.number
    if who.level.val < 1 then (stDenied, s)
    else if badBody b then (stBadValue, s)
    else if x.active ∧ x.owner ≠ q.val ∧ who.level.val < 2 then (stWrongState, s)
    else if b.kind = 0 then (stOk, modSub b.number (fun _ => .empty) s)
    else if b.kind = 1 then
      if s.engine.subs.toList.any (fun y => y.active && y.owner == q.val && y.body.kind == 1 && y.body.number != b.number) then (stWrongState, s)
      else (stOk, putSub b q.val who.level.val s)
    else
      let st := streamStatus who.level.val b s
      if st = stOk then (stOk, putSub b q.val who.level.val s) else (st, s)

/-! ### EVENT frames (R628-R633) -/

def recordOctets (r : EvRec) : List Nat := [r.kind, r.pod, 0, 0] ++ r.octets

/-- The frame of an EVENT sequence with its records. -/
def eventFrame (s : State) (seq : Nat) (rs : List EvRec) : List Nat :=
  etherFrame s (devVal s 0x1108 0)
    (gezorData s 0 0 6 0 rs.length 0 (beOctets 4 seq ++ (rs.map recordOctets).flatten) (wantCheck s false))

/-- A new EVENT frame is built while records wait and fewer than four are outstanding (R630). -/
def buildEvent (s : State) : State :=
  if serving s && !s.engine.events.isEmpty && decide (s.engine.outstanding.length < 4) then
    let n := max 1 (min 32 ((payloadRoom s (wantCheck s false) - 4) / 28))
    let seq := s.engine.evSeq
    let rs := s.engine.events.take n
    let s1 : State := { s with engine := { s.engine with
        events := s.engine.events.drop n, evSeq := wrap32 (seq + 1),
        outstanding := s.engine.outstanding ++ [⟨seq, rs, [], true, 0, true, 0⟩] } }
    sendFrame ⟨2, eventFrame s seq rs, seq, 0⟩ s1
  else s

/-- An outstanding frame ends; what of it still waits in the queue is withdrawn. -/
def endEvent (seq : Nat) (s : State) : State :=
  { s with
    engine := { s.engine with outstanding := s.engine.outstanding.filter (fun f => f.seq != seq) },
    link := { s.link with queue := s.link.queue.filter (fun f => !((f.cls == 2 || f.cls == 4) && f.tag == seq)) } }

def modEvent (seq : Nat) (g : EvFrame → EvFrame) (s : State) : State :=
  { s with engine := { s.engine with outstanding := s.engine.outstanding.map (fun f => if f.seq = seq then g f else f) } }

/-- The event subscription of a slot, changed. -/
def onEventSub (q : Nat) (g : Sub → Sub) (s : State) : State :=
  { s with engine := { s.engine with subs := s.engine.subs.map (fun x => if x.active && x.owner == q && x.body.kind == 1 then g x else x) } }

/-- An ACK names an EVENT sequence (R631). -/
def ackEvent (slot : Option (Fin 4)) (seq : Nat) (s : State) : State :=
  match s.engine.outstanding.find? (fun f => f.seq == seq) with
  | none => gezorCount 12 s
  | some f =>
    if f.anyAck then endEvent seq s
    else match slot with
      | none => s
      | some q =>
        if f.awaiting.contains q.val then
          let s1 := onEventSub q.val (fun x => { x with misses := 0 }) (modEvent seq (fun f => { f with awaiting := f.awaiting.erase q.val }) s)
          if f.awaiting.erase q.val = [] then endEvent seq s1 else s1
        else s

/-- A miss of an event subscription; the eighth in a row cancels it (R632). -/
def missEvent (s : State) (q : Nat) : State :=
  onEventSub q (fun x => if 8 ≤ x.misses + 1 then .empty else { x with misses := x.misses + 1 }) s

/-- A frame that has not ended 2 ms after its transmission is sent again, or ends unacknowledged (R632); a retry over the
length limit is discarded (R587) and counts as sent at once. -/
def retryEvent (seq : Nat) (s : State) : State :=
  match s.engine.outstanding.find? (fun f => f.seq == seq) with
  | none => s
  | some f =>
    if f.queued ∨ s.time.elapsed < f.sentAt + 131072 then s
    else if f.retries < 3 then
      sendFrame ⟨4, eventFrame s seq f.records, seq, 1⟩ (modEvent seq (fun f => { f with
        retries := f.retries + 1, queued := decide ((eventFrame s seq f.records).length + 4 ≤ devVal s 0x110A 0), sentAt := s.time.elapsed }) s)
    else
      let s1 := gezorCount 11 (endEvent seq (f.awaiting.foldl missEvent s))
      { s1 with engine := { s1.engine with evUnacked := wrap32 (s1.engine.evUnacked + 1), evDropped := wrap32 (s1.engine.evDropped + f.records.length) } }

/-! ### TIME frames (R639, R640, R178-R180) -/

def latchPut (ls : List (Nat × Tick)) (seq : Nat) (t : Tick) : List (Nat × Tick) := ls.filter (fun e => e.1 != seq) ++ [(seq, t)]

/-- A TIME frame with the STAMP latched at its start-frame delimiter; a step moves the latches with STAMP. -/
def timeFrame (node epoch seq body : Nat) (latch : Tick) (s : State) : State :=
  let master := devVal s 0x2503 0
  if master = 0xFFFF ∨ node ≠ master then s
  else if epoch ≠ devVal s 0x2500 0 ∨ contained s 5 = true then
    { s with time := { s.time with rejects := wrap32 (s.time.rejects + 1) } }
  else
    let kept (s : State) (ls : List (Nat × Tick)) : State := { s with time := { s.time with latches := latchPut ls seq latch } }
    match s.time.latches.find? (fun e => e.1 == (seq + 65535) % 65536) with
    | none => kept s s.time.latches
    | some e =>
      let s1 := acceptTime ((body : Int) - e.2) (gezorCount 17 s)
      let moved : Int := (s1.time.stamp : Int) - s.time.stamp
      let shift (t : Tick) : Tick := ((t : Int) + moved).toNat
      { s1 with time := { s1.time with latches := latchPut (s.time.latches.map (fun e => (e.1, shift e.2))) seq (shift latch) } }

/-- The STAMP that the PHY latches at a start-frame delimiter (R179). -/
def latchSfd (s : State) : Tick × State := (s.time.stamp + (Config.sfdSlip s.fresh).val - 3, { s with fresh := s.fresh + 1 })

/-! ### Receiving a request (R611-R616) -/

/-- The requester of a frame acts at its session's level where SESS is set, else at PUBLIC (R618). -/
def frameWho (slot : Option (Fin 4)) (r : Request) (s : State) : Who :=
  match slot, r.session with
  | some q, some _ => ⟨(match (slotOf s q.val).session with | some x => Fin.ofNat 4 x.level | none => 0), slot⟩
  | _, _ => ⟨0, slot⟩

/-- Step 7 of R612: the STATUS that an invalid session field gets. -/
def sessionFault (slot : Option (Fin 4)) (r : Request) (s : State) : Option (Nat × Nat) :=
  match slot, r.session with
  | some q, some (number, counter) =>
    (match (slotOf s q.val).session with
     | some x => if x.number ≠ number then some (0x24, 0) else if counter ≤ x.counter then some (0x25, x.counter % 65536) else none
     | none => some (0x24, 0))
  | _, _ => none

/-- An accepted session field moves the last counter and the idle time (R621, R622). -/
def touchSession (slot : Option (Fin 4)) (r : Request) (s : State) : State :=
  match slot, r.session with
  | some q, some (_, counter) =>
    modSlot q.val (fun x => { x with session := x.session.map (fun y => { y with counter := counter, lastAt := s.time.elapsed }) }) s
  | _, _ => s

/-- The body of SUBSCRIBE (R634). -/
def subBody (b : List Nat) : SubBody :=
  ⟨b.getD 0 0, b.getD 1 0, b.getD 2 0, b.getD 3 0, beValue ((b.drop 4).take 2), BitVec.ofNat 64 (beValue ((b.drop 8).take 8)),
   (List.range (b.getD 6 0)).map (fun k => (beValue ((b.drop (16 + 3 * k)).take 2), b.getD (18 + 3 * k) 0))⟩

/-- A service that is no item service executes: its answer and the mark of its reply. Without a slot a proof finds no pending open
(R620). -/
def runService (who : Who) (h : Header) (body : List Nat) (s : State) : Answer × Nat × State :=
  if h.service = 5 then let (st, s1) := subscribeRun who (subBody body) s; (statusBody st, 0, s1)
  else if h.service = 0x0C then
    let target := body.getD 0 0
    let pod := body.getD 1 0
    let st := resetStatus who target pod s
    (statusBody st, if st = stOk then resetMarked target pod s else (0, s))
  else match who.slot with
    | none => (.status 0x26 0, 0, { gezorCount 7 s with engine := { (gezorCount 7 s).engine with badProof := some s.time.elapsed } })
    | some q =>
      let (a, s1) := if h.service = 9 then sessionOpen q (body.getD 0 0) s else sessionProof q (beValue (body.take 4)) (beValue (body.drop 4)) s
      (a, 0, s1)

/-- The reply of a service goes into the cache and the queue. -/
def answerService (who : Who) (mac : Nat) (h : Header) (a : Answer) (mark : Nat) (s : State) : State :=
  let (code, payload) := match a with
    | .body os => (h.service, os)
    | .status st detail => (0x0F, [st, 0] ++ beOctets 2 detail)
  queueReply who.slot h.tid [etherFrame s mac (gezorData s 2 h.tag code h.tid 0 0 payload (wantCheck s h.tchk))] mark s

/-- A request has passed the steps of R612: it executes. -/
def executeRequest (slot : Option (Fin 4)) (mac : Nat) (stamp : Tick) (h : Header) (r : Request) (s : State) : State :=
  let who := frameWho slot r s
  let s1 := gezorCount 0 (traceIn stamp h 0 (match slot with | some q => cacheOpen q.val h.tid h.service s | none => s))
  if h.service ≤ 4 then
    settle { s1 with engine := { s1.engine with
      frames := s1.engine.frames ++ [⟨who, mac, h.tag, h.tid, h.service, h.tchk, r.items, [], false, false⟩] } }
  else
    let (a, mark, s2) := runService who h r.body s1
    answerService who mac h a mark s2

/-- Steps 5 to 8 of R612. -/
def admitRequest (mac : Nat) (stamp : Tick) (h : Header) (r : Request) (s : State) : State :=
  let (slot, s1) := takeSlot mac h.node h.tag s
  if slot.isNone ∧ h.service = 9 then rejectFrame mac stamp h 5 18 0x27 0 s1
  else
    let cached : Option CacheEntry := match slot with
      | some q => (slotOf s1 q.val).cache.find? (fun e => e.tid == h.tid)
      | none => none
    match cached with
    | some e =>
      let s2 := traceIn stamp h 6 (gezorCount 3 s1)
      if e.complete then e.frames.foldl (fun s f => sendFrame ⟨3, f, 0, 2⟩ s) s2 else s2
    | none =>
      match sessionFault slot r s1 with
      | some (code, detail) => rejectFrame mac stamp h 7 (if code = 0x24 then 4 else 5) code detail s1
      | none =>
        let s2 : State := touchSession slot r s1
        if s2.chip.state = .safe ∧ h.service ≠ 1 ∧ h.service ≠ 0x0C then rejectFrame mac stamp h 8 18 stWrongState 0 s2
        else if h.service = 9 ∧ openBusy s2 = true then rejectFrame mac stamp h 0 18 stBusy 0 s2
        else executeRequest slot mac stamp h r s2

/-- The check of a frame that carries one, or that has to (R604). -/
def checkFails (h : Header) (c : List Nat) (s : State) : Bool :=
  if h.tchk then crc32c (c.take (12 + h.plen)) != beValue ((c.drop (12 + h.plen)).take 4) else h.isRequest && devVal s 0x1201 0 == 1

/-- A frame handed to the engine: where it was addressed, its source, its client data, its latched STAMP (R611, R612). It waits while
CORE is held (R185). -/
def engineReceive (own : Bool) (mac : Nat) (c : List Nat) (stamp : Tick) (s : State) : State :=
  let h := headerOf c
  if !engineTakes s || decide (c.length < 12) then s
  else if !coreRuns s then engineWait (.frame own mac c stamp) s
  else if h.isRequest && !own then traceIn stamp h 9 (gezorCount 16 s)
  else if h.version ≠ 1 then rejectFrame mac stamp h 1 1 0x21 0 s
  else match parseRequest h c with
    | .bad off => rejectFrame mac stamp h 2 1 0x20 off s
    | .good r _ =>
      if checkFails h c s then rejectFrame mac stamp h 3 2 0x23 0 s
      else if !knownService h.service then rejectFrame mac stamp h 4 1 0x22 0 s
      else if h.service = 0x0B then
        timeFrame h.node (beValue (r.body.take 8)) (beValue ((r.body.drop 8).take 2)) (beValue ((r.body.drop 16).take 8)) stamp (traceIn stamp h 10 s)
      else if h.service = 7 then ackEvent (findSlot mac h.node h.tag s) (beValue (r.body.take 4)) (traceIn stamp h 11 s)
      else admitRequest mac stamp h r s

/-! ### Commands of the services (log 8) -/

def lastAnswer (a : Answer) (s : State) : State :=
  { s with engine := { s.engine with last := match a with
      | .body os => ⟨os.headD 0, 0, os⟩
      | .status st _ => ⟨st, 0, []⟩ } }

/-- A service executes outside SAFE; its outcome goes to `engine.last`. -/
def serviceRun (f : State → Answer × State) (s : State) : State :=
  if s.chip.state = .safe then lastAnswer (.status stWrongState 0) s else lastAnswer (f s).1 (f s).2

/-- A service of a requester, who needs a slot. -/
def sessionRun (slot : Fin 4) (f : State → Answer × State) : State → State :=
  serviceRun (fun s => if (slotOf s slot.val).used then f s else (.status 0x27 0, s))

/-- A RESET without its frame: in SAFE too (R529), and it begins at once. -/
def resetRun (who : Who) (target pod : Nat) (laneAnswers : Bool) (s : State) : State :=
  let st := resetStatus who target pod s
  let s1 := lastAnswer (statusBody st) s
  if st = stOk then resetStarts target pod laneAnswers s1 else s1

/-- What a service does that reaches the engine by itself, once CORE runs. -/
def serviceRow (c : Instr) (s : State) : State :=
  match c with
  | .resetServiceChip who => resetRun who 0 0 true s
  | .resetServicePod who pod laneAnswers => resetRun who 1 pod laneAnswers s
  | .resetServiceDisplay who => resetRun who 2 0 true s
  | .sessionOpen slot level => sessionRun slot (sessionOpen slot level) s
  | .sessionProof slot number proof => sessionRun slot (sessionProof slot number proof) s
  | .subscribe who b => serviceRun (fun s => (statusBody (subscribeRun who b s).1, (subscribeRun who b s).2)) s
  | .ack slot seq => ackEvent slot seq s
  | _ => s

/-- What reaches the engine while CORE is held waits (R185). -/
def whenCore (x : RxWait) (f : State → State) (s : State) : State :=
  if serving s then f s else if engineTakes s then engineWait x s else s

/-- What waited for CORE is taken in its order. STAMPs latched before a step move with STAMP (R180). -/
def takeOne (a : Int × State) (x : RxWait) : Int × State :=
  let moved (t : Tick) : Tick := ((t : Int) + a.1).toNat
  let s := a.2
  let s1 := match x with
    | .frame own mac octets stamp => engineReceive own mac octets (moved stamp) s
    | .time node epoch seq body stamp => timeFrame node epoch seq body (moved stamp) s
    | .item who it => rowRun who it s
    | .row c => if serving s then serviceRow c s else s
  (a.1 + ((s1.time.stamp : Int) - s.time.stamp), s1)

/-- CORE runs again: the engine takes what waited, and its work goes on (R185). -/
def resumeCore (s : State) : State :=
  if serving s then settle (s.engine.inbox.foldl takeOne (0, { s with engine := { s.engine with inbox := [] } })).2 else s

/-- SWITCH_COMPLETE (R155). -/
def execSwitchComplete (mux : MuxName) (s : State) : Host.Outcome State Fault Refusal :=
  .next (if mux = .core then resumeCore (switchCompletes mux s) else switchCompletes mux s)

/-- RESCUE_RELEASE (R162, R168). -/
def execRescueRelease (mux : MuxName) (s : State) : Host.Outcome State Fault Refusal :=
  .next (if mux = .core then resumeCore (rescueReleased mux s)
    else if mux = .husk then latchHeldTrips (rescueReleased mux s)
    else rescueReleased mux s)

/-- RESET_SERVICE_CHIP (R208, R627). -/
def execResetServiceChip (who : Who) (s : State) : Host.Outcome State Fault Refusal :=
  .next (whenCore (.row (.resetServiceChip who)) (serviceRow (.resetServiceChip who)) s)

/-- RESET_SERVICE_POD (R208, R216, R217). -/
def execResetServicePod (who : Who) (pod : Nat) (laneAnswers : Bool) (s : State) : Host.Outcome State Fault Refusal :=
  .next (whenCore (.row (.resetServicePod who pod laneAnswers)) (serviceRow (.resetServicePod who pod laneAnswers)) s)

/-- RESET_SERVICE_DISPLAY (R218). -/
def execResetServiceDisplay (who : Who) (s : State) : Host.Outcome State Fault Refusal :=
  .next (whenCore (.row (.resetServiceDisplay who)) (serviceRow (.resetServiceDisplay who)) s)

/-- SESSION_OPEN (R619). -/
def execSessionOpen (slot : Fin 4) (level : Nat) (s : State) : Host.Outcome State Fault Refusal :=
  .next (whenCore (.row (.sessionOpen slot level)) (serviceRow (.sessionOpen slot level)) s)

/-- SESSION_PROOF (R620). -/
def execSessionProof (slot : Fin 4) (number proof : Nat) (s : State) : Host.Outcome State Fault Refusal :=
  .next (whenCore (.row (.sessionProof slot number proof)) (serviceRow (.sessionProof slot number proof)) s)

/-- SESSION_OPEN_EXPIRY (R619): a pending open lapses after 1 s. -/
def execSessionOpenExpiry (slot : Fin 4) (s : State) : Host.Outcome State Fault Refusal :=
  .next (match (slotOf s slot.val).opening with
    | some o => if o.at_ + 65536000 ≤ s.time.elapsed then modSlot slot.val (fun x => { x with opening := none }) s else s
    | none => s)

/-- SESSION_IDLE_EXPIRY (R622). -/
def execSessionIdleExpiry (slot : Fin 4) (s : State) : Host.Outcome State Fault Refusal :=
  .next (match (slotOf s slot.val).session with
    | some x =>
      if x.lastAt + devVal s 0x1202 0 * 65536000 ≤ s.time.elapsed then
        gezorCount 8 (modSlot slot.val (fun y => { y with session := none }) s) else s
    | none => s)

/-- SUBSCRIBE (R634). -/
def execSubscribe (who : Who) (b : SubBody) (s : State) : Host.Outcome State Fault Refusal :=
  .next (whenCore (.row (.subscribe who b)) (serviceRow (.subscribe who b)) s)

/-- ACK (R631). -/
def execAck (slot : Option (Fin 4)) (seq : Nat) (s : State) : Host.Outcome State Fault Refusal :=
  .next (whenCore (.row (.ack slot seq)) (serviceRow (.ack slot seq)) s)

/-- TIME (R640): its STAMP is latched when it arrives (R179). -/
def execTime (node epoch seq body : Nat) (s : State) : Host.Outcome State Fault Refusal :=
  .next (if engineTakes s then
      let (t, s1) := latchSfd s
      whenCore (.time node epoch seq body t) (timeFrame node epoch seq body t) s1
    else s)

/-- EVENT (R630). -/
def execEvent (s : State) : Host.Outcome State Fault Refusal := .next (buildEvent s)

/-- EVENT_RETRY (R632). -/
def execEventRetry (seq : Nat) (s : State) : Host.Outcome State Fault Refusal := .next (if serving s then retryEvent seq s else s)

/-- STREAM_SAMPLE (R635): STAMP is a multiple of the period. -/
def execStreamSample (k : Fin 8) (s : State) : Host.Outcome State Fault Refusal :=
  let x := subAt s k.val
  .next (if streamsRun s ∧ x.active = true ∧ x.body.kind = 2 ∧ s.time.stamp % (x.body.period * 655360) = 0 then
    settle (modSub k.val (fun x => { x with due := true }) s) else s)

/-- The window streams of a Pod fall due at its window end (R635). -/
def windowStreams (p : Nat) (s : State) : State :=
  if streamsRun s then
    settle { s with engine := { s.engine with subs := s.engine.subs.map (fun x =>
      if x.active && x.body.kind == 3 && x.body.pod == p then { x with due := true } else x) } }
  else s

/-- The oldest window that waits has all its values, and its half-cycles have been booked (R347). -/
def windowDue (d : Pod) : Bool :=
  match d.meter.winQueue with
  | iv :: _ => reached d iv.stop && decide (iv.stop ≤ d.meter.boundary)
  | [] => false

/-- WINDOW_END (R347, R635). -/
def execWindowEnd (p : Fin 64) (s : State) : Host.Outcome State Fault Refusal :=
  .next (if runsFrames (podAt s p.val) && windowDue (podAt s p.val) then
    windowStreams p.val (modPod p.val windowNext s) else s)

end Sys2Proof.Machine
end

