-- ==== Sys2Proof/Machine/Link.lean ====
section
/-! DEFINITION. The trunk link (R574-R601): frames received and sent, PLCA, strangers, as meanings of their commands. -/

namespace Sys2Proof.Machine

/-! ### Receiving (R582, R594, R597) -/

/-- The PHY receives (R577). -/
def phyOn (c : LinkCode) : Bool := c != .off && c != .wakeListen

def plcaActive (c : LinkCode) : Bool := c == .follower || c == .coordinator

/-- A frame of the frequency source makes BRC discipline available (R148, R149, R582, R597). -/
def noteBrc (f : RxFrame) (s : State) : State :=
  let node := devVal s 0x2108 0
  if f.symbolError = false ∧ 64 ≤ f.length ∧ plcaActive s.link.code = true ∧ node ≠ 0xFF ∧ f.plcaNode = some node then
    { s with clocks := { s.clocks with brc := true } } else s

/-- A wait that holds a receive buffer. -/
def RxWait.isFrame : RxWait → Bool
  | .frame _ _ _ _ => true
  | _ => false

/-- The counter of the first step of R594 that a frame fails; none where it is handed over. -/
def receiveFault (f : RxFrame) (s : State) : Option Nat :=
  let os := f.octets.map (·.toNat)
  let dst := beValue (os.take 6)
  if f.symbolError then some 5
  else if f.length < 64 then some 6
  else if 1518 < f.length then some 7
  else if !f.fcsGood then some 4
  else if dst ≠ ownMac ∧ dst ≠ 0xFFFFFFFFFFFF ∧ dst ≠ devVal s 0x1108 0 then some 2
  else if beValue ((os.drop 6).take 6) = ownMac then some 14
  else if beValue ((os.drop 12).take 2) ≠ devVal s 0x1109 0 then some 3
  else if !f.bufferFree ∨ 4 ≤ (s.engine.inbox.filter RxWait.isFrame).length then some 15
  else none

/-- FRAME_RECEIVE (R594, R611, R612). -/
def execFrameReceive (f : RxFrame) (s : State) : Host.Outcome State Fault Refusal :=
  .next (if !phyOn s.link.code then s
    else
      let (stamp, s1) := latchSfd s
      let s2 := noteBrc f s1
      match receiveFault f s2 with
      | some k => linkCount k s2
      | none =>
        let os := f.octets.map (·.toNat)
        engineReceive (beValue (os.take 6) == ownMac) (beValue ((os.drop 6).take 6)) (os.drop 14) stamp (linkCount 0 s2))

/-! ### Transmitting (R581, R587, R595, R641) -/

/-- The slots that hold an event subscription (R630). -/
def eventOwners (s : State) : List Nat := [0, 1, 2, 3].filter (fun q => s.engine.subs.toList.any (fun x => x.active && x.owner == q && x.body.kind == 1))

/-- An EVENT frame's transmission is over: its 2 ms begin; the first one fixes the requesters it awaits (R630, R632). -/
def eventLeft (first : Bool) (seq : Nat) (s : State) : State :=
  let owners := eventOwners s
  modEvent seq (fun f => { f with
    queued := false, sentAt := s.time.elapsed, awaiting := if first then owners else f.awaiting,
    anyAck := if first then owners.isEmpty else f.anyAck }) s

/-- What follows for the engine when one of its frames has left the queue, sent or discarded. -/
def frameLeft (f : TxFrame) (sent : Bool) (s : State) : State :=
  if f.cls = 2 then
    let s1 := eventLeft true f.tag s
    if sent then (eventOwners s).foldl (fun s q => onEventSub q (fun x => { x with sent := wrap32 (x.sent + 1) }) s) (gezorCount 9 s1) else s1
  else if f.cls = 4 then eventLeft false f.tag (if sent then gezorCount 10 s else s)
  else if f.cls = 5 then (if sent then gezorCount 13 (modSub f.tag (fun x => { x with sent := wrap32 (x.sent + 1) }) s) else s)
  else if f.cls = 3 ∧ f.tag = 1 then resetAfter s
  else if f.cls = 3 ∧ f.tag ≠ 0 then resetsBegin f.tag s
  else s

/-- A frame as it leaves: the group address and the EtherType are those in effect at its start-frame delimiter (R583). -/
def addressed (s : State) (f : TxFrame) : TxFrame :=
  let group := f.cls == 1 || f.cls == 2 || f.cls == 4 || (f.cls == 5 && bit (subAt s f.tag).body.flags 0)
  let dst := if group then beOctets 6 (devVal s 0x1108 0) else f.octets.take 6
  { f with octets := dst ++ (f.octets.drop 6).take 6 ++ beOctets 2 (devVal s 0x1109 0) ++ f.octets.drop 14 }

/-- A frame is sent to its end. -/
def transmitFrame (f : TxFrame) (s : State) : State :=
  let g := addressed s f
  let s1 := linkCount 1 (traceOut g.disposition g.octets s)
  frameLeft g true { s1 with link := { s1.link with sent := s1.link.sent ++ [g], attempts := 0 } }

/-- The first frame of the queue is dropped and counted (R591, R592, R595). -/
def dropHead (s : State) : State :=
  match s.link.queue with
  | [] => s
  | f :: rest => frameLeft f false (linkCount 9 { s with link := { s.link with queue := rest, attempts := 0 } })

/-- At most the given number of queued frames, while the link stays as it is. -/
def sendBurst : Nat → State → State
  | 0, s => s
  | n + 1, s =>
    match s.link.queue with
    | [] => s
    | f :: rest =>
      let s1 := transmitFrame f { s with link := { s.link with queue := rest } }
      if s1.link.code = s.link.code then sendBurst n s1 else s1

/-- In LISTEN-ONLY frames at the head of the queue are discarded (R578, R644). -/
def discardQueue (s : State) : State :=
  s.link.queue.foldl (fun s f => frameLeft f false (traceOut 3 f.octets s)) { s with link := { s.link with queue := [] } }

/-- The Guard record of PWR source 0x01 in its own EVENT frame (R633); none while that entry is not there. -/
def powerFailEvent (s : State) : Option TxFrame :=
  (s.guard.history.find? (fun e => e.cls == 2 && e.source == 1)).map (fun e =>
    ⟨1, eventFrame s s.engine.evSeq [⟨1, 0xFF, histOctets e⟩], 0, 0⟩)

/-- In HOLD the power-fail EVENT goes once, and no other frame (R579, R633). -/
def sendInHold (s : State) : State :=
  if s.engine.powerEvent then
    let s1 : State := { s with engine := { s.engine with powerEvent := false } }
    match powerFailEvent s with
    | some f => gezorCount 9 (transmitFrame f { s1 with engine := { s1.engine with evSeq := wrap32 (s1.engine.evSeq + 1) } })
    | none => s1
  else s

/-- An occasion to transmit, for at most the given number of frames. -/
def transmit (limit : Nat) (s : State) : State :=
  let s1 := settle { s with link := { s.link with sent := [], unreached := 0 } }
  if s1.chip.state = .hold then sendInHold s1
  else
    let s2 := sendBurst limit s1
    let s3 : State := if plcaActive s2.link.code then { s2 with link := { s2.link with control := if s2.link.sent.isEmpty then 7 else 9 } } else s2
    settle s3

/-- TRANSMIT_OPPORTUNITY (R581): one frame, or a burst; in LISTEN-ONLY the queue is discarded (R578). -/
def execTransmitOpportunity (s : State) : Host.Outcome State Fault Refusal :=
  .next (if plcaActive s.link.code then transmit (1 + s.link.maxBurst) s
    else if s.link.code = .listenOnly then discardQueue { s with link := { s.link with sent := [] } }
    else s)

/-- CSMA_TRANSMIT (R595). -/
def execCsmaTransmit (s : State) : Host.Outcome State Fault Refusal :=
  .next (if s.link.code = .csma ∨ s.link.code = .fallback then transmit 1 s else s)

/-- A collision of the frame at the head of the queue; the sixteenth drops it (R591, R595). -/
def collide (s : State) : State :=
  let s1 := linkCount 8 { s with link := { s.link with attempts := s.link.attempts + 1 } }
  if 16 ≤ s1.link.attempts then dropHead s1 else s1

/-- OWN_FRAME_COLLISION (R595). -/
def execOwnFrameCollision (s : State) : Host.Outcome State Fault Refusal :=
  .next (if (s.link.code = .csma ∨ s.link.code = .fallback) ∧ s.link.queue ≠ [] then collide s else s)

/-! ### PLCA states (R577, R589, R590) -/

/-- A BEACON is sent or heard: its STAMP, the length of the cycle that it ends, the burst limit of the one that it starts (R583). -/
def noteBeacon (s : State) : State :=
  let l := s.link
  let whole := plcaActive l.code && decide (l.enteredAt ≤ l.beaconElapsed)
  { s with link := { l with
      beaconStamp := s.time.stamp, beaconElapsed := s.time.elapsed, maxBurst := devVal s 0x1104 0,
      cycle := if whole then wrap32 ((s.time.elapsed - l.beaconElapsed) * 10000000 / 65536000) else l.cycle } }

/-- SILENT with a hold-off of 1.0 to 8.0 ms from the random source, and its LINK fault (R590). -/
def enterSilent (s : State) : State :=
  let (r, s1) := takeFree (setLink .silent s)
  raise .link 0 3 0 { s1 with link := { s1.link with silentFor := 10 + r % 71 } }

/-- BEACON (R577, R589): in COORDINATOR the device's own. -/
def execBeacon (s : State) : Host.Outcome State Fault Refusal :=
  .next (match s.link.code with
    | .joining => if effectiveNode s = 0 then enterSilent (noteBeacon s) else noteBeacon (setLink .follower s)
    | .fallback => noteBeacon (setLink .follower s)
    | .follower =>
      let s1 := noteBeacon s
      { s1 with link := { s1.link with unreached := min 16 (s1.link.unreached + 1), control := 4 } }
    | .coordinator =>
      let s1 := noteBeacon s
      { s1 with link := { s1.link with control := 3 } }
    | .off | .wakeListen => s
    | _ => noteBeacon s)

/-- BEACON_TIMEOUT (R577): no BEACON for 2.0 ms. -/
def execBeaconTimeout (s : State) : Host.Outcome State Fault Refusal :=
  let since := max s.link.enteredAt s.link.beaconElapsed
  .next (if s.link.code = .follower ∧ since + 131072 ≤ s.time.elapsed then setLink .fallback s
    else if s.link.code = .joining ∧ effectiveNode s ≠ 0 ∧ s.link.enteredAt + 131072 ≤ s.time.elapsed then setLink .fallback s
    else s)

/-- COORDINATOR_LISTEN_END (R202): no BEACON in 1.0 ms; the first cycle starts with the burst limit in effect (R583). -/
def execCoordinatorListenEnd (s : State) : Host.Outcome State Fault Refusal :=
  .next (if s.link.code = .joining ∧ effectiveNode s = 0 ∧ s.link.enteredAt + 65536 ≤ s.time.elapsed then
    let s1 := setLink .coordinator s
    clearCause .link 0 3 { s1 with link := { s1.link with maxBurst := devVal s 0x1104 0 } } else s)

/-- FOREIGN_BEACON (R590). -/
def execForeignBeacon (s : State) : Host.Outcome State Fault Refusal :=
  .next (if s.link.code = .coordinator then enterSilent (noteBeacon (linkCount 11 s)) else s)

/-- SILENT_HOLD_OFF_END (R590): the hold-off counts in 0.1 ms. -/
def execSilentHoldOffEnd (s : State) : Host.Outcome State Fault Refusal :=
  .next (if s.link.code = .silent ∧ s.link.silentFor * 65536000 ≤ (s.time.elapsed - s.link.enteredAt) * 10000 then linkJoin s else s)

/-! ### Strangers (R591-R593) -/

/-- INTRUSION (R591, R601): carrier, or a collision of the own frame, in the own opportunity. -/
def execIntrusion (collision : Bool) (s : State) : Host.Outcome State Fault Refusal :=
  .next (if plcaActive s.link.code then
    let recent := s.link.intrusions.filter (fun t => decide (s.time.stamp < t + 65536000))
    let s1 := linkCount 10 { s with link := { s.link with intrusions := recent ++ [s.time.stamp] } }
    let s2 := if collision && !s1.link.queue.isEmpty then collide s1 else s1
    if 3 ≤ recentIntrusions s2 then raise .link 0 2 0 s2 else clearCause .link 0 2 s2
    else s)

/-- OWN_JABBER (R592): the transmitter is cut, and what it sent is dropped. -/
def execOwnJabber (s : State) : Host.Outcome State Fault Refusal :=
  .next (if linkOpens s.link.code then raise .link 0 4 0 (linkCount 13 (dropHead s)) else s)

/-- REMOTE_JABBER (R592): activity of 2 000 us counts as a frame that is too long (R574). -/
def execRemoteJabber (s : State) : Host.Outcome State Fault Refusal := .next (if phyOn s.link.code then linkCount 7 s else s)

/-- SYMBOL_ERROR_INTERVAL (R593). -/
def execSymbolErrorInterval (count : Nat) (s : State) : Host.Outcome State Fault Refusal :=
  .next (if !phyOn s.link.code then s
    else if devVal s 0x110B 0 < count then raise .link 0 5 0 s else clearCause .link 0 5 s)

end Sys2Proof.Machine
end

