-- ==== Sys2Proof/Machine/Trace.lean ====
section
/-! DEFINITION. The trace port (R680-R690): records with their sequence and check, SYNC and LOSS markers. -/

namespace Sys2Proof.Machine

/-- The port has a clock and runs (R682, R690). -/
def portRuns (s : State) : Bool :=
  traceOn s && (match (muxAt s 5).code with
    | .primary => s.clocks.corePll && (muxAt s 1).code == .primary
    | .alternate => true
    | _ => false)

/-- The 16 octets of a record (R683). -/
def recordBytes (seq : Nat) (r : TraceRec) : List Nat :=
  let os := [0x50 + r.kind % 16, seq % 256] ++ beOctets 6 r.stamp ++ (r.payload ++ List.replicate 6 0).take 6
  os ++ beOctets 2 (crc16 os)

/-- The port emits a record: its octets on the balls, its sequence number, its count (R658, R683). -/
def emitRecord (r : TraceRec) (s : State) : State :=
  { s with obs := { s.obs with out := s.obs.out ++ [recordBytes s.obs.seq r], seq := (s.obs.seq + 1) % 256, emitted := wrap32 (s.obs.emitted + 1) } }

/-- A SYNC marker (R684, R685). -/
def emitSync (s : State) : State :=
  let t := s.time.stamp
  let s1 := emitRecord ⟨0, t, beOctets 2 (t / 2 ^ 48) ++ beOctets 4 (devVal s 0x8100 0)⟩ s
  { s1 with obs := { s1.obs with syncDue := false, lastSync := t } }

/-- A LOSS marker (R685, R688). -/
def emitLoss (s : State) : State :=
  let s1 := emitRecord ⟨15, s.obs.dropStamp, beOctets 4 s.obs.dropped ++ [0, 0]⟩ s
  { s1 with obs := { s1.obs with dropped := 0 } }

/-- The markers that stand before the next record (R684, R688). -/
def emitMarkers (s : State) : State :=
  if 0 < s.obs.dropped then emitSync (emitLoss s) else if s.obs.syncDue then emitSync s else s

/-- TRACE_RECORD (R683, R688): the next queued record, after the markers that are due. -/
def execTraceRecord (s : State) : Host.Outcome State Fault Refusal :=
  .next (match s.obs.queue with
    | [] => s
    | r :: rest =>
      if portRuns s then emitRecord r (emitMarkers { s with obs := { s.obs with queue := rest, out := [] } }) else s)

/-- TRACE_SYNC (R684): at the start of the port, and 1 s of STAMP after the previous SYNC. -/
def execTraceSync (s : State) : Host.Outcome State Fault Refusal :=
  .next (if portRuns s = true ∧ (s.obs.syncDue = true ∨ s.obs.lastSync + 65536000 ≤ s.time.stamp) then
    emitSync { s with obs := { s.obs with out := [] } } else s)

end Sys2Proof.Machine
end

