-- ==== Sys2Proof/Machine/Dispatch.lean ====
section
/-! DEFINITION. The dispatch of commands to their meanings: one arm per constructor of `Instr`. -/

namespace Sys2Proof.Machine

def exec (i : Instr) (s : State) : Host.Outcome State Fault Refusal :=
  match i with
  | .trunkStart mv => Sys2Proof.Machine.execTrunkStart mv s
  | .inrushEnd => Sys2Proof.Machine.execInrushEnd s
  | .startStop mv => Sys2Proof.Machine.execStartStop mv s
  | .powerOnResetRelease mv straps => Sys2Proof.Machine.execPowerOnResetRelease mv straps s
  | .holdCapMeasured microfarad => Sys2Proof.Machine.execHoldCapMeasured microfarad s
  | .holdReadyTimeout => Sys2Proof.Machine.execHoldReadyTimeout s
  | .monitorAdcSample trunk vhold hubTemp powerTemp => Sys2Proof.Machine.execMonitorAdcSample trunk vhold hubTemp powerTemp s
  | .railOutOfRange rail => Sys2Proof.Machine.execRailOutOfRange rail s
  | .powerFailWarning mv micros => Sys2Proof.Machine.execPowerFailWarning mv micros s
  | .snapshotEnd => Sys2Proof.Machine.execSnapshotEnd s
  | .holdEnd mv straps => Sys2Proof.Machine.execHoldEnd mv straps s
  | .reserveExhausted vhold => Sys2Proof.Machine.execReserveExhausted vhold s
  | .governorEvaluation => Sys2Proof.Machine.execGovernorEvaluation s
  | .restoreHoldExpiry pod => Sys2Proof.Machine.execRestoreHoldExpiry pod s
  | .podRankWrite who sub value => Sys2Proof.Machine.execPodRankWrite who sub value s
  | .dimFloorWrite who value => Sys2Proof.Machine.execDimFloorWrite who value s
  | .oscillationDetected src => Sys2Proof.Machine.execOscillationDetected src s
  | .oscillationLost src => Sys2Proof.Machine.execOscillationLost src s
  | .sourceQualified src => Sys2Proof.Machine.execSourceQualified src s
  | .startupLimitMissed src => Sys2Proof.Machine.execStartupLimitMissed src s
  | .spinePllLock => Sys2Proof.Machine.execSpinePllLock s
  | .spineLockLoss => Sys2Proof.Machine.execSpineLockLoss s
  | .spineRelockTimeout => Sys2Proof.Machine.execSpineRelockTimeout s
  | .monitorTrip mon ev => Sys2Proof.Machine.execMonitorTrip mon ev s
  | .rescueRelease mux => Sys2Proof.Machine.execRescueRelease mux s
  | .rescueWaitTimeout mux => Sys2Proof.Machine.execRescueWaitTimeout mux s
  | .backstopTrip ev straps => Sys2Proof.Machine.execBackstopTrip ev straps s
  | .switchHusk who arg => Sys2Proof.Machine.execSwitchHusk who arg s
  | .switchCore who arg => Sys2Proof.Machine.execSwitchCore who arg s
  | .switchSpineref who arg => Sys2Proof.Machine.execSwitchSpineref who arg s
  | .switchTrace who arg => Sys2Proof.Machine.execSwitchTrace who arg s
  | .switchStart mux => Sys2Proof.Machine.execSwitchStart mux s
  | .switchComplete mux => Sys2Proof.Machine.execSwitchComplete mux s
  | .automaticReturn mux => Sys2Proof.Machine.execAutomaticReturn mux s
  | .lfxoEnable who value => Sys2Proof.Machine.execLfxoEnable who value s
  | .hfrcMeasure steps => Sys2Proof.Machine.execHfrcMeasure steps s
  | .brcEstimate ppb => Sys2Proof.Machine.execBrcEstimate ppb s
  | .brcPause => Sys2Proof.Machine.execBrcPause s
  | .lfxoDiscipline steps => Sys2Proof.Machine.execLfxoDiscipline steps s
  | .timeSlewEnd => Sys2Proof.Machine.execTimeSlewEnd s
  | .framePeriodUpdate pod => Sys2Proof.Machine.execFramePeriodUpdate pod s
  | .rcFrameRateFault pod hz silentMicros => Sys2Proof.Machine.execRcFrameRateFault pod hz silentMicros s
  | .recall damage => Sys2Proof.Machine.execRecall damage s
  | .logScan damaged => Sys2Proof.Machine.execLogScan damaged s
  | .guardArming => Sys2Proof.Machine.execGuardArming s
  | .coreRelease => Sys2Proof.Machine.execCoreRelease s
  | .hfxoPhase => Sys2Proof.Machine.execHfxoPhase s
  | .podRestart failing => Sys2Proof.Machine.execPodRestart failing s
  | .engineOpen => Sys2Proof.Machine.execEngineOpen s
  | .resetNAssert nanos => Sys2Proof.Machine.execResetNAssert nanos s
  | .resetNRelease => Sys2Proof.Machine.execResetNRelease s
  | .resetSequenceEnd straps => Sys2Proof.Machine.execResetSequenceEnd straps s
  | .standby who => Sys2Proof.Machine.execStandby who s
  | .restoreDefaults who => Sys2Proof.Machine.execRestoreDefaults who s
  | .discardStaged who arg => Sys2Proof.Machine.execDiscardStaged who arg s
  | .wakeActivity micros => Sys2Proof.Machine.execWakeActivity micros s
  | .frameBoundary pod codes cm => Sys2Proof.Machine.execFrameBoundary pod codes cm s
  | .settleCountReached pod chan => Sys2Proof.Machine.execSettleCountReached pod chan s
  | .fundamentalPathSettled pod input => Sys2Proof.Machine.execFundamentalPathSettled pod input s
  | .downRangeIntervalEnd pod entry => Sys2Proof.Machine.execDownRangeIntervalEnd pod entry s
  | .cmExcursionFault pod monitor => Sys2Proof.Machine.execCmExcursionFault pod monitor s
  | .sliceSolve pod onB solve => Sys2Proof.Machine.execSliceSolve pod onB solve s
  | .referenceInjection pod ratio => Sys2Proof.Machine.execReferenceInjection pod ratio s
  | .plausibilityWindowEnd pod => Sys2Proof.Machine.execPlausibilityWindowEnd pod s
  | .referenceLoss pod => Sys2Proof.Machine.execReferenceLoss pod s
  | .eventRmsRefresh pod => Sys2Proof.Machine.execEventRmsRefresh pod s
  | .eventBlockExpiry pod kind input => Sys2Proof.Machine.execEventBlockExpiry pod kind input s
  | .halfCycleBooking pod => Sys2Proof.Machine.execHalfCycleBooking pod s
  | .windowEnd pod => Sys2Proof.Machine.execWindowEnd pod s
  | .harmonicWindowEnd pod => Sys2Proof.Machine.execHarmonicWindowEnd pod s
  | .harmonicPublication pod stop => Sys2Proof.Machine.execHarmonicPublication pod stop s
  | .phasorPublication pod instant => Sys2Proof.Machine.execPhasorPublication pod instant s
  | .sentinelArmed pod testTicks => Sys2Proof.Machine.execSentinelArmed pod testTicks s
  | .armingRetry pod => Sys2Proof.Machine.execArmingRetry pod s
  | .sentinelTrip pod microvolts micros => Sys2Proof.Machine.execSentinelTrip pod microvolts micros s
  | .wakePowerUpDone pod => Sys2Proof.Machine.execWakePowerUpDone pod s
  | .dormantTransfer pod ticks saturated => Sys2Proof.Machine.execDormantTransfer pod ticks saturated s
  | .pulseLeadingEdge pod => Sys2Proof.Machine.execPulseLeadingEdge pod s
  | .pulseWidthEnd pod => Sys2Proof.Machine.execPulseWidthEnd pod s
  | .plsTestWrite who pod value => Sys2Proof.Machine.execPlsTestWrite who pod value s
  | .sealTimeout pod => Sys2Proof.Machine.execSealTimeout pod s
  | .isolationSwitchOpen pod microamps nanos => Sys2Proof.Machine.execIsolationSwitchOpen pod microamps nanos s
  | .registerFileEccError pod word double => Sys2Proof.Machine.execRegisterFileEccError pod word double s
  | .laneTimeout pod => Sys2Proof.Machine.execLaneTimeout pod s
  | .start who pod => Sys2Proof.Machine.execStart who pod s
  | .stop who pod => Sys2Proof.Machine.execStop who pod s
  | .podCmdReset who pod laneAnswers => Sys2Proof.Machine.execPodCmdReset who pod laneAnswers s
  | .clockRc who pod => Sys2Proof.Machine.execClockRc who pod s
  | .clockSpine who pod => Sys2Proof.Machine.execClockSpine who pod s
  | .doze who pod => Sys2Proof.Machine.execDoze who pod s
  | .ackDormant who pod arg => Sys2Proof.Machine.execAckDormant who pod arg s
  | .sealOpen who pod => Sys2Proof.Machine.execSealOpen who pod s
  | .sealClose who pod => Sys2Proof.Machine.execSealClose who pod s
  | .sliceRun who pod => Sys2Proof.Machine.execSliceRun who pod s
  | .sliceFreeze who pod => Sys2Proof.Machine.execSliceFreeze who pod s
  | .sliceFactory who pod => Sys2Proof.Machine.execSliceFactory who pod s
  | .checkpointDue => Sys2Proof.Machine.execCheckpointDue s
  | .store who arg => Sys2Proof.Machine.execStore who arg s
  | .capture absent => Sys2Proof.Machine.execCapture absent s
  | .program => Sys2Proof.Machine.execProgram s
  | .verify good => Sys2Proof.Machine.execVerify good s
  | .logAppend => Sys2Proof.Machine.execLogAppend s
  | .responseTimerExpiry cls pod => Sys2Proof.Machine.execResponseTimerExpiry cls pod s
  | .causeCleared cls pod source => Sys2Proof.Machine.execCauseCleared cls pod source s
  | .quietExit cls pod => Sys2Proof.Machine.execQuietExit cls pod s
  | .guardSelfFault fault => Sys2Proof.Machine.execGuardSelfFault fault s
  | .guardAck who code arg => Sys2Proof.Machine.execGuardAck who code arg s
  | .ackAll who => Sys2Proof.Machine.execAckAll who s
  | .panelFrameBoundary => Sys2Proof.Machine.execPanelFrameBoundary s
  | .bandTick => Sys2Proof.Machine.execBandTick s
  | .stripFrame => Sys2Proof.Machine.execStripFrame s
  | .crackProbe onStrip loop ground ended => Sys2Proof.Machine.execCrackProbe onStrip loop ground ended s
  | .paneDischargeEnd => Sys2Proof.Machine.execPaneDischargeEnd s
  | .stripDischargeEnd => Sys2Proof.Machine.execStripDischargeEnd s
  | .paneModeWrite who value => Sys2Proof.Machine.execPaneModeWrite who value s
  | .paneLevelWrite who value => Sys2Proof.Machine.execPaneLevelWrite who value s
  | .stripEnableWrite who value => Sys2Proof.Machine.execStripEnableWrite who value s
  | .fbDataWrite who sub value => Sys2Proof.Machine.execFbDataWrite who sub value s
  | .gateEnableWrite who value => Sys2Proof.Machine.execGateEnableWrite who value s
  | .keyWrite who level value => Sys2Proof.Machine.execKeyWrite who level value s
  | .traceSelectWrite who value => Sys2Proof.Machine.execTraceSelectWrite who value s
  | .write who index sub typeCode length value => Sys2Proof.Machine.execWrite who index sub typeCode length value s
  | .readStaged who index sub => Sys2Proof.Machine.execReadStaged who index sub s
  | .filterSnapshotRead who pod sub => Sys2Proof.Machine.execFilterSnapshotRead who pod sub s
  | .commit who device pods => Sys2Proof.Machine.execCommit who device pods s
  | .commitComplete => Sys2Proof.Machine.execCommitComplete s
  | .resetServiceChip who => Sys2Proof.Machine.execResetServiceChip who s
  | .resetServicePod who pod laneAnswers => Sys2Proof.Machine.execResetServicePod who pod laneAnswers s
  | .resetServiceDisplay who => Sys2Proof.Machine.execResetServiceDisplay who s
  | .sessionOpen slot level => Sys2Proof.Machine.execSessionOpen slot level s
  | .sessionProof slot number proof => Sys2Proof.Machine.execSessionProof slot number proof s
  | .sessionOpenExpiry slot => Sys2Proof.Machine.execSessionOpenExpiry slot s
  | .sessionIdleExpiry slot => Sys2Proof.Machine.execSessionIdleExpiry slot s
  | .subscribe who body => Sys2Proof.Machine.execSubscribe who body s
  | .ack slot seq => Sys2Proof.Machine.execAck slot seq s
  | .time node epoch seq body => Sys2Proof.Machine.execTime node epoch seq body s
  | .event => Sys2Proof.Machine.execEvent s
  | .eventRetry seq => Sys2Proof.Machine.execEventRetry seq s
  | .streamSample sub => Sys2Proof.Machine.execStreamSample sub s
  | .frameReceive frame => Sys2Proof.Machine.execFrameReceive frame s
  | .transmitOpportunity => Sys2Proof.Machine.execTransmitOpportunity s
  | .beacon => Sys2Proof.Machine.execBeacon s
  | .beaconTimeout => Sys2Proof.Machine.execBeaconTimeout s
  | .coordinatorListenEnd => Sys2Proof.Machine.execCoordinatorListenEnd s
  | .foreignBeacon => Sys2Proof.Machine.execForeignBeacon s
  | .silentHoldOffEnd => Sys2Proof.Machine.execSilentHoldOffEnd s
  | .intrusion collision => Sys2Proof.Machine.execIntrusion collision s
  | .ownJabber => Sys2Proof.Machine.execOwnJabber s
  | .remoteJabber => Sys2Proof.Machine.execRemoteJabber s
  | .symbolErrorInterval count => Sys2Proof.Machine.execSymbolErrorInterval count s
  | .ownFrameCollision => Sys2Proof.Machine.execOwnFrameCollision s
  | .traceRecord => Sys2Proof.Machine.execTraceRecord s
  | .traceSync => Sys2Proof.Machine.execTraceSync s
  | .lfrcStop => Sys2Proof.Machine.execLfrcStop s
  | .timeFrameAbsence => Sys2Proof.Machine.execTimeFrameAbsence s
  | .csmaTransmit => Sys2Proof.Machine.execCsmaTransmit s
  | .supplyCurrentReport pod microamps => Sys2Proof.Machine.execSupplyCurrentReport pod microamps s

end Sys2Proof.Machine
end

