-- ==== Sys2Proof/Machine/Tick.lean ====
section
/-! DEFINITION. One tick of time (log 1): the model's own clock advances by one tick of 1/65 536 000 s, and STAMP
advances under R178 and R184. -/

namespace Sys2Proof.Machine

/-- STAMP is kept: the hub is powered, and SPINE is locked or HUSK, which then keeps it, has a clock (R165, R184, R196). -/
def stampRuns (s : State) : Bool := s.chip.state != .unpowered && (s.clocks.spineLocked || huskRuns s)

/-- One tick: while SPINE is locked STAMP advances by one; while HUSK keeps it, by 2000 at each 2000th tick (R184). -/
def idleTick (s : State) : State :=
  let t := s.time
  if !stampRuns s then { s with time := { t with elapsed := t.elapsed + 1 } }
  else if s.clocks.spineLocked then { s with time := { t with elapsed := t.elapsed + 1, stamp := t.stamp + 1 } }
  else if t.huskTicks + 1 ≥ 2000 then
    { s with time := { t with elapsed := t.elapsed + 1, stamp := t.stamp + 2000, huskTicks := 0 } }
  else { s with time := { t with elapsed := t.elapsed + 1, huskTicks := t.huskTicks + 1 } }

end Sys2Proof.Machine
end

