-- ==== Sys2Proof/Safety.lean ====
section
/-! DEFINITION. What counts as a sound state of the block, in the terms the statements use. -/

namespace Sys2Proof

open Sys2Proof.Machine

/-- Every sparse store of the state is in its canonical form. -/
def StoresWf (s : State) : Prop :=
  storeWf deviceDefault s.dict.values = true ∧ (∀ p : Fin 64, storeWf podDefault s.pods[p].values = true) ∧
    storeWf blackRow s.panel.buffer = true

/-- The frame buffer of the Pane is in its canonical form: half-rows in rising order, black ones unlisted. -/
def FrameBufferWf (s : State) : Prop := storeWf blackRow s.panel.buffer = true

/-- The queues and rings whose size the spec gives hold no more: trace records 64 (R688), log appends 16 (R495), EVENT
records 64 (R629), outstanding EVENT frames 4 (R631), Guard history 16 (R521). -/
def QueuesWithin (s : State) : Prop :=
  s.obs.queue.length ≤ 64 ∧ s.shell.queue.length ≤ 16 ∧ s.engine.events.length ≤ 64 ∧ s.engine.outstanding.length ≤ 4 ∧
    s.guard.history.length ≤ 16

/-- The invariant that every step keeps. -/
def Bounded (s : State) : Prop := FrameBufferWf s ∧ QueuesWithin s

/-- The command's outcome is a next state with the property. -/
def Completes (c : Instr) (s : State) (post : State → Prop) : Prop := ∃ t, exec c s = .next t ∧ post t

/-- A snapshot with a trigger stands whole in the bank that held the older header (R481-R483): its header verifies with the next sequence
number, and so does the record of every Pod whose isolation switch is closed; the other bank is as it was. -/
def SnapshotWritten (trig : Nat) (s t : State) : Prop :=
  nextBank s < 2 ∧ (bankAt t (nextBank s)).good = true ∧ (bankAt t (nextBank s)).seq = wrap32 (s.shell.counter + 1) ∧
    (bankAt t (nextBank s)).trigger = trig ∧ bankAt t (1 - nextBank s) = bankAt s (1 - nextBank s) ∧
    ∀ p, p < 64 → (podAt s p).faults.isoOpen = false → recordVerifies (bankAt t (nextBank s)) p = true

/-- The engine has nothing that executes or waits, and no outcome of its is due. -/
structure EngineQuiet (s : State) : Prop where
  running : s.engine.running = none
  waiting : s.engine.waiting = none
  frames : s.engine.frames = []
  inbox : s.engine.inbox = []
  standby : s.chip.standbyWanted = false
  noSub : s.engine.subs.all (fun x => !x.due) = true

/-- The engine is open in ACTIVE and has nothing to do: no frame, no item that waits, no sampling, reset or STANDBY due, and
no STORE that holds writes; the next item executes at once. -/
structure EngineFree (s : State) : Prop where
  opened : s.engine.opened = true
  active : s.chip.state = .active
  running : s.engine.running = none
  waiting : s.engine.waiting = none
  frames : s.engine.frames = []
  afterReply : s.engine.afterReply = none
  noReset : s.engine.resetsDue = []
  core : coreRuns s = true
  standby : s.chip.standbyWanted = false
  noStore : s.shell.run = none
  noSub : s.engine.subs.all (fun x => !x.due) = true

/-- `engine.last`, which holds the outcome of the item executed last, with the rest of the state as it stands. -/
def withLast (st : Nat) (s : State) : State := { s with engine := { s.engine with last := ⟨st, 0, []⟩ } }

end Sys2Proof
end

