-- ==== Sys2Proof/Certificates/Slice0/Obligations.lean ====
section
/-! DEFINITION. The statements of this model for the provers. A statement that gives `exec c s = .next t` says that the
command completes, what it changes, and, since t is s but for the fields written, what it leaves as it was. -/

open Sys2Proof Sys2Proof.Machine

/-! ### The block as a whole -/

/-- A step takes the command at the front of the queue and runs it on the state with the queue's rest. -/
def Obligations.StepRunsFrontCommand : Prop :=
  ∀ (c : Instr) (rest : List Instr) (s : State), s.pending = c :: rest → step s = exec c { s with pending := rest }

/-- On an empty queue one tick passes (the model's choice, log 1): the model's clock advances by one, STAMP by one while SPINE is
locked (R178), by 2000 at each 2000th tick while HUSK keeps it (R184), and not at all where neither runs; nothing else changes. -/
def Obligations.EmptyQueuePassesOneTick : Prop :=
  ∀ s : State, s.pending = [] → ∃ t : State,
    step s = .next { s with time := t.time } ∧
    t.time.elapsed = s.time.elapsed + 1 ∧
    (s.chip.state = .unpowered ∨ (s.clocks.spineLocked = false ∧ huskRuns s = false) → t.time.stamp = s.time.stamp) ∧
    (s.chip.state ≠ .unpowered → s.clocks.spineLocked = true → t.time.stamp = s.time.stamp + 1) ∧
    (s.chip.state ≠ .unpowered → s.clocks.spineLocked = false → huskRuns s = true → s.time.huskTicks + 1 < 2000 →
      t.time.stamp = s.time.stamp ∧ t.time.huskTicks = s.time.huskTicks + 1) ∧
    (s.chip.state ≠ .unpowered → s.clocks.spineLocked = false → huskRuns s = true → 2000 ≤ s.time.huskTicks + 1 →
      t.time.stamp = s.time.stamp + 2000 ∧ t.time.huskTicks = 0)

/-- No command stops the block, and none touches the queue of the commands that wait. -/
def Obligations.EveryCommandAnswersANextState : Prop :=
  ∀ (c : Instr) (s : State), ∃ t, exec c s = .next t ∧ t.pending = s.pending

/-- Every step, of any command or of an idle tick, from any state within the bounds of R688, R495, R629, R630 and R521 and with a
canonical frame buffer, leaves the state so. -/
def Obligations.StepKeepsBounds : Prop :=
  ∀ s t : State, Bounded s → step s = .next t → Bounded t

/-- The state after reset is within the bounds, and every sparse store of it is canonical. -/
def Obligations.ResetIsBounded : Prop := Bounded State.reset ∧ StoresWf State.reset

/-- A write to a sparse store keeps its canonical form, and is read back at its key alone. -/
def Obligations.StoreWritesAreReadBack : Prop :=
  ∀ (dflt : Nat → Nat) (st : Store) (k v : Nat), storeWf dflt st = true →
    storeWf dflt (storePut dflt st k v) = true ∧ ∀ j, storeGet dflt (storePut dflt st k v) j = if j = k then v else storeGet dflt st j

/-! ### The power die and HOLD -/

/-- R101, R107: the trunk rises through the start threshold, the inrush charge ends and the bucks start, the trunk falls through
the stop threshold; at a voltage that has not crossed nothing happens. R127, R130: a measured capacitance, and a PWR fault of
source 0x06 where it is below 54 uF or where the reserve is not ready in time; from B2 on three low trunk samples in a row raise source
0x02, three high ones source 0x03. R128, R131: `VHOLD` never rises while it carries the rails, never rises above the trunk, and falls by
no more than 1 mV between two samples outside HOLD. R111: a rail out of its window is PWR source 0x04. -/
def Obligations.PowerDieActs : Prop :=
  (∀ (mv : Nat) (s : State), s.chip.state = .unpowered → s.power.phase = .idle →
    exec (.trunkStart mv) s = .next (if 11700 ≤ mv then { s with power := { s.power with phase := .inrush, level := mv } } else s)) ∧
  (∀ s : State, s.chip.state = .unpowered → s.power.phase = .inrush →
    exec .inrushEnd s = .next { s with power := { s.power with phase := .bucks, rails := 15 } }) ∧
  (∀ (mv : Nat) (s : State), s.chip.state = .unpowered → s.power.phase ≠ .idle →
    exec (.startStop mv) s = .next (if mv ≤ 11800 then { s with power := { s.power with phase := .idle, rails := 0, level := mv } } else s)) ∧
  (∀ (uf : Nat) (s : State), s.chip.state ≠ .unpowered →
    exec (.holdCapMeasured uf) s =
      (let t : State := { s with power := { s.power with capMeasured := uf } }
       .next (if uf < 54 then raise .pwr 0 6 0 t else t))) ∧
  (∀ s : State, s.chip.state ≠ .unpowered → s.power.readyFault = false →
    exec .holdReadyTimeout s = .next (raise .pwr 0 6 0 { s with power := { s.power with readyFault := true } })) ∧
  (∀ (trunk vhold : Nat) (hub pwr : Int) (s : State), s.chip.state ≠ .unpowered →
    exec (.monitorAdcSample trunk vhold hub pwr) s =
      (let v := reserveNow trunk vhold s
       let low := if booted s 2 = true ∧ trunk < devVal s 0x2005 0 then s.power.lowRun + 1 else 0
       let high := if 33000 < trunk then s.power.highRun + 1 else 0
       let t : State := { s with power := { s.power with
          trunk := trunk, vhold := v, sampled := true, hubTemp := hub, powerTemp := pwr, lowRun := low, highRun := high,
          ready := decide (16500 ≤ v ∧ v ≤ trunk + 500 ∧ trunk ≤ v + 500),
          readyFault := s.power.readyFault || decide (16500 ≤ v ∧ v ≤ trunk + 500 ∧ trunk ≤ v + 500) } }
       let u := if 3 ≤ low then raise .pwr 0 2 0 t else t
       .next (if 3 ≤ high then raise .pwr 0 3 0 u else u))) ∧
  (∀ (trunk vhold : Nat) (s : State), s.power.sampled = true →
    (s.power.onHold = true → reserveNow trunk vhold s ≤ s.power.vhold) ∧
    (s.power.onHold = false → s.power.vhold ≤ reserveNow trunk vhold s + 1 ∧ reserveNow trunk vhold s ≤ max trunk s.power.vhold ∧
      (s.power.charger = false ∨ trunk ≤ s.power.vhold + 20 → reserveNow trunk vhold s ≤ s.power.vhold))) ∧
  (∀ (rail : Fin 7) (s : State), railOn s rail.val = true →
    exec (.railOutOfRange rail) s =
      (let t : State := { s with power := { s.power with rails := clearBit s.power.rails rail.val } }
       let u := raise .pwr 0 4 (railStatus t) t
       .next (displayWatch (if rail.val = 2 then raise .pwr 0 8 (railStatus t) u else u))))

/-- R108, R187, R207: with every buck rail in regulation and the trunk at 17.0 V or more, power-on reset is released: BOOT at B0
and B1, the straps sampled, POWER-ON recorded, the working image and every session lost, the shadow array kept; below 17.0 V the
chip stays as it is. -/
def Obligations.PowerOnResetReleases : Prop :=
  (∀ (mv : Nat) (straps : Straps) (s : State), s.chip.state = .unpowered → s.power.phase = .bucks → railsGood s = true → 17000 ≤ mv →
    Completes (.powerOnResetRelease mv straps) s (fun t =>
      t.chip.state = .boot ∧ t.chip.phases = [0, 1] ∧ t.chip.straps = straps ∧ t.chip.causeKind = 1 ∧ t.dict = State.reset.dict ∧
      t.engine = Engine.reset ∧ t.shell.slots = s.shell.slots ∧ t.shell.banks = s.shell.banks ∧ t.power.phase = .released ∧
      t.power.charger = true)) ∧
  (∀ (mv : Nat) (straps : Straps) (s : State), mv < 17000 → exec (.powerOnResetRelease mv straps) s = .next s)

/-- R125, R29: a dip of 10 us or more below the warning threshold takes BOOT, ACTIVE, STANDBY and SAFE to HOLD, with no chip reset
in progress any more and no STANDBY wanted; a shorter dip is ignored, and so is one in another chip state. -/
def Obligations.PowerFailWarningEntersHold : Prop :=
  (∀ (mv us : Nat) (s : State), 10 ≤ us → mv ≤ 16700 →
    (s.chip.state = .boot ∨ s.chip.state = .active ∨ s.chip.state = .standby ∨ s.chip.state = .safe) →
    Completes (.powerFailWarning mv us) s (fun t => t.chip = { s.chip with state := .hold, reset := none, standbyWanted := false })) ∧
  (∀ (mv us : Nat) (s : State), us < 10 → exec (.powerFailWarning mv us) s = .next s) ∧
  (∀ (mv us : Nat) (s : State), s.chip.state = .hold ∨ s.chip.state = .unpowered → exec (.powerFailWarning mv us) s = .next s)

/-- R134, R210, R481: step 2 of HOLD writes the snapshot, and step 3 starts both discharges and, unless it is skipped, the STORE; in the
reset sequence, once every Pod has frozen, the snapshot is followed by the same two steps. R481-R483: a snapshot takes the next sequence
number and stands, with a header that verifies and a record that verifies of every Pod whose switch is closed, in the bank that does not
hold the newer header; the other bank is left as it is. -/
def Obligations.SnapshotsAreWritten : Prop :=
  (∀ (h : HoldRec) (s : State), s.chip.state = .hold → s.power.hold = some h → s.power.holdSnap = true → bit h.steps 0 = true →
    Completes .snapshotEnd s (fun t =>
      SnapshotWritten 1 s t ∧ t.power.holdSnap = false ∧ (∃ g, t.power.hold = some g ∧ g.stamp = h.stamp ∧ bit g.steps 1 = true) ∧
      t.panel.paneDischarge = !s.panel.paneDone ∧ t.panel.stripDischarge = !s.panel.stripDone ∧ t.chip.state = .hold ∧
      (s.power.holdStore = true → nextSlot s ≠ none → t.shell.run.isSome = true) ∧
      (s.power.holdStore = false → t.shell.run = s.shell.run ∧ t.shell.slots = s.shell.slots))) ∧
  (∀ (r : ResetRun) (s : State), s.power.hold = none → s.chip.reset = some r → r.snapshotDone = false → allFrozen s = true →
    Completes .snapshotEnd s (fun t =>
      SnapshotWritten 2 s t ∧ t.chip.reset = some { r with snapshotDone := true, storeDone := true } ∧
      t.panel.paneDischarge = !s.panel.paneDone ∧ t.panel.stripDischarge = !s.panel.stripDone ∧
      (r.storeDone = false → nextSlot s ≠ none → t.shell.run.isSome = true) ∧
      (r.storeDone = true → t.shell.run = s.shell.run ∧ t.shell.slots = s.shell.slots))) ∧
  (∀ (r : ResetRun) (s : State), s.power.hold = none → s.chip.reset = some r → r.snapshotDone = true ∨ allFrozen s = false →
    exec .snapshotEnd s = .next s) ∧
  (∀ s : State, s.power.hold = none → s.chip.reset = none → exec .snapshotEnd s = .next s) ∧
  (∀ (trig : Nat) (s : State), trig < 256 →
    SnapshotWritten trig s (writeSnapshot trig s) ∧ (writeSnapshot trig s).shell.counter = wrap32 (s.shell.counter + 1))

/-- R29, R134: at the end of HOLD the chip goes UNPOWERED below 17.0 V with its link off and its engine empty, and through the
HOLD-RESTART reset to BOOT at 17.0 V or more; while the STORE or a discharge runs it stays. R132, R137: in HOLD the rails collapse
when the reserve is exhausted; a reserve above that leaves HOLD going. -/
def Obligations.HoldEndsOrFails : Prop :=
  (∀ (mv : Nat) (straps : Straps) (s : State), s.chip.state = .hold → stepThreeBegun s = true → s.shell.run = none →
    s.panel.paneDone = true → s.panel.stripDone = true → mv < 17000 →
    Completes (.holdEnd mv straps) s (fun t =>
      t.chip.state = .unpowered ∧ t.power.rails = 0 ∧ t.engine = Engine.reset ∧ t.link.code = .off ∧ t.shell.slots = s.shell.slots)) ∧
  (∀ (mv : Nat) (straps : Straps) (s : State), s.chip.state = .hold → stepThreeBegun s = true → s.shell.run = none →
    s.panel.paneDone = true → s.panel.stripDone = true → 17000 ≤ mv →
    Completes (.holdEnd mv straps) s (fun t => t.chip.state = .boot ∧ t.chip.phases = [0, 1] ∧ t.chip.causeKind = 2 ∧ t.dict.staged = [])) ∧
  (∀ (mv : Nat) (straps : Straps) (s : State), s.chip.state ≠ .hold ∨ stepThreeBegun s = false ∨ s.shell.run.isSome = true ∨
    s.panel.paneDone = false ∨ s.panel.stripDone = false → exec (.holdEnd mv straps) s = .next s) ∧
  (∀ (vhold : Nat) (s : State), s.chip.state = .hold → vhold ≤ 7200 →
    Completes (.reserveExhausted vhold) s (fun t => t.chip.state = .unpowered ∧ t.power.rails = 0 ∧ t.shell.run = none ∧ t.shell.queue = [])) ∧
  (∀ (vhold : Nat) (s : State), 7200 < vhold → exec (.reserveExhausted vhold) s = .next s)

/-- R117: a due evaluation consumes every trigger that waits and counts itself, whatever it grants; it leaves the dictionary and
the engine as they are. Without a trigger nothing happens. The expiry of a restore hold of a Pod in LEAN is a trigger that names
the Pod (R122). (Code 8, a Pod restart, is left out here: it alone can raise the fault of an overrun, R123.) -/
def Obligations.GovernorConsumesTriggers : Prop :=
  (∀ (tr : Trigger) (rest : List Trigger) (s : State), EngineFree s → s.power.triggers = tr :: rest → (∀ x ∈ tr :: rest, x.code ≠ 8) →
    Completes .governorEvaluation s (fun t =>
      t.power.triggers = [] ∧ t.power.decisions = wrap32 (s.power.decisions + 1) ∧ t.dict = s.dict ∧ t.engine = s.engine ∧
      t.chip = s.chip ∧ t.shell.slots = s.shell.slots)) ∧
  (∀ s : State, s.power.triggers = [] → exec .governorEvaluation s = .next s) ∧
  (∀ (p : Fin 64) (s : State), (podAt s p.val).mode = .lean →
    (podAt s p.val).leanAt + devVal s 0x2012 0 * 65536000 ≤ s.time.elapsed → governorActs s = true →
    exec (.restoreHoldExpiry p) s =
      .next { s with power := { s.power with triggers := s.power.triggers ++ [⟨7, p.val, s.time.stamp⟩] } })

/-- R117, R120: in the walk a pending wake is granted where 14 mW are left and PWR is not at L3, and refused otherwise; a Pod that
neither runs nor waits is passed over, and no step of the walk touches another Pod. -/
def Obligations.GovernorWalksOnePod : Prop :=
  ∀ (w : Walk) (p : Nat) (s : State), p < 64 →
    (walkRuns (podAt s p) = false → (podAt s p).wake.isSome = true → 14 ≤ w.avail → contained s 1 = false →
      walkPod (w, s) p =
        ({ w with avail := w.avail - 14, granted := w.granted + 1 }, modPod p (fun d => { grantWake d with powerWait := true }) s)) ∧
    (walkRuns (podAt s p) = false → (podAt s p).wake.isSome = true → w.avail < 14 ∨ contained s 1 = true →
      walkPod (w, s) p = ({ w with refused := w.refused + 1 }, modPod p refuseWake s)) ∧
    (walkRuns (podAt s p) = false → (podAt s p).wake = none → walkPod (w, s) p = (w, s)) ∧
    (∀ r, r < 64 → r ≠ p → podAt (walkPod (w, s) p).2 r = podAt s r)

/-! ### Clocks and time -/

/-- R141, R142: the count of a source whose driver is on starts from zero where it is seen to oscillate and restarts where it is
lost; an oscillating source whose count is reached is QUALIFIED, which HOLD waits for where it needs HOLD RC (R174); a missed start-up
limit of HFXO or LFXO fails the source with CLK source 0x09 (R143), and in BOOT the SPINE PLL then runs on HFRC (R189); LFRC stops a
second after LFXO qualified, while HUSK runs on LFXO and LFXO is wanted (R139, R140). -/
def Obligations.SourcesQualifyOrFail : Prop :=
  (∀ (k : Fin 6) (s : State), (oscAt s k.val).driven = true → (oscAt s k.val).oscillating = false →
    exec (.oscillationDetected k) s = .next { s with clocks := { s.clocks with
        oscs := putAt s.clocks.oscs k.val { oscAt s k.val with oscillating := true, count := 0 } } }) ∧
  (∀ (k : Fin 6) (s : State), (oscAt s k.val).oscillating = true →
    exec (.oscillationLost k) s = .next { s with clocks := { s.clocks with
        oscs := putAt s.clocks.oscs k.val { oscAt s k.val with oscillating := false, count := 0 } } }) ∧
  (∀ (k : Fin 6) (s : State), (oscAt s k.val).driven = false ∨ (oscAt s k.val).oscillating = true →
    exec (.oscillationDetected k) s = .next s) ∧
  (∀ (k : Fin 6) (s : State), (oscAt s k.val).oscillating = false →
    exec (.oscillationLost k) s = .next s ∧ exec (.sourceQualified k) s = .next s) ∧
  (∀ s : State, (oscAt s 5).code ≠ .qualified → (oscAt s 5).oscillating = true → s.power.holdWait = true →
    exec (.sourceQualified 5) s = .next (holdBegin (setOsc 5 { oscAt s 5 with code := .qualified, count := qualCount 5 } 4 s))) ∧
  (∀ (k : Fin 6) (s : State), (oscAt s k.val).code ≠ .qualified → (oscAt s k.val).oscillating = true →
    (k.val = 5 → s.power.holdWait = false) →
    exec (.sourceQualified k) s =
      .next (afterQualified k.val ((oscAt s k.val).code == .failed)
        (setOsc k.val { oscAt s k.val with code := .qualified, count := qualCount k.val } 4 s))) ∧
  (∀ (k : Fin 6) (s : State), (k.val = 0 ∨ k.val = 2) → (oscAt s k.val).code = .qualifying →
    exec (.startupLimitMissed k) s =
      (let t := noteFailed k.val (raise .clk 0 9 0 (failOsc k.val 0 s))
       .next (if k.val = 2 ∧ (t.chip.state = .boot ∨ t.chip.state = .safe) ∧ booted t 5 ∧ !t.clocks.spineOn then settleMux 2 true 0 t
         else t))) ∧
  (∀ s : State, huskOnLfxo s = true → devVal s 0x2115 0 = 1 → (oscAt s 1).code ≠ .failed →
    exec .lfrcStop s = .next (setOsc 1 ⟨.off, 0, false, 0, false⟩ 0 s)) ∧
  (∀ s : State, huskOnLfxo s = true → devVal s 0x2115 0 = 1 → (oscAt s 1).code = .failed →
    exec .lfrcStop s = .next (setOsc 1 ⟨.failed, 0, false, 0, false⟩ 0 s))

/-- R145, R184: the SPINE PLL locks on a qualified reference and ends its relock; a loss of lock leaves STAMP to HUSK and dates
the relock from now, unless one already runs; a relock that times out rescues the reference to the other source. -/
def Obligations.SpineLocksAndUnlocks : Prop :=
  (∀ s : State, s.clocks.spineOn = true → s.clocks.spineLocked = false → qualified s (if s.clocks.spineHfrc then 3 else 2) = true →
    (muxAt s 2).code = .primary ∨ (muxAt s 2).code = .alternate →
    Completes .spinePllLock s (fun t => t.clocks.spineLocked = true ∧ t.clocks.relock = none ∧ t.time.stamp = s.time.stamp)) ∧
  (∀ s : State, s.clocks.spineLocked = true →
    Completes .spineLockLoss s (fun t =>
      t.clocks.spineLocked = false ∧ t.clocks.relock = some (s.clocks.relock.getD s.time.stamp) ∧ t.time.huskTicks = 0 ∧ t.chip = s.chip)) ∧
  (∀ s : State, s.clocks.relock.isSome = true → s.clocks.spineLocked = false → (muxAt s 2).code = .primary ∨ (muxAt s 2).code = .alternate →
    exec .spineRelockTimeout s = .next (rescueMux 2 ((muxAt s 2).code == .primary) (raise .clk 0 5 0 s)))

/-- R160-R164: a monitor acts on evidence that trips it and not otherwise; GUARD RC's own monitor is the backstop, which in HOLD
only records (R166, R211, R508). -/
def Obligations.MonitorsTripOnEvidence : Prop :=
  (∀ (m : Monitor) (e : Evidence) (s : State), s.chip.state ≠ .unpowered → trips m e = true →
    exec (.monitorTrip m e) s = .next (monitorTrip m e s)) ∧
  (∀ (m : Monitor) (e : Evidence) (s : State), trips m e = false → exec (.monitorTrip m e) s = .next s) ∧
  (∀ (m : Monitor) (a b : Nat), trips m (.gates a b) = true ↔
    0 < expectedTenths m ∧ (80 * a < 7 * expectedTenths m ∨ 9 * expectedTenths m < 80 * a) ∧
      (80 * b < 7 * expectedTenths m ∨ 9 * expectedTenths m < 80 * b)) ∧
  (∀ (straps : Straps) (s : State), s.chip.state ≠ .unpowered → s.chip.state ≠ .hold → qualified s 4 = true →
    Completes (.backstopTrip .stall straps) s (fun t => t.chip.state = .boot ∧ t.chip.phases = [0, 1] ∧ t.chip.causeKind = 6)) ∧
  (∀ (straps : Straps) (s : State), s.chip.state = .hold → qualified s 4 = true →
    Completes (.backstopTrip .stall straps) s (fun t => t.chip = s.chip ∧ t.guard.backstop = true ∧ t.guard.backstopEntry = some (s.time.stamp, 0)))

/-- R162, R163, R165, R168, R420: eight cycles of the fallback end a rescue: the mux rests on the side that it was rescued to, a Pod's on
its RC; AMPIX and STRIP rest with CORE, the SPINE PLL runs on the reference of that side, HUSK's freeze ends and the trips held meanwhile
are latched. A mux that is not in RESCUE-RELEASE stays as it is. A rescue that still waits for its fallback is an L4 of CLK by source 0x0B:
SAFE at once from ACTIVE and BOOT, held in STANDBY, recorded alone in HOLD. -/
def Obligations.RescuesEnd : Prop :=
  (∀ (p : Fin 64) (s : State), (podAt s p.val).mux = .rescueRelease →
    Completes (.rescueRelease (.pod p)) s (fun t =>
      podAt t p.val = { podAt s p.val with mux := .alternate } ∧ ∀ r, r < 64 → r ≠ p.val → podAt t r = podAt s r)) ∧
  (∀ s : State, (muxAt s 0).code = .rescueRelease →
    Completes (.rescueRelease .husk) s (fun t =>
      (muxAt t 0).code = (if (muxAt s 0).toAlternate = true then .alternate else .primary) ∧ (muxAt t 0).rescues = (muxAt s 0).rescues ∧
      t.time.huskFrozen = false ∧ (∀ p, p < 64 → (podAt t p).doze.tripHeld = false) ∧
      (s.clocks.spineLocked = true → s.time.frozenLost = 0 → t.time.stamp = s.time.stamp))) ∧
  (∀ s : State, EngineQuiet s → (muxAt s 1).code = .rescueRelease →
    Completes (.rescueRelease .core) s (fun t =>
      (muxAt t 1).code = (if (muxAt s 1).toAlternate = true then .alternate else .primary) ∧ (muxAt t 3).code = (muxAt t 1).code ∧
      (muxAt t 4).code = (muxAt t 1).code ∧ ((muxAt s 1).toAlternate = false → t.clocks.corePll = true) ∧ coreRuns t = true ∧
      t.chip = s.chip ∧ t.dict = s.dict ∧ t.pods = s.pods)) ∧
  (∀ s : State, (muxAt s 2).code = .rescueRelease →
    Completes (.rescueRelease .spineRef) s (fun t =>
      (muxAt t 2).code = (if (muxAt s 2).toAlternate = true then .alternate else .primary) ∧ t.clocks.spineOn = true ∧
      t.clocks.spineHfrc = (muxAt s 2).toAlternate ∧ t.clocks.spineLocked = false ∧ t.chip = s.chip)) ∧
  (∀ (m : MuxName) (s : State), m = .ampix ∨ m = .strip ∨ m = .trace ∨ (m = .spineRef ∧ (muxAt s 2).code ≠ .rescueRelease) ∨
    (∃ p, m = .pod p ∧ (podAt s p.val).mux ≠ .rescueRelease) → exec (.rescueRelease m) s = .next s) ∧
  (∀ (m : MuxName) (k : Nat) (s : State), muxNumber m = some k → (muxAt s k).code = .rescueWait →
    s.chip.state = .active ∨ s.chip.state = .boot →
    Completes (.rescueWaitTimeout m) s (fun t =>
      t.chip = { s.chip with state := .safe } ∧ t.guard.latched = true ∧ t.guard.safe = some (1, 0, 11, s.time.stamp, s.chip.state.code))) ∧
  (∀ (m : MuxName) (k : Nat) (s : State), muxNumber m = some k → (muxAt s k).code = .rescueWait → s.chip.state = .standby →
    Completes (.rescueWaitTimeout m) s (fun t => t.chip = s.chip ∧ t.guard.latched = true ∧ t.guard.pendingSafe = true)) ∧
  (∀ (m : MuxName) (k : Nat) (s : State), muxNumber m = some k → (muxAt s k).code = .rescueWait → s.chip.state = .hold →
    Completes (.rescueWaitTimeout m) s (fun t => t.chip = s.chip ∧ t.guard.latched = true ∧ t.pods = s.pods)) ∧
  (∀ (m : MuxName) (k : Nat) (s : State), muxNumber m = some k → (muxAt s k).code ≠ .rescueWait → exec (.rescueWaitTimeout m) s = .next s) ∧
  (∀ (p : Fin 64) (s : State), exec (.rescueWaitTimeout (.pod p)) s = .next s)

/-- R155, R157, R158, R167: an accepted software switch starts once its reply has left, and not in HOLD (R174); where the mux has moved
meanwhile or the side is not ready any more, its command fails instead. A switch completes on the side asked for, with its command (a
switch of TRACE starts its port anew, R684; with CORE running again the engine takes what waited, R185); a Pod's on SPINE returns
`Pod.FramePeriod` to its nominal value (R170). An automatic return starts a switch of HUSK or CORE, and waits for the next boundary of a
Pod. -/
def Obligations.MuxesSwitch : Prop :=
  (∀ (m : MuxName) (k : Nat) (alt : Bool) (s : State), s.clocks.waiting.find? (fun w => w.1 == m) = some (m, alt) → muxNumber m = some k →
    s.chip.state ≠ .hold → repliesLeft s = true →
    ((muxAt s k).code = (if alt = true then .primary else .alternate) → switchTargetReady k alt s = true →
      exec (.switchStart m) s =
        .next (beginSwitch k alt true 1 { s with clocks := { s.clocks with waiting := s.clocks.waiting.erase (m, alt) } })) ∧
    ((muxAt s k).code ≠ (if alt = true then .primary else .alternate) ∨ switchTargetReady k alt s = false →
      exec (.switchStart m) s = .next { s with clocks := { s.clocks with
        waiting := s.clocks.waiting.erase (m, alt), command := setCompletion s.clocks.command 4 } })) ∧
  (∀ (m : MuxName) (s : State), s.chip.state = .hold ∨ repliesLeft s = false ∨ s.clocks.waiting.find? (fun w => w.1 == m) = none →
    exec (.switchStart m) s = .next s) ∧
  (∀ (m : MuxName) (k : Nat) (s : State), (m = .husk ∧ k = 0) ∨ (m = .spineRef ∧ k = 2) → (muxAt s k).code = .switching →
    exec (.switchComplete m) s = .next (endClkCommand (muxAt s k).byCommand 2
      (settleMux k (muxAt s k).toAlternate (if (muxAt s k).byCommand then 1 else 2) s))) ∧
  (∀ s : State, (muxAt s 1).code = .switching → exec (.switchComplete .core) s =
    .next (resumeCore (endClkCommand (muxAt s 1).byCommand 2
      (settleMux 1 (muxAt s 1).toAlternate (if (muxAt s 1).byCommand then 1 else 2) s)))) ∧
  (∀ (p : Fin 64) (s : State), (podAt s p.val).mux = .switching →
    ((podAt s p.val).muxToRc = true → Completes (.switchComplete (.pod p)) s (fun t => (podAt t p.val).mux = .alternate)) ∧
    ((podAt s p.val).muxToRc = false → Completes (.switchComplete (.pod p)) s (fun t =>
      (podAt t p.val).mux = .primary ∧ (podAt t p.val).framePeriod = 33554432))) ∧
  (∀ s : State, (muxAt s 5).code = .switching → exec (.switchComplete .trace) s =
    (let t := endClkCommand (muxAt s 5).byCommand 2 (settleMux 5 (muxAt s 5).toAlternate (if (muxAt s 5).byCommand then 1 else 2) s)
     .next { t with obs := { t.obs with syncDue := true } })) ∧
  (∀ s : State, devVal s 0x2105 0 ≠ 0 → s.chip.state ≠ .hold → s.chip.state ≠ .unpowered → contained s 0 = false →
    (muxAt s 0).code = .alternate → qualified s 0 = true → exec (.automaticReturn .husk) s = .next (beginSwitch 0 false false 2 s)) ∧
  (∀ s : State, devVal s 0x2105 0 ≠ 0 → s.chip.state ≠ .hold → s.chip.state ≠ .unpowered → contained s 0 = false →
    (muxAt s 1).code = .alternate → qualified s 2 = true → exec (.automaticReturn .core) s = .next (beginSwitch 1 false false 2 s)) ∧
  (∀ (p : Fin 64) (s : State), devVal s 0x2105 0 ≠ 0 → s.chip.state ≠ .hold → s.chip.state ≠ .unpowered → contained s 0 = false →
    (podAt s p.val).mux = .alternate → s.clocks.spineLocked = true → (podAt s p.val).rcByCommand = false →
    exec (.automaticReturn (.pod p)) s = .next (modPod p.val (fun d => { d with plan := { d.plan with toSpine := true } }) s)) ∧
  (∀ (m : MuxName) (s : State), contained s 0 = true → exec (.automaticReturn m) s = .next s)

/-- R147-R151: the nominal HFRC word is corrected within its range; a measured reference error moves F against it unless TIME
frames discipline F; a pause makes the reference unavailable; LFXO disciplines an HFRC-timed SPINE that nothing better does; the
slew in force ends; two seconds without an accepted TIME frame end its freshness; whatever moves it, F stays within its range
(R144). R170, R171: the frame period of an RC-timed Pod is the mean over its last frames, 1 024 at least; a rate outside 16 MHz by
12.5 %, or 64 us without a marker, is POD source 0x05. -/
def Obligations.FrequencyIsDisciplined : Prop :=
  (∀ (steps : Int) (s : State), s.clocks.spineLocked = true → s.clocks.spineHfrc = false → qualified s 3 = true →
    exec (.hfrcMeasure steps) s = .next { s with clocks := { s.clocks with hfrcOffset := clampInt (-1407374884) 1407374884 steps } }) ∧
  (∀ (ppb : Int) (s : State), devVal s 0x2108 0 ≠ 0xFF → s.clocks.spineLocked = true → s.link.code = .follower ∨ s.link.code = .coordinator →
    exec (.brcEstimate ppb) s =
      (let t : State := { s with clocks := { s.clocks with freqError := ppb, brc := true } }
       .next (if timeFresh s then t else moveFrac (-(roundOpen (ppb * vcoRatio s) 1000000000)) t))) ∧
  (∀ s : State, exec .brcPause s = .next { s with clocks := { s.clocks with brc := false } }) ∧
  (∀ (v : Nat) (s : State), v ≠ devVal s 0x2108 0 → (hotDevice 0x2108 0 v s).clocks.brc = false) ∧
  (∀ (steps : Int) (s : State), s.clocks.spineLocked = true → s.clocks.spineHfrc = true → huskOnLfxo s = true → timeFresh s = false →
    s.clocks.brc = false →
    exec (.lfxoDiscipline steps) s = .next { s with clocks := { s.clocks with
        frac := clampFrac true (s.clocks.frac + steps), disciplined := true } }) ∧
  (∀ s : State, exec .timeSlewEnd s = .next { s with clocks := { s.clocks with
        frac := clampFrac s.clocks.spineHfrc (s.clocks.frac - s.clocks.slew), slew := 0 } }) ∧
  (∀ s : State, timeFresh s = false → exec .timeFrameAbsence s = .next { s with time := { s.time with lastTime := none } }) ∧
  (∀ (hfrc : Bool) (f : Int), nominalFrac hfrc - fracRange hfrc ≤ (clampFrac hfrc f : Int) ∧
    (clampFrac hfrc f : Int) ≤ nominalFrac hfrc + fracRange hfrc) ∧
  (∀ (p : Fin 64) (s : State), rcTimed (podAt s p.val) = true → 1024 ≤ (podAt s p.val).periodFrames →
    exec (.framePeriodUpdate p) s = .next (modPod p.val (fun d => { d with
        framePeriod := (roundOpen (((d.marker - d.periodStart) * 65536 : Nat) : Int) d.periodFrames).toNat,
        periodStart := d.marker, periodFrames := 0 }) s)) ∧
  (∀ (p : Fin 64) (hz silent : Nat) (s : State), rcTimed (podAt s p.val) = true → hz < 14000000 ∨ 18000000 < hz ∨ 64 ≤ silent →
    exec (.rcFrameRateFault p hz silent) s = .next (raise .pod p.val 5 0 s)) ∧
  (∀ (p : Fin 64) (hz silent : Nat) (s : State), 14000000 ≤ hz → hz ≤ 18000000 → silent < 64 →
    exec (.rcFrameRateFault p hz silent) s = .next s)

/-! ### Start-up, STANDBY and resets -/

/-- R484, R486, R59: RECALL takes the image of the verifying slot with the highest sequence, the catalogue defaults where none
verifies, and moves the write counter to the highest sequence found; the log scan makes the log ready (R496). Both keep to their
phases of BOOT (R187). -/
def Obligations.RecallTakesTheNewestImage : Prop :=
  (∀ (x : Damage) (s : State), s.chip.state = .boot → s.chip.reset = none → booted s 0 = true → booted s 2 = false →
    qualified s 3 = true → s.chip.resetLow = false → s.guard.armed = false →
    Completes (.recall x) s (fun t =>
      t.chip.phases = s.chip.phases ++ [2] ∧ t.dict.staged = [] ∧
      t.shell.counter = max s.shell.counter (highestSeq (damageArray x s)) ∧
      (∀ k, newestOf slotVerifies (damageArray x s) = some k → t.dict.values = (slotAt (damageArray x s) k).image.dev ∧
        t.dict.keys = (slotAt (damageArray x s) k).image.keys) ∧
      (newestOf slotVerifies (damageArray x s) = none → t.dict.values = [] ∧ t.dict.keys = .replicate 3 none))) ∧
  (∀ (x : Damage) (s : State), s.chip.state ≠ .boot ∨ booted s 2 = true ∨ s.chip.resetLow = true → exec (.recall x) s = .next s) ∧
  (∀ (ds : List Nat) (s : State), s.chip.state = .boot → s.chip.reset = none → booted s 2 = true → booted s 3 = false →
    Completes (.logScan ds) s (fun t =>
      t.chip = { s.chip with phases := s.chip.phases ++ [3] } ∧ t.shell.logReady = true ∧ t.dict = s.dict ∧ t.shell.slots = s.shell.slots))

/-- R476, R479, R484: the newest of the slots that pass a check is one of them, with no lower sequence than any other; a STORE
takes a slot that is not RETIRED, and finds none only where every slot is. -/
def Obligations.SlotsAreChosenBySequence : Prop :=
  ∀ (ok : Slot → Bool) (s : State),
    (∀ k, newestOf ok s = some k → k < 8 ∧ ok (slotAt s k) = true ∧
      ∀ j, j < 8 → ok (slotAt s j) = true → (slotAt s j).seq ≤ (slotAt s k).seq) ∧
    (newestOf ok s = none → ∀ j, j < 8 → ok (slotAt s j) = false) ∧
    (∀ k, nextSlot s = some k → k < 8 ∧ (slotAt s k).retired = false ∧
      ∃ i, i < 8 ∧ k = ((newestOf headerVerifies s).elim 0 (· + 1) + i) % 8 ∧
        ∀ j, j < i → (slotAt s (((newestOf headerVerifies s).elim 0 (· + 1) + j) % 8)).retired = true) ∧
    (nextSlot s = none → liveSlots s = 0)

/-- R190, R520: before B4 a fault is held, a condition that already stays raised only once; at B4 Guard arms, nothing stays held, and a
held fault is raised at its initial level with the instant of its first raise: an L1 or L2 opens one occurrence, an L4 takes the chip to
SAFE. -/
def Obligations.GuardArmsAtB4 : Prop :=
  (∀ s : State, s.chip.state = .boot → s.chip.reset = none → booted s 3 = true → booted s 4 = false → qualified s 4 = true →
    Completes .guardArming s (fun t =>
      t.guard.armed = true ∧ t.guard.held = [] ∧ t.chip.phases = s.chip.phases ++ [4] ∧
      (s.guard.held = [] → t = { s with
        chip := { s.chip with phases := s.chip.phases ++ [4] }, guard := { s.guard with armed := true, held := [] } }) ∧
      (∀ h : HeldFault, s.guard.held = [h] → (instAt s (instIndex h.cls h.pod)).occs = [] → instIndex h.cls h.pod < 72 →
        (h.least = 0 → (sourceOf h.cls h.source).2 = 1 ∨ (sourceOf h.cls h.source).2 = 2 → t.chip.state = .boot ∧
          ∃ o : Occ, (instAt t (instIndex h.cls h.pod)).occs = [o] ∧ o.source = h.source ∧ o.level = (sourceOf h.cls h.source).2 ∧
            o.acked = false ∧ o.burst = h.stamp) ∧
        (max (sourceOf h.cls h.source).2 h.least = 4 → t.chip.state = .safe ∧ t.guard.latched = true)))) ∧
  (∀ s : State, s.chip.state ≠ .boot ∨ booted s 3 = false ∨ booted s 4 = true ∨ qualified s 4 = false → exec .guardArming s = .next s) ∧
  (∀ (c : FaultClass) (p source detail : Nat) (s : State), s.guard.armed = false →
    (sourceOf c source).1 = false ∨ staysRaised c p source s = false →
    raise c p source detail s = { s with guard := { s.guard with
      held := s.guard.held ++ [⟨c, p, source, detail, s.time.elapsed, (sourceOf c source).1, 0, false⟩] } }) ∧
  (∀ (c : FaultClass) (p source detail : Nat) (s : State), (sourceOf c source).1 = true → staysRaised c p source s = true →
    raise c p source detail s = s)

/-- R187, R189, R194, R209, R577, R578: B5 releases CORE on HFRC while RESET_N is high, B6 follows HFXO and lets the link join, B7 restarts the Pods, and with
the engine's opening at B8 the chip is ACTIVE. -/
def Obligations.BootPhasesEnd : Prop :=
  (∀ s : State, booting s = true → booted s 4 = true → booted s 5 = false → qualified s 3 = true → s.chip.resetLow = false →
    s.guard.pendingSafe = false → Completes .coreRelease s (fun t =>
      t.chip = { s.chip with phases := s.chip.phases ++ [5], tstHeld := s.chip.straps.tstA || s.chip.straps.tstB } ∧
      (muxAt t 1).code = .alternate ∧ t.guard = s.guard ∧ t.dict = s.dict)) ∧
  (∀ s : State, booting s = true → booted s 5 = true → booted s 6 = false → qualified s 2 = true → s.chip.tstHeld = false →
    s.link.code = .off → s.link.causes = 0 → s.clocks.spineOn = true →
    Completes .hfxoPhase s (fun t =>
      t.chip = { s.chip with phases := s.chip.phases ++ [6] } ∧ (muxAt t 1).code = .primary ∧ t.clocks.corePll = true ∧
      t.clocks.phytx = true ∧ t.link.code = if plcaOff s then .csma else .joining)) ∧
  (∀ (failing : List Nat) (s : State), s.chip.state = .boot → s.chip.reset = none → s.clocks.spineLocked = true → booted s 5 = true →
    booted s 7 = false → s.chip.tstHeld = false → s.chip.fromStandby = false →
    exec (.podRestart failing) s =
      (let t := onPods restartPod { s with chip := { s.chip with phases := s.chip.phases ++ [7] } }
       .next (laneTimeouts failing (trigger 8 255 { t with chip := { t.chip with podsOff := false } })))) ∧
  (∀ (failing : List Nat) (s : State), s.chip.state = .boot → s.chip.reset = none → s.clocks.spineLocked = true → booted s 5 = true →
    booted s 7 = false → s.chip.tstHeld = false → s.chip.fromStandby = true →
    (∀ p, p < 64 → (podAt s p).doze.sentinel ≠ .tripped ∧ takesTransfer (podAt s p) = false) →
    exec (.podRestart failing) s = .next { s with chip := { s.chip with phases := s.chip.phases ++ [7] } }) ∧
  (∀ s : State, booting s = true → s.chip.state = .boot → booted s 6 = true → s.engine.opened = false → linkOpens s.link.code = true →
    Completes .engineOpen s (fun t =>
      t.chip = { s.chip with state := .active, phases := s.chip.phases ++ [8] } ∧ t.engine.opened = true ∧ t.dict = s.dict ∧ t.pods = s.pods))

/-- R37, R198: at B7 a stored RUN, LEAN or WAKING restarts through WAKING, DOZE through DOZE, STOPPED and POD-FAULT stay STOPPED;
the record of the restart says what was stored, test mode has ended (R445, R461; log 51), and no other Pod is touched. R36, R40: a Pod
that is in POD-FAULT already stays there. -/
def Obligations.PodsRestartAsStored : Prop :=
  ∀ (p : Nat) (s : State), p < 64 → (podAt s p).sealRec.code = .closed →
    ((podAt s p).mode = .fault → (podAt (restartPod p s) p).mode = .fault ∧ (podAt (restartPod p s) p).wake = (podAt s p).wake) ∧
    ((podAt s p).mode = .stopped →
     let stored := s.shell.recalledModes.getD p .stopped
     let m : PodMode := match stored with | .stopped | .fault => .stopped | .doze => .doze | _ => .waking
     (podAt (restartPod p s) p).mode = m ∧ (podAt (restartPod p s) p).restartState = m.code ∧
     (podAt (restartPod p s) p).restartStored = (if s.shell.recallRec.slot = 0xFF then 0xFF else stored.code) ∧
     (podAt (restartPod p s) p).restartSource = (s.shell.sources.getD p (0, 0, 0)).1 ∧
     (podAt (restartPod p s) p).values = storePut podDefault (podAt s p).values (keyOf 0xC4 0) 0) ∧
    ∀ r, r < 64 → r ≠ p → podAt (restartPod p s) r = podAt s r

/-- R207, R209, R210, R215: RESET_N low for 10 us begins the reset sequence, a pulse under 1 us does not; at the sequence's end
the chip is in BOOT with its working values and shadow array kept, but for the frame buffers of the panels, which are zero (R218), and with
staged values, sessions and Guard's levels lost. -/
def Obligations.ResetsBeginAndEnd : Prop :=
  (∀ (n : Nat) (s : State), n < 1000 → exec (.resetNAssert n) s = .next { s with chip := { s.chip with resetLow := true } }) ∧
  (∀ (n : Nat) (s : State), 10000 ≤ n → s.chip.state = .active ∨ s.chip.state = .safe → s.chip.reset = none →
    Completes (.resetNAssert n) s (fun t =>
      t.chip.state = .boot ∧ t.chip.reset.isSome = true ∧ t.chip.causeKind = 3 ∧ t.chip.causeStamp = s.time.stamp ∧ t.chip.resetLow = true)) ∧
  (∀ s : State, exec .resetNRelease s = .next { s with chip := { s.chip with resetLow := false } }) ∧
  (∀ (straps : Straps) (r : ResetRun) (s : State), s.chip.reset = some r → r.snapshotDone = true → r.storeDone = true → s.shell.run = none →
    s.panel.paneDischarge = false → s.panel.stripDischarge = false →
    Completes (.resetSequenceEnd straps) s (fun t =>
      t.chip.state = .boot ∧ t.chip.phases = [0, 1] ∧ t.chip.reset = none ∧ t.chip.straps = straps ∧
      (storeWf deviceDefault s.dict.values = true →
        (∀ index sub, sub < 256 → index ≠ 0x2484 → devVal t index sub = devVal s index sub) ∧
        (∀ row, row < 8 → devVal t 0x2484 (row + 1) = 0)) ∧
      t.panel.buffer = [] ∧ t.dict.keys = s.dict.keys ∧ t.dict.staged = [] ∧ t.shell.slots = s.shell.slots ∧ t.shell.banks = s.shell.banks ∧
      t.guard.armed = false ∧ t.engine.opened = false ∧ t.link.code = .off)) ∧
  (∀ (straps : Straps) (s : State), s.chip.reset = none → exec (.resetSequenceEnd straps) s = .next s)

/-- R30, R58, R499, R580, R599: STANDBY is entered when no Pod samples and the link is neither COORDINATOR nor SILENT, and ends
every session; otherwise the command is refused with its status and completion. Activity of `Link.WakeMinLen` leaves it for BOOT,
which skips B0 to B4. -/
def Obligations.StandbyIsEnteredAndLeft : Prop :=
  (∀ (who : Who) (s : State), EngineFree s → 1 ≤ who.level.val → (∀ p, p < 64 → (podAt s p).mode = .stopped ∨ (podAt s p).mode = .doze) →
    s.link.code ≠ .coordinator → s.link.code ≠ .silent → s.link.queue.all (fun f => f.cls != 3) = true →
    Completes (.standby who) s (fun t =>
      t.chip.state = .standby ∧ t.chip.command = commandWord 1 0 2 ∧ t.engine.opened = false ∧ t.engine.last = ⟨stOk, 0, []⟩ ∧
      t.link.code = .wakeListen ∧ t.clocks.spineOn = false ∧ ∀ q, q < 4 → (slotOf t q).session = none)) ∧
  (∀ (who : Who) (p : Nat) (s : State), EngineFree s → 1 ≤ who.level.val → p < 64 → (podAt s p).mode ≠ .stopped → (podAt s p).mode ≠ .doze →
    exec (.standby who) s = .next (withLast stNeedsStop (chipCommand 1 0 3 s))) ∧
  (∀ (who : Who) (s : State), EngineFree s → 1 ≤ who.level.val → (∀ p, p < 64 → (podAt s p).mode = .stopped ∨ (podAt s p).mode = .doze) →
    s.link.code = .coordinator ∨ s.link.code = .silent → exec (.standby who) s = .next (withLast stWrongState (chipCommand 1 0 3 s))) ∧
  (∀ (who : Who) (s : State), EngineFree s → who.level.val = 0 → exec (.standby who) s = .next (withLast stDenied s)) ∧
  (∀ (us : Nat) (s : State), s.chip.state = .standby → s.link.code = .wakeListen → huskRuns s = true → devVal s 0x1106 0 ≤ us →
    Completes (.wakeActivity us) s (fun t =>
      t.chip.state = .boot ∧ t.chip.phases = [0, 1, 2, 3, 4] ∧ t.chip.fromStandby = podsHoldEnergy s ∧ t.link.code = .off ∧ t.dict = s.dict)) ∧
  (∀ (us : Nat) (s : State), us < devVal s 0x1106 0 → exec (.wakeActivity us) s = .next s)

/-- R61, R62, R77: RESTORE-DEFAULTS puts the catalogue defaults into the working image, keeps the keys and starts a STORE that its
reply waits for; it needs every Pod STOPPED, and OPERATOR is not enough. DISCARD-STAGED drops the staged copy of its scope. -/
def Obligations.DefaultsAndDiscards : Prop :=
  (∀ (who : Who) (s : State), EngineFree s → 2 ≤ who.level.val → (∀ p, p < 64 → (podAt s p).mode = .stopped) →
    (∀ p, p < 64 → (podAt s p).sealRec.code = .closed) → nextSlot s ≠ none →
    Completes (.restoreDefaults who) s (fun t =>
      t.dict.values = [] ∧ t.dict.keys = s.dict.keys ∧ t.shell.run.isSome = true ∧ t.engine.waiting = some .restore ∧
      t.chip.command = commandWord 0x10 0 1)) ∧
  (∀ (who : Who) (p : Nat) (s : State), EngineFree s → 2 ≤ who.level.val → p < 64 → (podAt s p).mode ≠ .stopped →
    exec (.restoreDefaults who) s = .next (withLast stNeedsStop (chipCommand 0x10 0 3 s))) ∧
  (∀ (who : Who) (s : State), EngineFree s → who.level.val < 2 → exec (.restoreDefaults who) s = .next (withLast stDenied s)) ∧
  (∀ (who : Who) (p : Nat) (s : State), EngineFree s → 1 ≤ who.level.val → p < 64 →
    exec (.discardStaged who p) s = .next (withLast stOk (chipCommand 0x11 p 2 (modPod p discardPod s)))) ∧
  (∀ (who : Who) (s : State), EngineFree s → 1 ≤ who.level.val →
    exec (.discardStaged who 0xFE) s = .next (withLast stOk (chipCommand 0x11 0xFE 2 (discardDev s))) ∧
    exec (.discardStaged who 0xFF) s =
      .next (withLast stOk (chipCommand 0x11 0xFF 2 (discardDev { s with pods := s.pods.map discardPod })))) ∧
  (∀ (who : Who) (arg : Nat) (s : State), EngineFree s → 1 ≤ who.level.val → 64 ≤ arg → arg < 0xFE →
    exec (.discardStaged who arg) s = .next (withLast stBadValue s)) ∧
  (∀ (who : Who) (arg : Nat) (s : State), EngineFree s → who.level.val = 0 → arg < 256 →
    exec (.discardStaged who arg) s = .next (withLast stDenied s)) ∧
  (∀ d : Pod, discardPod d = { d with staged := [], stagedGen := d.activeGen }) ∧
  (∀ s : State, (discardDev s).dict = { s.dict with staged := [] } ∧ (discardDev s).chip = { s.chip with stagedGen := s.chip.activeGen })

/-! ### Frames, converters and meters of a Pod -/

/-- R28, R69, R186, R245, R270: a frame boundary of a Pod that runs frames ends the frame, serves a snapshot and then acts; of
another Pod it does nothing. The hub latches the marker within two ticks, and while
SPINE is unlocked at the STAMP that HUSK keeps; a pending range change is taken within the limits; HOT
values that wait come into effect. -/
def Obligations.FramesEndAtTheirBoundary : Prop :=
  (∀ (p : Fin 64) (codes : List Int) (cm : Nat) (s : State), frameRuns (podAt s p.val) = true →
    exec (.frameBoundary p codes cm) s = .next (settle (boundaryActs p.val (serveSnapshot p.val (frameEnds p.val codes cm s))))) ∧
  (∀ (p : Fin 64) (codes : List Int) (cm : Nat) (s : State), frameRuns (podAt s p.val) = false →
    exec (.frameBoundary p codes cm) s = .next s) ∧
  (∀ (p : Nat) (codes : List Int) (cm : Nat) (s : State), p < 64 →
    (podAt (frameEnds p codes cm s) p).marker ≤ s.time.stamp + 2 ∧ s.time.stamp ≤ (podAt (frameEnds p codes cm s) p).marker + 2 ∧
    (s.clocks.spineLocked = true → (frameEnds p codes cm s).fresh = s.fresh + 1) ∧
    (s.clocks.spineLocked = false → (podAt (frameEnds p codes cm s) p).marker = s.time.stamp) ∧ ∀ r, r < 64 → r ≠ p → podAt (frameEnds p codes cm s) r = podAt s r) ∧
  (∀ (d : Pod) (k n : Nat), k < 16 → (d.conv.ranges.getD k ⟨0, none, 0, 0⟩).next = some n →
    ((takeRanges d).conv.ranges.getD k ⟨0, none, 0, 0⟩).gain = max (d.val 0x12 1) (min (d.val 0x12 2) n) ∧
    ((takeRanges d).conv.ranges.getD k ⟨0, none, 0, 0⟩).next = none) ∧
  (∀ (d : Pod) (stamp k v : Nat), k / 256 ≠ 0x12 → k ≠ keyOf 0x36 0 → k ≠ keyOf 0xC4 0 →
    k ≠ keyOf 0x72 0 → k ≠ keyOf 0xB2 0 → k ≠ keyOf 0xB4 0 →
    applyHot stamp false { d with hot := [(k, v)] } = { d with values := storePut podDefault d.values k v, hot := [] })

/-- R36, R231, R246, R247, R321, R338: a channel is settled at its count, and the last one of a waking Pod takes it to RUN; the
fundamental path settles after 2 176 outputs; an autoranging entry steps down in gain only after a quiet interval; an excursion of
1 s without interruption is POD source 0x06. -/
def Obligations.ChannelsSettleAndRange : Prop :=
  (∀ (p : Fin 64) (c : Fin 32) (s : State), runsFrames (podAt s p.val) = true → ((podAt s p.val).chans.getD c.val .reset).live = true →
    settleCount (podAt s p.val) c.val ≤ ((podAt s p.val).chans.getD c.val .reset).outputs → (podAt s p.val).mode ≠ .waking →
    exec (.settleCountReached p c) s = .next (modPod p.val (fun d => { d with
      chans := putAt d.chans c.val { (podAt s p.val).chans.getD c.val .reset with settled := true } }) s)) ∧
  (∀ (p : Fin 64) (c : Fin 32) (s : State), runsFrames (podAt s p.val) = true → ((podAt s p.val).chans.getD c.val .reset).live = true →
    settleCount (podAt s p.val) c.val ≤ ((podAt s p.val).chans.getD c.val .reset).outputs → (podAt s p.val).mode = .waking →
    (∀ k, k < 32 → k ≠ c.val → ((podAt s p.val).chans.getD k .reset).live = true → ((podAt s p.val).chans.getD k .reset).settled = true) →
    Completes (.settleCountReached p c) s (fun t => (podAt t p.val).mode = .run ∧ (podAt t p.val).changeCause = 8)) ∧
  (∀ (p : Fin 64) (c : Fin 32) (s : State), ((podAt s p.val).chans.getD c.val .reset).outputs < settleCount (podAt s p.val) c.val →
    exec (.settleCountReached p c) s = .next s) ∧
  (∀ (p : Fin 64) (i : Fin 7) (c : Nat) (s : State), meterChan (podAt s p.val) i.val = some c → runsFrames (podAt s p.val) = true →
    ((podAt s p.val).chans.getD c .reset).live = true → 2176 ≤ ((podAt s p.val).chans.getD c .reset).outputs →
    exec (.fundamentalPathSettled p i) s = .next (modPod p.val (fun d => { d with
      chans := putAt d.chans c { (podAt s p.val).chans.getD c .reset with fundSettled := true } }) s)) ∧
  (∀ (p : Fin 64) (k : Fin 16) (s : State), runsFrames (podAt s p.val) = true → isAuto ((podAt s p.val).seqA.getD k.val 0) = true →
    activeA (podAt s p.val) k.val = true → ((podAt s p.val).conv.ranges.getD k.val ⟨0, none, 0, 0⟩).next = none →
    rangeFrames (podAt s p.val) ≤ ((podAt s p.val).conv.ranges.getD k.val ⟨0, none, 0, 0⟩).frames →
    exec (.downRangeIntervalEnd p k) s =
      (let r := (podAt s p.val).conv.ranges.getD k.val ⟨0, none, 0, 0⟩
       let up := r.peak ≤ 3072 ∧ r.gain < (podAt s p.val).val 0x12 2
       .next (modPod p.val (fun d => { d with
         conv := { d.conv with ranges := putAt d.conv.ranges k.val ⟨if up then r.gain + 1 else r.gain, none, 0, 0⟩ },
         counters := bump d.counters 2 (if up then 1 else 0) }) s))) ∧
  (∀ (p : Fin 64) (m : Fin 5) (s : State), runsFrames (podAt s p.val) = true →
    65536000 * 65536 ≤ (podAt s p.val).conv.cmFrames.getD m.val 0 * (podAt s p.val).framePeriod →
    exec (.cmExcursionFault p m) s = .next (raise .pod p.val 6 0 s)) ∧
  (∀ (p : Fin 64) (m : Fin 5) (s : State),
    (podAt s p.val).conv.cmFrames.getD m.val 0 * (podAt s p.val).framePeriod < 65536000 * 65536 → exec (.cmExcursionFault p m) s = .next s)

/-- R237-R240: only a solve whose interval is closed acts, and only while slice correction runs; one that is late is counted and gone. Else
its corrections wait for the next boundary, each within its limit, and what lies within a limit is taken as it is; they are relative to the
mean of the four slices, so that they sum to zero, each within 1 of the exact difference (how one is rounded is open, log 6). -/
def Obligations.SlicesAreCorrected : Prop :=
  (∀ (p : Fin 64) (onB : Bool) (x : Solve) (s : State), (podAt s p.val).val 0x36 0 ≠ 1 → exec (.sliceSolve p onB x) s = .next s) ∧
  (∀ (p : Fin 64) (onB : Bool) (x : Solve) (s : State), (podAt s p.val).conv.estReady.getD (if onB then 1 else 0) none = none →
    exec (.sliceSolve p onB x) s = .next s) ∧
  (∀ (p : Fin 64) (x : Solve) (any : Bool × Bool) (s : State), runsFrames (podAt s p.val) = true → (podAt s p.val).mode ≠ .lean →
    (podAt s p.val).val 0x36 0 = 1 → (podAt s p.val).conv.estReady.getD 0 none = some any → x.late = true →
    exec (.sliceSolve p false x) s = .next (podCount p.val 6 1 (modPod p.val (fun d => { d with conv := { d.conv with
      estReady := putAt d.conv.estReady 0 none } }) s))) ∧
  (∀ (p : Fin 64) (onB ao ag : Bool) (x : Solve) (s : State), runsFrames (podAt s p.val) = true → (podAt s p.val).mode ≠ .lean →
    (podAt s p.val).val 0x36 0 = 1 → (onB = true → bOff (podAt s p.val) = false) →
    (podAt s p.val).conv.estReady.getD (if onB then 1 else 0) none = some (ao, ag) → x.late = false → (podAt s p.val).conv.clamped = true →
    Completes (.sliceSolve p onB x) s (fun t => ∃ es,
      (podAt t p.val).conv.solve = some ((podAt s p.val).conv.solve.getD [] ++ es) ∧
      (podAt t p.val).conv.estReady.getD (if onB then 1 else 0) none = none ∧
      es.map (·.1) = (if onB = true then [4, 5, 6, 7] else [0, 1, 2, 3]) ∧
      (∀ l, x.offset = some l → ao = true → es.map (·.2.1) = (relativeToMean l).map (clampInt (-4096) 4096)) ∧
      (∀ l, x.gain = some l → ag = true → es.map (·.2.2.1) = (relativeToMean l).map (clampInt (-8192) 8192)) ∧
      (∀ l, x.skew = some l → ag = true → es.map (·.2.2.2) = (relativeToMean l).map (clampInt (-256) 256)) ∧
      (∀ e ∈ es, (x.offset = none ∨ ao = false → e.2.1 = (podAt s p.val).conv.offset.getD e.1 0) ∧
        (x.gain = none ∨ ag = false → e.2.2.1 = (podAt s p.val).conv.gain.getD e.1 0) ∧
        (x.skew = none ∨ ag = false → e.2.2.2 = (podAt s p.val).conv.skew.getD e.1 0)))) ∧
  (∀ a b c e : Int, ∃ v w y z : Int, relativeToMean [a, b, c, e] = [v, w, y, z] ∧ v + w + y + z = 0 ∧
    (4 * v - (4 * a - (a + b + c + e))).natAbs < 4 ∧ (4 * w - (4 * b - (a + b + c + e))).natAbs < 4 ∧
    (4 * y - (4 * c - (a + b + c + e))).natAbs < 4 ∧ (4 * z - (4 * e - (a + b + c + e))).natAbs < 4) ∧
  (∀ (lim : Int) (xs ys : List Int) (b : Bool), 0 ≤ lim → clampSolve lim (some xs) = (some ys, b) →
    (∀ y ∈ ys, -lim ≤ y ∧ y ≤ lim) ∧ (b = false → ys = xs))

/-- R255-R258, R261, R262, R264, R276: an injection whose point has not been reached does nothing, one that finds no free place is put off, one
whose place lies on another slice than the due one waits for its frame; else it records its ratio. A plausibility window that no
saturated pair spoils is compared with its limit. -/
def Obligations.ReferencesAreChecked : Prop :=
  (∀ (p : Fin 64) (ratio : Nat) (s : State), (podAt s p.val).conv.refDue = false → exec (.referenceInjection p ratio) s = .next s) ∧
  (∀ (p : Fin 64) (ratio : Nat) (s : State), runsFrames (podAt s p.val) = true → bOff (podAt s p.val) = false →
    (podAt s p.val).conv.refDue = true → injectionPlace (podAt s p.val) = none → (podAt s p.val).conv.refDefer < 60 →
    exec (.referenceInjection p ratio) s = .next (modPod p.val (fun d => { d with
      conv := { d.conv with refDue := false, refDefer := min 60 (d.conv.refDefer + 1) } }) s)) ∧
  (∀ (p : Fin 64) (ratio g : Nat) (e : Option Nat) (s : State), runsFrames (podAt s p.val) = true → bOff (podAt s p.val) = false →
    (podAt s p.val).conv.refDue = true → injectionPlace (podAt s p.val) = some (g, e) →
    ((g + (podAt s p.val).conv.frameB) % 4 ≠ (if (podAt s p.val).conv.refFirst then 0 else ((podAt s p.val).conv.refSlice + 1) % 4) →
      exec (.referenceInjection p ratio) s = .next s) ∧
    ((g + (podAt s p.val).conv.frameB) % 4 = (if (podAt s p.val).conv.refFirst then 0 else ((podAt s p.val).conv.refSlice + 1) % 4) →
      1000 * ((ratio : Int) - Config.factoryRatio p.val).natAbs ≤ Config.factoryRatio p.val →
      Completes (.referenceInjection p ratio) s (fun t =>
        (podAt t p.val).conv.refRatio = ratio ∧ (podAt t p.val).conv.refSlice = (g + (podAt s p.val).conv.frameB) % 4 ∧
        (podAt t p.val).conv.refStamp = s.time.stamp ∧ (podAt t p.val).conv.refFirst = false ∧ (podAt t p.val).conv.refDue = false ∧
        (podAt t p.val).conv.refDefer = 0 ∧ (podAt t p.val).conv.displaced = e ∧
        (podAt t p.val).counters = (podAt s p.val).counters ∧ t.guard = s.guard))) ∧
  (∀ (p : Fin 64) (k : Nat) (s : State), bOff (podAt s p.val) = false → (podAt s p.val).shared = some k → runsFrames (podAt s p.val) = true →
    2560 / respFrames (chanResp (podAt s p.val) k) ≤ (podAt s p.val).conv.plausPairs.length →
    ((podAt s p.val).conv.plausPairs.take (2560 / respFrames (chanResp (podAt s p.val) k))).all (fun x => x.2.2) = true →
    (podAt s p.val).conv.plausCount < 2 →
    Completes (.plausibilityWindowEnd p) s (fun t =>
      let d := podAt s p.val
      let n := 2560 / respFrames (chanResp d k)
      let x := plausSums (d.conv.plausPairs.take n)
      let fails := d.conv.plausFs * 2 ^ (22 - d.val 0x26 0) * n + d.conv.plausRdg * x.2 < 10000 * x.1
      (podAt t p.val).conv.plausPairs = d.conv.plausPairs.drop n ∧
      (fails → (podAt t p.val).conv.plausStatus = 4 ∧ (podAt t p.val).conv.plausCount = d.conv.plausCount + 1) ∧
      (¬ fails → (podAt t p.val).conv.plausStatus = 3 ∧ (podAt t p.val).conv.plausCount = 0))) ∧
  (∀ (p : Fin 64) (s : State), (podAt s p.val).shared = none → exec (.plausibilityWindowEnd p) s = .next s)

/-- R340, R347, R354, R375, R388, R389, R392, R396, R402, R413, R635: the meters of a Pod that runs frames act on their events once the values
these need are delivered. A booking takes the oldest half-cycle that waits, and no energy register falls; a window takes the oldest one
that waits, and its values carry its bounds; a harmonic window whose end is known goes to the unit, or is discarded while the one before
is unpublished; a publication takes the window that its command names; phasors are those of an instant of the grid; a refresh moves on by a
quarter of an event cycle at least, and at the idle decision arms the sentinel; a reference without a crossing for 1/42 s is dropped there.
A Pod that runs no frames measures nothing. -/
def Obligations.MetersActOnTheirEvents : Prop :=
  (∀ (p : Fin 64) (iv : Interval) (rest : List Interval) (s : State), runsFrames (podAt s p.val) = true →
    (podAt s p.val).meter.halfQueue = iv :: rest → reached (podAt s p.val) iv.stop = true →
    Completes (.halfCycleBooking p) s (fun t =>
      (podAt t p.val).meter.boundary = iv.stop ∧ (podAt t p.val).meter.lastBooking = iv.stop ∧
      (podAt t p.val).meter.halves = (podAt s p.val).meter.halves + 1 ∧
      (∀ k, (podAt s p.val).meter.regs.getD k 0 ≤ (podAt t p.val).meter.regs.getD k 0) ∧
      ((podAt s p.val).meter.source = 0 → (podAt t p.val).meter.halfQueue = rest) ∧
      ∀ r, r < 64 → r ≠ p.val → podAt t r = podAt s r)) ∧
  (∀ (p : Fin 64) (iv : Interval) (rest : List Interval) (s : State), runsFrames (podAt s p.val) = true →
    (podAt s p.val).meter.winQueue = iv :: rest → reached (podAt s p.val) iv.stop = true → iv.stop ≤ (podAt s p.val).meter.boundary →
    exec (.windowEnd p) s = .next (windowStreams p.val (modPod p.val windowNext s)) ∧
    (streamsRun s = false → Completes (.windowEnd p) s (fun t =>
      (podAt t p.val).meter.winQueue = rest ∧ (podAt t p.val).meter.window.seq = wrap32 ((podAt s p.val).meter.window.seq + 1) ∧
      (podAt t p.val).meter.window.start = iv.start ∧ (podAt t p.val).meter.window.stop = iv.stop ∧
      (podAt t p.val).meter.regs = (podAt s p.val).meter.regs ∧ ∀ r, r < 64 → r ≠ p.val → podAt t r = podAt s r))) ∧
  (∀ (p : Fin 64) (s : State), runsFrames (podAt s p.val) = true →
    (harmEnd (podAt s p.val) = none → exec (.harmonicWindowEnd p) s = .next s) ∧
    (∀ rises, harmEnd (podAt s p.val) = some rises → rises ≠ [] → (podAt s p.val).harm.due = none →
      Completes (.harmonicWindowEnd p) s (fun t => ∃ w, (podAt t p.val).harm.due = some w ∧ w.start = (podAt s p.val).harm.start ∧
        (podAt t p.val).harm.start = w.stop ∧ w.rises = rises ∧ w.stop = rises.getLastD 0 ∧ w.cycles + 1 = rises.length ∧
        (podAt t p.val).counters = (podAt s p.val).counters)) ∧
    (∀ rises w, harmEnd (podAt s p.val) = some rises → rises ≠ [] → (podAt s p.val).harm.due = some w →
      Completes (.harmonicWindowEnd p) s (fun t => (podAt t p.val).harm.due = some w ∧ (podAt t p.val).harm.start = rises.getLastD 0 ∧
        (podAt t p.val).harm.skipped = true ∧ (podAt t p.val).counters = bump (podAt s p.val).counters 9)) ∧
    (∀ w, (podAt s p.val).harm.due = some w → Completes (.harmonicPublication p w.stop) s (fun t =>
      (podAt t p.val).harm.due = none ∧ (podAt t p.val).harm.skipped = false ∧
      (podAt t p.val).harm.seq = wrap32 ((podAt s p.val).harm.seq + 1) ∧ (podAt t p.val).harm.info.seq = (podAt t p.val).harm.seq ∧
      (podAt t p.val).harm.info.start = w.start ∧ (podAt t p.val).harm.info.stop = w.stop ∧ (podAt t p.val).harm.info.cycles = w.cycles)) ∧
    (∀ stop, (∀ w, (podAt s p.val).harm.due = some w → w.stop ≠ stop) → exec (.harmonicPublication p stop) s = .next s) ∧
    (∀ instant quality, (podAt s p.val).harm.phasorDue.find? (fun x => x.1 == instant) = some (instant, quality) →
      instant ≤ stampBehind (podAt s p.val) 34588 → Completes (.phasorPublication p instant) s (fun t =>
        (podAt t p.val).harm.phasorT = instant ∧ (podAt t p.val).harm.phasorQuality = quality ∧
        (podAt t p.val).harm.phasorFreq = (podAt s p.val).meter.freq ∧
        (podAt t p.val).harm.phasorDue = (podAt s p.val).harm.phasorDue.filter (fun x => decide (instant < x.1)) ∧
        (podAt t p.val).meter = (podAt s p.val).meter)) ∧
    (∀ instant, (∀ x ∈ (podAt s p.val).harm.phasorDue, x.1 ≠ instant) → exec (.phasorPublication p instant) s = .next s)) ∧
  (∀ (p : Fin 64) (s : State), runsFrames (podAt s p.val) = true → refreshDue (podAt s p.val) = true →
    Completes (.eventRmsRefresh p) s (fun t =>
      (podAt t p.val).events.refreshAt = nextRefresh (podAt s p.val) ∧
      (2 ≤ (podAt s p.val).events.gridCycle →
        4 * (podAt s p.val).events.refreshAt + (podAt s p.val).events.gridCycle ≤ 4 * (podAt t p.val).events.refreshAt) ∧
      (podAt t p.val).meter = (podAt s p.val).meter ∧ (podAt t p.val).mode = (podAt s p.val).mode ∧
      (idleDecision (nextRefresh (podAt s p.val)) (refreshRun (podAt s p.val)) = true →
        (podAt t p.val).doze = { (podAt s p.val).doze with sentinel := .arming, idleEntry := true, restart := false }) ∧
      (idleDecision (nextRefresh (podAt s p.val)) (refreshRun (podAt s p.val)) = false → (podAt t p.val).doze = (podAt s p.val).doze))) ∧
  (∀ (p : Fin 64) (s : State), runsFrames (podAt s p.val) = true →
    ((podAt s p.val).meter.source = 0 → exec (.referenceLoss p) s = .next s) ∧
    (∀ c, (podAt s p.val).meter.source ≠ 0 →
      ((podAt s p.val).meter.crossings.getD ((podAt s p.val).meter.source - 1) []).head? = some c →
      (42 * (stampBehind (podAt s p.val) 34588 - c.stamp) < 65536000 → exec (.referenceLoss p) s = .next s) ∧
      (65536000 ≤ 42 * (stampBehind (podAt s p.val) 34588 - c.stamp) → Completes (.referenceLoss p) s (fun t =>
        (podAt t p.val).meter.source = 0 ∧ (podAt t p.val).meter.formed = max (podAt s p.val).meter.formed (c.stamp + 1560381) ∧
        (podAt t p.val).harm.start = (podAt t p.val).meter.formed ∧ (podAt t p.val).meter.regs = (podAt s p.val).meter.regs ∧
        ∀ r, r < 64 → r ≠ p.val → podAt t r = podAt s r)))) ∧
  (∀ (p : Fin 64) (kind : Nat) (i : Fin 7) (s : State),
    Completes (.eventBlockExpiry p kind i) s (fun t => podAt t p.val = { podAt s p.val with events := { (podAt s p.val).events with
        blocks := (podAt s p.val).events.blocks.filter (fun b => !(b.1 == kind && b.2.1 == i.val && decide (b.2.2 ≤ s.time.stamp))) } } ∧
      ∀ r, r < 64 → r ≠ p.val → podAt t r = podAt s r)) ∧
  (∀ (p : Fin 64) (s : State), (halfDue (podAt s p.val) = false → exec (.halfCycleBooking p) s = .next s) ∧
    (windowDue (podAt s p.val) = false → exec (.windowEnd p) s = .next s) ∧
    (refreshDue (podAt s p.val) = false → exec (.eventRmsRefresh p) s = .next s)) ∧
  (∀ (p : Fin 64) (t : Tick) (s : State), runsFrames (podAt s p.val) = false →
    exec (.halfCycleBooking p) s = .next s ∧ exec (.windowEnd p) s = .next s ∧ exec (.eventRmsRefresh p) s = .next s ∧
    exec (.harmonicWindowEnd p) s = .next s ∧ exec (.harmonicPublication p t) s = .next s ∧ exec (.phasorPublication p t) s = .next s ∧
    exec (.referenceLoss p) s = .next s)

/-- R354, R357, R363, R488: a booking takes the oldest half-cycle that waits; no energy register ever falls at one, and a booking
with none waiting changes nothing. -/
def Obligations.RegistersNeverFall : Prop :=
  (∀ (d : Pod) (k : Nat), d.meter.regs.getD k 0 ≤ (bookNext d).1.meter.regs.getD k 0) ∧
  (∀ d : Pod, d.meter.halfQueue = [] → bookNext d = (d, [])) ∧
  (∀ (d : Pod) (iv : Interval) (rest : List Interval), d.meter.halfQueue = iv :: rest →
    (bookNext d).1.meter.halfQueue = rest ∧ (bookNext d).1.meter.boundary = iv.stop ∧ (bookNext d).1.meter.lastBooking = iv.stop ∧
    (bookNext d).1.meter.halves = d.meter.halves + 1)

/-! ### Doze, pulses and the lane of a Pod -/

/-- R413, R418, R420, R421: a self-test within 1 000 ± 50 ticks arms, another count fails the arming; retries at a restart are
marked; a level above the threshold for 20 us trips an armed sentinel and asks for a wake, is counted by one that has not
armed or has tripped already, and is held while HUSK is frozen. -/
def Obligations.SentinelsArmAndTrip : Prop :=
  (∀ (p : Fin 64) (n : Nat) (s : State), (podAt s p.val).doze.sentinel = .arming → 950 ≤ n → n ≤ 1050 → (podAt s p.val).mode = .stopped →
    (podAt s p.val).doze.idleEntry = false → (podAt s p.val).doze.restart = false →
    Completes (.sentinelArmed p n) s (fun t =>
      (podAt t p.val).mode = .doze ∧ (podAt t p.val).doze.sentinel = .armed ∧ (podAt t p.val).doze.armedAt = s.time.stamp ∧
      (podAt t p.val).doze.entry = 2 ∧ (podAt t p.val).meter = (podAt s p.val).meter)) ∧
  (∀ (p : Fin 64) (n : Nat) (s : State), (podAt s p.val).doze.sentinel = .arming → n < 950 ∨ 1050 < n →
    exec (.sentinelArmed p n) s = .next (armFails p.val s)) ∧
  (∀ (p : Fin 64) (n : Nat) (s : State), (podAt s p.val).doze.sentinel ≠ .arming → exec (.sentinelArmed p n) s = .next s) ∧
  (∀ (p : Fin 64) (s : State), (podAt s p.val).doze.sentinel = .arming → (podAt s p.val).doze.restart = true →
    exec (.armingRetry p) s = .next (modPod p.val (fun d => { d with doze := { d.doze with
      flags := setBit d.doze.flags 1,
      armingFrom := some (d.doze.armingFrom.getD s.time.stamp) } }) s)) ∧
  (∀ (p : Fin 64) (uv us : Nat) (s : State), (podAt s p.val).val 0xB3 0 < uv → 20 ≤ us → huskRuns s = true → s.chip.state = .active →
    (podAt s p.val).doze.sentinel = .armed → (podAt s p.val).doze.idleEntry = false →
    exec (.sentinelTrip p uv us) s = .next (trigger 1 p.val (modPod p.val (fun d => { d with
      wake := some (d.wake.getD 1), doze := { d.doze with sentinel := .tripped, tripAt := s.time.stamp } }) s))) ∧
  (∀ (p : Fin 64) (uv us : Nat) (s : State), (podAt s p.val).val 0xB3 0 < uv → 20 ≤ us → huskRuns s = true →
    s.chip.state ≠ .unpowered → (podAt s p.val).doze.sentinel = .arming ∨ (podAt s p.val).doze.sentinel = .tripped ∨
      (podAt s p.val).doze.sentinel = .pending →
    exec (.sentinelTrip p uv us) s = .next (podCount p.val 14 1 s)) ∧
  (∀ (p : Fin 64) (uv us : Nat) (s : State), (podAt s p.val).val 0xB3 0 < uv → 20 ≤ us → huskRuns s = false →
    s.chip.state ≠ .unpowered → (podAt s p.val).doze.sentinel ≠ .off →
    exec (.sentinelTrip p uv us) s = .next (modPod p.val (fun d => { d with doze := { d.doze with tripHeld := true } }) s)) ∧
  (∀ (p : Fin 64) (uv us : Nat) (s : State), uv ≤ (podAt s p.val).val 0xB3 0 ∨ us < 20 → exec (.sentinelTrip p uv us) s = .next s)

/-- R119, R415, R422, R425, R429: a granted wake whose power-up has ended starts the Pod in WAKING, on SPINE where that is locked, once the
entries to LEAN that its evaluation granted have taken place; a transfer in ACTIVE over a lane that delivers books the untransferred ticks
into the dormant register and counts itself; outside ACTIVE the ticks count on. -/
def Obligations.DozingPodsWakeAndTransfer : Prop :=
  (∀ (p : Fin 64) (src : Nat) (s : State), (podAt s p.val).powering = some src → governorActs s = true → (podAt s p.val).frozen = false →
    (podAt s p.val).powerWait = false → Completes (.wakePowerUpDone p) s (fun t =>
      (podAt t p.val).mode = .waking ∧ (podAt t p.val).powering = none ∧ (podAt t p.val).wake = none ∧
      (podAt t p.val).mux = (if s.clocks.spineLocked then .primary else .alternate) ∧ (podAt t p.val).frames = 0)) ∧
  (∀ (p : Fin 64) (s : State), (podAt s p.val).powering = none ∨ (podAt s p.val).powerWait = true →
    exec (.wakePowerUpDone p) s = .next s) ∧
  (∀ (p : Fin 64) (n : Nat) (sat : Bool) (s : State), sentinelCounts (podAt s p.val) = true → s.chip.state = .active →
    laneSilent s p.val = false → (podAt s p.val).doze.idleEntry = false →
    exec (.dormantTransfer p n sat) s = .next (laneDone p.val (modPod p.val (fun d => transferPod s.time.stamp { d with doze :=
      { d.doze with
        ticks := d.doze.ticks + n, untransferred := d.doze.untransferred + n, saturated := d.doze.saturated || sat } }) s))) ∧
  (∀ (p : Fin 64) (n : Nat) (sat : Bool) (s : State), sentinelCounts (podAt s p.val) = true → s.chip.state = .standby →
    exec (.dormantTransfer p n sat) s = .next (modPod p.val (fun d => { d with doze := { d.doze with
      ticks := d.doze.ticks + n, untransferred := d.doze.untransferred + n, saturated := d.doze.saturated || sat } }) s)) ∧
  (∀ (now : Tick) (d : Pod), takesTransfer d = true →
    (transferPod now d).doze.untransferred = 0 ∧ (transferPod now d).doze.transfers = wrap32 (d.doze.transfers + 1) ∧
    (transferPod now d).doze.lastTransfer = now ∧
    (transferPod now d).meter.regs.getD 12 0 = d.meter.regs.getD 12 0 + d.doze.carried +
      tickEnergy d (d.doze.untransferred - d.doze.carriedTicks) ∧
    ∀ k, k ≠ 12 → (transferPod now d).meter.regs.getD k 0 = d.meter.regs.getD k 0)

/-- R440, R441, R446, R448: an edge that is allowed takes one pulse from those owed and starts its width, 2 ticks at least and 2
048 outside test mode; a pulse ends at its width; a residue event empties the emitter and records what it discards; a hold cuts a
pulse where it must. -/
def Obligations.PulsesAreDriven : Prop :=
  (∀ (p : Fin 64) (s : State), pulseRuns s = true → gateOn s 3 = true → edgeAllowed (podAt (syncPulse p.val s) p.val) s.time.elapsed = true →
    exec (.pulseLeadingEdge p) s = .next (modPod p.val (pulseEdge s.time.elapsed s.time.stamp) (syncPulse p.val s))) ∧
  (∀ (p : Fin 64) (s : State), pulseRuns s = false ∨ gateOn s 3 = false ∨
      edgeAllowed (podAt (syncPulse p.val s) p.val) s.time.elapsed = false →
    exec (.pulseLeadingEdge p) s = .next (syncPulse p.val s)) ∧
  (∀ (p : Fin 64) (s : State), s.clocks.spineLocked = true →
    ((podAt (syncPulse p.val s) p.val).pulse.edgeTicks + 16 * (podAt (syncPulse p.val s) p.val).pulse.width ≤ s.time.elapsed →
      exec (.pulseWidthEnd p) s =
        .next (modPod p.val (fun d => { d with pulse := { d.pulse with driving := false } }) (syncPulse p.val s))) ∧
    (s.time.elapsed < (podAt (syncPulse p.val s) p.val).pulse.edgeTicks + 16 * (podAt (syncPulse p.val s) p.val).pulse.width →
      exec (.pulseWidthEnd p) s = .next (syncPulse p.val s))) ∧
  (∀ (now stamp : Tick) (d : Pod), edgeAllowed d now = true →
    (pulseEdge now stamp d).pulse.owed + 1 = d.pulse.owed ∧ (pulseEdge now stamp d).pulse.driving = true ∧
    (pulseEdge now stamp d).pulse.lastEdge = stamp ∧ 2 ≤ (pulseEdge now stamp d).pulse.width ∧
    (d.pulse.test = false → 2048 ≤ (pulseEdge now stamp d).pulse.width) ∧ (pulseEdge now stamp d).meter = d.meter) ∧
  (∀ (cause : Nat) (stamp : Tick) (d : Pod),
    (pulseResidue cause stamp d).pulse.owed = 0 ∧ (pulseResidue cause stamp d).pulse.acc = 0 ∧ (pulseResidue cause stamp d).pulse.spreads = [] ∧
    (pulseResidue cause stamp d).pulse.residuePulses = d.pulse.owed ∧
    (pulseResidue cause stamp d).pulse.residueTotal = wrap32 (d.pulse.residueTotal + d.pulse.owed)) ∧
  (∀ d : Pod, (pulseHold true d).pulse.driving = false ∧ (pulseHold false d).pulse.driving = d.pulse.driving)

/-- R19, R23, R26, R675: more than 12 mA for more than 10 us opens the isolation switch; a corrected ECC error is recorded and
counted, an uncorrected one is POD source 0x03; a lane timeout is POD source 0x02; an isolated Pod reports no current. -/
def Obligations.PodLanesFail : Prop :=
  (∀ (p : Fin 64) (ua ns : Nat) (s : State), s.chip.state ≠ .unpowered → 12000 < ua → 10000 < ns → (podAt s p.val).faults.isoOpen = false →
    exec (.isolationSwitchOpen p ua ns) s = .next (raise .pod p.val 1 0 (modPod p.val (fun d => { d with faults := { d.faults with
      isoOpen := true, isoOpens := wrap32 (d.faults.isoOpens + 1), isoStamp := s.time.stamp, isoCause := 1, isoPeak := min 65535 ua,
      current := 0 } }) s))) ∧
  (∀ (p : Fin 64) (ua ns : Nat) (s : State), ua ≤ 12000 ∨ ns ≤ 10000 ∨ (podAt s p.val).faults.isoOpen = true →
    exec (.isolationSwitchOpen p ua ns) s = .next s) ∧
  (∀ (p : Fin 64) (w : Nat) (s : State), s.chip.state ≠ .unpowered →
    exec (.registerFileEccError p w false) s = .next (modPod p.val (fun d => { d with
      faults := { d.faults with eccWord := w % 65536, eccStamp := s.time.stamp }, counters := bump d.counters 16 }) s) ∧
    exec (.registerFileEccError p w true) s = .next (raise .pod p.val 3 0 (modPod p.val (fun d => { d with
      faults := { d.faults with eccBadWord := w % 65536, eccBadStamp := s.time.stamp } }) s))) ∧
  (∀ (p : Fin 64) (s : State), s.chip.state ≠ .unpowered → (podAt s p.val).faults.isoOpen = false →
    exec (.laneTimeout p) s = .next (raise .pod p.val 2 0 (hubCount 1 (modPod p.val (fun d => { d with faults := { d.faults with
      laneFailed := some s.time.elapsed, laneTimeouts := wrap32 (d.faults.laneTimeouts + 1), laneStamp := s.time.stamp,
      laneRun := min 255 (d.faults.laneRun + 1) } }) s)))) ∧
  (∀ (p : Fin 64) (ua : Nat) (s : State), exec (.supplyCurrentReport p ua) s = .next (modPod p.val (fun d => { d with
      faults := { d.faults with current := if d.faults.isoOpen then 0 else min 65535 ua } }) s))

/-! ### Commands of a Pod -/

/-- R36, R41, R117, R665: START of a Pod that is STOPPED or in DOZE asks the governor and waits for it, STOP of a running Pod is
taken at its next boundary and ends the doze of a dozing one; POD-FAULT takes neither. A Pod out of reach answers POD_UNAVAILABLE,
and a requester at PUBLIC is DENIED. -/
def Obligations.PodsStartAndStop : Prop :=
  (∀ (who : Who) (p : Fin 64) (s : State), EngineFree s → 1 ≤ who.level.val → laneSilent s p.val = false →
    (podAt s p.val).mode = .stopped ∨ (podAt s p.val).mode = .doze → (podAt s p.val).powering = none →
    (podAt s p.val).seqA.any entryUsed = true →
    exec (.start who p) s =
      (let t := trigger 2 p.val (podCommand p.val 1 0 1 (modPod p.val (fun d => { d with wake := some 2 }) (laneDone p.val s)))
       .next { t with engine := { t.engine with running := some (rowFrame who []), waiting := some (.start p) } })) ∧
  (∀ (who : Who) (p : Fin 64) (s : State), EngineFree s → 1 ≤ who.level.val → laneSilent s p.val = false →
    (podAt s p.val).mode = .fault ∨ (podAt s p.val).seqA.any entryUsed = false →
    exec (.start who p) s = .next (withLast stWrongState (podCommand p.val 1 0 3 (laneDone p.val s)))) ∧
  (∀ (who : Who) (p : Fin 64) (s : State), EngineFree s → 1 ≤ who.level.val → laneSilent s p.val = false →
    runsFrames (podAt s p.val) = true →
    exec (.stop who p) s = .next (withLast stOk (podCommand p.val 2 0 1
      (modPod p.val (fun d => { d with plan := { d.plan with stop := true } }) (laneDone p.val s))))) ∧
  (∀ (who : Who) (p : Fin 64) (s : State), EngineFree s → 1 ≤ who.level.val → laneSilent s p.val = false → (podAt s p.val).mode = .doze →
    Completes (.stop who p) s (fun t => (podAt t p.val).mode = .stopped ∧ (podAt t p.val).wake = none ∧
      (podAt t p.val).command = commandWord 2 0 2 ∧ t.engine.last = ⟨stOk, 0, []⟩)) ∧
  (∀ (who : Who) (p : Fin 64) (s : State), EngineFree s → 1 ≤ who.level.val → laneSilent s p.val = false → (podAt s p.val).mode = .fault →
    exec (.stop who p) s = .next (withLast stWrongState (podCommand p.val 2 0 3 (laneDone p.val s)))) ∧
  (∀ (who : Who) (p : Fin 64) (s : State), EngineFree s → 1 ≤ who.level.val → laneSilent s p.val = true →
    exec (.start who p) s = .next (withLast stPodUnavailable (laneFell p.val s)) ∧
    exec (.stop who p) s = .next (withLast stPodUnavailable (laneFell p.val s))) ∧
  (∀ (who : Who) (p : Fin 64) (s : State), EngineFree s → who.level.val = 0 →
    exec (.start who p) s = .next (withLast stDenied s) ∧ exec (.stop who p) s = .next (withLast stDenied s))

/-- R157, R241, R414, R432, R445: DOZE arms the sentinel of a STOPPED Pod; ACK-DORMANT takes the register over only where the
transfer count matches; the clock commands wait for the frame boundary; slice control and test mode take effect as HOT values. -/
def Obligations.PodCommandsAct : Prop :=
  (∀ (who : Who) (p : Fin 64) (s : State), EngineFree s → 1 ≤ who.level.val → laneSilent s p.val = false →
    ((podAt s p.val).mode = .stopped → (podAt s p.val).powering = none →
      exec (.doze who p) s = .next (withLast stOk (podCommand p.val 0x30 0 1 (modPod p.val (fun d => { d with
        doze := { d.doze with sentinel := .arming, restart := false, idleEntry := false } }) (laneDone p.val s))))) ∧
    ((podAt s p.val).mode = .doze → exec (.doze who p) s = .next (withLast stOk (podCommand p.val 0x30 0 2 (laneDone p.val s)))) ∧
    ((podAt s p.val).mode ≠ .doze → (podAt s p.val).mode ≠ .stopped →
      exec (.doze who p) s = .next (withLast stWrongState (podCommand p.val 0x30 0 3 (laneDone p.val s)))) ∧
    (∀ arg, (podAt s p.val).doze.transfers % 256 = arg % 256 →
      exec (.ackDormant who p arg) s = .next (withLast stOk (podCommand p.val 0x31 (arg % 256) 2 (modPod p.val (fun d => { d with
        doze := { d.doze with ack := d.meter.regs.getD 12 0 } }) (laneDone p.val s))))) ∧
    (∀ arg, (podAt s p.val).doze.transfers % 256 ≠ arg % 256 →
      exec (.ackDormant who p arg) s = .next (withLast stWrongState (podCommand p.val 0x31 (arg % 256) 3 (laneDone p.val s))))) ∧
  (∀ (who : Who) (p : Fin 64) (s : State), EngineFree s → 2 ≤ who.level.val → laneSilent s p.val = false →
    (sampling (podAt s p.val).mode = true → (podAt s p.val).mux = .primary →
      exec (.clockRc who p) s = .next (withLast stOk (podCommand p.val 0x20 0 1
        (modPod p.val (fun d => { d with plan := { d.plan with toRc := true } }) (laneDone p.val s))))) ∧
    (sampling (podAt s p.val).mode = true → (podAt s p.val).mux = .alternate → s.clocks.spineLocked = true → contained s 0 = false →
      exec (.clockSpine who p) s = .next (withLast stOk (podCommand p.val 0x21 0 1
        (modPod p.val (fun d => { d with plan := { d.plan with toSpine := true } }) (laneDone p.val s))))) ∧
    (sampling (podAt s p.val).mode = false →
      exec (.clockRc who p) s = .next (withLast stWrongState (podCommand p.val 0x20 0 3 (laneDone p.val s))) ∧
      exec (.clockSpine who p) s = .next (withLast stWrongState (podCommand p.val 0x21 0 3 (laneDone p.val s)))) ∧
    exec (.sliceRun who p) s = .next (withLast stOk (hotPod p.val (keyOf 0x36 0) 1 (laneDone p.val s))) ∧
    exec (.sliceFreeze who p) s = .next (withLast stOk (hotPod p.val (keyOf 0x36 0) 0 (laneDone p.val s))) ∧
    exec (.sliceFactory who p) s = .next (withLast stOk (hotPod p.val (keyOf 0x36 0) 2 (laneDone p.val s)))) ∧
  (∀ (who : Who) (p : Fin 64) (s : State), EngineFree s → who.level.val < 2 →
    exec (.clockRc who p) s = .next (withLast stDenied s) ∧ exec (.clockSpine who p) s = .next (withLast stDenied s) ∧
    exec (.sliceRun who p) s = .next (withLast stDenied s)) ∧
  (∀ (who : Who) (p : Fin 64) (v : Nat) (s : State), EngineFree s → who.level.val = 3 → laneSilent s p.val = false → gateOn s 3 = true → v ≤ 1 →
    (v = 0 ∨ (podAt s p.val).sealRec.code = .opened →
      exec (.plsTestWrite who p v) s = .next (withLast stOk (hotPod p.val (keyOf 0xC4 0) v (laneDone p.val s)))) ∧
    (v = 1 → (podAt s p.val).sealRec.code ≠ .opened →
      exec (.plsTestWrite who p v) s = .next (withLast stSealed (laneDone p.val s))))

/-- R216, R217, R665: RESET of a Pod acts once its outcome stands: on one that runs frames it is taken at its next boundary, on one that does
not it acts at once, and without an answer on the lane it is the hard reset, after a lane timeout where the switch was closed; INSTALLER at
least. -/
def Obligations.PodResetIsSoftOrHard : Prop :=
  (∀ (who : Who) (p : Fin 64) (answers : Bool) (s : State), EngineFree s → 2 ≤ who.level.val → laneSilent s p.val = false →
    exec (.podCmdReset who p answers) s =
      .next (requestReset p.val answers (laneFell p.val (withLast stOk (podCommand p.val 3 0 1 (laneDone p.val s)))))) ∧
  (∀ (who : Who) (p : Fin 64) (answers : Bool) (s : State), EngineFree s → 2 ≤ who.level.val →
    (podAt s p.val).faults.isoOpen = true → exec (.podCmdReset who p answers) s =
      .next (hardReset p.val (laneFell p.val (withLast stOk (podCommand p.val 3 0 1 s))))) ∧
  (∀ (who : Who) (p : Fin 64) (answers : Bool) (s : State), EngineFree s → who.level.val < 2 →
    exec (.podCmdReset who p answers) s = .next (withLast stDenied s)) ∧
  (∀ (p : Nat) (s : State), (podAt s p).faults.isoOpen = false → runsFrames (podAt s p) = true →
    requestReset p true s = modPod p (fun d => { d with plan := { d.plan with reset := true } }) s) ∧
  (∀ (p : Nat) (s : State), (podAt s p).faults.isoOpen = false → runsFrames (podAt s p) = false → requestReset p true s = softReset p s) ∧
  (∀ (p : Nat) (s : State), (podAt s p).faults.isoOpen = true → ∀ answers, requestReset p answers s = hardReset p s) ∧
  (∀ (p : Nat) (s : State), (podAt s p).faults.isoOpen = false → requestReset p false s = hardReset p (laneTimeout p s)) ∧
  (∀ d : Pod, (clearedPod d).staged = [] ∧ (clearedPod d).hot = [] ∧ (clearedPod d).values = d.values ∧ (clearedPod d).sealRec = d.sealRec ∧
    (clearedPod d).meter.regs = d.meter.regs ∧ (clearedPod d).counters = d.counters ∧ (clearedPod d).doze = d.doze)

/-- R457, R459, R460, R461: SEAL-OPEN by METROLOGIST opens a closed seal with a log record, not without room for its protected
record; SEAL-CLOSE writes that record at once and waits for its STORE, but not with sealed values staged; an open seal closes when
its time has run. -/
def Obligations.SealsOpenAndClose : Prop :=
  (∀ (who : Who) (p : Fin 64) (s : State), EngineFree s → who.level.val = 3 → laneSilent s p.val = false → (podAt s p.val).sealRec.code = .closed →
    contained s 2 = false → auditFree s ≠ 0 →
    Completes (.sealOpen who p) s (fun t =>
      (podAt t p.val).sealRec.code = .opened ∧ (podAt t p.val).sealRec.opens = wrap32 ((podAt s p.val).sealRec.opens + 1) ∧
      (podAt t p.val).sealRec.openStamp = s.time.stamp ∧ (podAt t p.val).sealRec.crcOpen = calCrc (podAt s p.val) ∧
      (podAt t p.val).command = commandWord 0x40 0 2 ∧ t.engine.last = ⟨stOk, 0, []⟩ ∧ t.shell.audit = s.shell.audit)) ∧
  (∀ (who : Who) (p : Fin 64) (s : State), EngineFree s → who.level.val = 3 → laneSilent s p.val = false → (podAt s p.val).sealRec.code = .closed →
    contained s 2 = false → auditFree s = 0 →
    exec (.sealOpen who p) s = .next (withLast stAuditFull (podCommand p.val 0x40 0 3 (laneDone p.val s)))) ∧
  (∀ (who : Who) (p : Fin 64) (s : State), EngineFree s → who.level.val = 3 → laneSilent s p.val = false → (podAt s p.val).sealRec.code = .opened →
    (podAt s p.val).staged.any (fun e => sealedLoc e.1) = false → nextSlot s ≠ none →
    Completes (.sealClose who p) s (fun t =>
      (podAt t p.val).sealRec.code = .closing ∧ (podAt t p.val).sealRec.index = 768 + s.shell.audit.length ∧
      (podAt t p.val).command = commandWord 0x41 0 1 ∧ t.shell.audit.length = s.shell.audit.length + 1 ∧
      t.shell.run.isSome = true ∧ t.engine.last = ⟨stOk, 0, []⟩)) ∧
  (∀ (who : Who) (p : Fin 64) (s : State), EngineFree s → who.level.val = 3 → laneSilent s p.val = false → (podAt s p.val).sealRec.code = .opened →
    (podAt s p.val).staged.any (fun e => sealedLoc e.1) = true →
    exec (.sealClose who p) s = .next (withLast stWrongState (podCommand p.val 0x41 0 3 (laneDone p.val s)))) ∧
  (∀ (who : Who) (p : Fin 64) (s : State), EngineFree s → who.level.val < 3 →
    exec (.sealOpen who p) s = .next (withLast stDenied s) ∧ exec (.sealClose who p) s = .next (withLast stDenied s)) ∧
  (∀ (p : Fin 64) (s : State), podsHoldEnergy s = true → (podAt s p.val).sealRec.code = .opened →
    (podAt s p.val).sealRec.openStamp + (podAt s p.val).val 0xCA 0 * 65536000 ≤ s.time.stamp →
    exec (.sealTimeout p) s = .next (closeSeal p.val 2 0 false s)) ∧
  (∀ (p : Fin 64) (s : State), (podAt s p.val).sealRec.code ≠ .opened ∨
      s.time.stamp < (podAt s p.val).sealRec.openStamp + (podAt s p.val).val 0xCA 0 * 65536000 →
    exec (.sealTimeout p) s = .next s)

/-! ### The Shell -/

/-- R470-R474, R477, R523: STORE is requested by command, not twice in a minute, and by the checkpoint when its interval has run;
CAPTURE takes the working image, PROGRAM writes it to the slot with checks that match (R466), a good VERIFY ends the STORE with its outcome and leaves the slots
as they are; CAPTURE and PROGRAM wait while HFRC does not clock the memory (R139). -/
def Obligations.StoresRun : Prop :=
  (∀ (who : Who) (s : State), EngineFree s → 1 ≤ who.level.val → contained s 2 = false → s.shell.lastCommandEnd = none → nextSlot s ≠ none →
    exec (.store who 0) s = .next (withLast stOk (requestStore 1 { s with shell := { s.shell with command := commandWord 1 0 1 } }))) ∧
  (∀ (who : Who) (t0 : Tick) (s : State), EngineFree s → 1 ≤ who.level.val → s.shell.lastCommandEnd = some t0 →
    s.time.elapsed < t0 + 60 * 65536000 →
    exec (.store who 0) s = .next (withLast stWrongState { s with shell := { s.shell with command := commandWord 1 0 3 } })) ∧
  (∀ s : State, s.chip.state = .active ∨ s.chip.state = .standby ∨ s.chip.state = .safe → contained s 2 = false →
    s.shell.lastEnd + devVal s 0x2201 0 * 60 * 65536000 ≤ s.time.elapsed → exec .checkpointDue s = .next (requestStore 2 s)) ∧
  (∀ s : State, contained s 2 = true ∨ s.time.elapsed < s.shell.lastEnd + devVal s 0x2201 0 * 60 * 65536000 →
    exec .checkpointDue s = .next s) ∧
  (∀ (reason k : Nat) (s : State), s.shell.run = none → nextSlot s = some k →
    ∃ r, (requestStore reason s).shell.run = some r ∧ r.phase = 1 ∧ r.slot = k ∧ r.reasons = 2 ^ reason ∧
      r.seq = wrap32 (s.shell.counter + 1) ∧ (requestStore reason s).shell.counter = wrap32 (s.shell.counter + 1)) ∧
  (∀ (r : StoreRun) (s : State), s.shell.run = some r → r.phase = 1 → nvsRuns s = true →
    Completes (.capture []) s (fun t => ∃ q, t.shell.run = some q ∧ q.phase = 2 ∧ q.slot = r.slot ∧ q.seq = r.seq ∧
      q.image.dev = s.dict.values ∧ q.image.keys = s.dict.keys ∧ t.shell.slots = s.shell.slots)) ∧
  (∀ (r : StoreRun) (s : State), s.shell.run = some r → r.phase = 2 → r.slot < 8 → nvsRuns s = true →
    Completes .program s (fun t => t.shell.run = some { r with phase := 3 } ∧
      slotVerifies (slotAt t r.slot) = true ∧ (slotAt t r.slot).seq = r.seq % 2 ^ 32 ∧
      (slotAt t r.slot).reason = topReason r.reasons ∧ (slotAt t r.slot).wear = wrap32 ((slotAt s r.slot).wear + 1) ∧
      (slotAt t r.slot).image = r.image ∧ (slotAt t r.slot).energy = r.energy ∧ (slotAt t r.slot).retired = false ∧
      ∀ k, k < 8 → k ≠ r.slot → slotAt t k = slotAt s k)) ∧
  (∀ s : State, nvsRuns s = false → exec (.capture []) s = .next s ∧ exec .program s = .next s) ∧
  (∀ (r : StoreRun) (s : State), s.shell.run = some r → r.phase = 3 → s.shell.pending = 0 → s.chip.state = .active →
    s.chip.standbyWanted = false → s.engine.running = none → s.engine.waiting = none → s.engine.frames = [] →
    s.engine.subs.all (fun x => !x.due) = true →
    Completes (.verify true) s (fun t => t.shell.run = none ∧ t.shell.last.outcome = (if r.repeated = true then 2 else 1) ∧
      t.shell.last.seq = r.seq ∧ t.shell.stores = wrap32 (s.shell.stores + 1) ∧ t.shell.failures = s.shell.failures ∧ t.shell.slots = s.shell.slots))

/-- R464, R466, R476, R484: what a STORE has programmed is what RECALL takes at the next start, provided its sequence is above
that of every other verifying header: whatever happened in between left the slots as PROGRAM left them. -/
def Obligations.ProgrammedImageIsRecalled : Prop :=
  ∀ (r : StoreRun) (s b : State), s.shell.run = some r → r.phase = 2 → r.slot < 8 → r.seq < 2 ^ 32 →
    (∀ k, k < 8 → k ≠ r.slot → headerVerifies (slotAt s k) = true → (slotAt s k).seq < r.seq) →
    b.shell.slots = (programEnds s).shell.slots →
    b.chip.state = .boot → b.chip.reset = none → booted b 0 = true → booted b 2 = false → qualified b 3 = true → b.chip.resetLow = false →
    b.guard.armed = false →
    Completes (.recall ⟨[], [], [], []⟩) b (fun t =>
      t.dict.values = r.image.dev ∧ t.dict.keys = r.image.keys ∧ t.chip.activeGen = r.image.devGen ∧ t.shell.recallRec.outcome = 1 ∧
      t.shell.recallRec.slot = r.slot ∧ t.shell.recallRec.seq = r.seq ∧
      ∀ p, p < 64 → (podAt t p).values = r.image.pods.getD p [] ∧ (podAt t p).activeGen = r.image.gens.getD p 0)

/-- R492, R495: the oldest waiting record is written at the next index of the general region with the next sequence, in place of
what stood there, and leaves the queue; while the log is not ready, or with none waiting, nothing is written. -/
def Obligations.LogAppendsInOrder : Prop :=
  (∀ (x : LogRec) (rest : List LogRec) (s : State), s.shell.logReady = true → s.shell.queue = x :: rest →
    exec .logAppend s = .next (hubCount 6 { s with shell := { s.shell with
      queue := rest, logSeq := wrap32 (s.shell.logSeq + 1), nextIndex := (s.shell.nextIndex + 1) % 768,
      general := s.shell.general.filter (fun e => e.1 != s.shell.nextIndex) ++
        [(s.shell.nextIndex, { x with seq := wrap32 (s.shell.logSeq + 1), damaged := false })] } })) ∧
  (∀ s : State, s.shell.queue = [] ∨ s.shell.logReady = false → exec .logAppend s = .next s) ∧
  (∀ (kind inst detail : Nat) (payload : List Nat) (s : State), s.shell.drops = 0 → s.shell.queue.length < 16 →
    logAdd kind inst detail payload s = { s with shell := { s.shell with queue := s.shell.queue ++ [logRecOf s kind inst detail payload] } }) ∧
  (∀ (kind inst detail : Nat) (payload : List Nat) (s : State), 16 ≤ s.shell.queue.length →
    (logAdd kind inst detail payload s).shell.queue = s.shell.queue ∧ (logAdd kind inst detail payload s).shell.drops = s.shell.drops + 1)

/-! ### Guard -/

/-- R501, R504, R505, R513, R525, R529: a source of L1 or L2 that finds its instance with none open opens one occurrence at its
initial level; the timer of an unacknowledged L2 counts in ACTIVE alone; a cause that has cleared, a QUIET exit and a corrected
word act as their rules say (a trunk that is back by 0.5 V, R127; a rail that is back while another is not leaves the fault, R111); a lockstep mismatch, an uncorrected error and a supply fault of Guard's own are L4 in ACTIVE and
takes the chip to SAFE at once. -/
def Obligations.GuardLevelsMove : Prop :=
  (∀ (c : FaultClass) (p : Fin 64) (source detail : Nat) (s : State), s.guard.armed = true → (sourceOf c source).2 = 1 ∨ (sourceOf c source).2 = 2 →
    (instAt s (instIndex c p.val)).occs = [] → s.guard.held = [] →
    ∃ o : Occ, (instAt (raise c p.val source detail s) (instIndex c p.val)).occs = [o] ∧ o.source = source ∧
      o.level = (sourceOf c source).2 ∧ o.acked = false ∧ o.burst = s.time.elapsed ∧
      o.timer = (if o.level = 2 then some (devVal s 0x2305 0) else none)) ∧
  (∀ (c : FaultClass) (p : Fin 64) (s : State), s.chip.state ≠ .active → exec (.responseTimerExpiry c p) s = .next s) ∧
  (∀ (c : FaultClass) (p : Fin 64) (s : State), s.chip.state = .active →
    exec (.responseTimerExpiry c p) s = .next (timerExpires c p.val s)) ∧
  (∀ (c : FaultClass) (p : Fin 64) (source : Nat) (s : State), c ≠ .pwr ∨ (source ≠ 4 ∧ source ≠ 8) →
    (causeMayClear c source s = true → exec (.causeCleared c p source) s = .next (clearCause c p.val source s)) ∧
    (causeMayClear c source s = false → exec (.causeCleared c p source) s = .next s)) ∧
  (∀ s : State, (causeMayClear .pwr 2 s = true ↔ devVal s 0x2005 0 + 500 ≤ s.power.trunk) ∧
    (causeMayClear .pwr 3 s = true ↔ s.power.trunk < 32500)) ∧
  (∀ (p : Fin 64) (s : State), p.val < 7 → exec (.causeCleared .pwr p 4) s = .next (railReturns p.val s) ∧
    ((∃ j, j < 7 ∧ j ≠ p.val ∧ railOn s j = true ∧ bit s.power.rails j = false) → (railReturns p.val s).guard.insts = s.guard.insts)) ∧
  (∀ (c : FaultClass) (p : Fin 64) (x : Contain) (s : State), (instAt s (instIndex c p.val)).contain = some x → x.quiet = true →
    (instAt s (instIndex c p.val)).occs.all (fun o => o.causes.isEmpty && o.level != 4) = true →
    Completes (.quietExit c p) s (fun t =>
      (instAt t (instIndex c p.val)).contain = none ∧ (instAt t (instIndex c p.val)).occs = [] ∧
      (instAt t (instIndex c p.val)).recoveries = (instAt s (instIndex c p.val)).recoveries + 1 ∧
      (c = .pod → (podAt t p.val).wake = some 9 ∧ (podAt t p.val).faults.isoOpen = false))) ∧
  (∀ (c : FaultClass) (p : Fin 64) (s : State), (instAt s (instIndex c p.val)).contain = none → exec (.quietExit c p) s = .next s) ∧
  (∀ s : State, s.chip.state ≠ .unpowered →
    exec (.guardSelfFault .corrected) s = .next { s with guard := { s.guard with corrected := wrap32 (s.guard.corrected + 1) } }) ∧
  (∀ (f : SelfFault) (n : Nat) (s : State), (f = .lockstep ∧ n = 1) ∨ (f = .ecc ∧ n = 2) ∨ (f = .supply ∧ n = 3) →
    s.chip.state = .active → s.guard.armed = true → (instAt s 7).occs = [] →
    Completes (.guardSelfFault f) s (fun t =>
      t.chip = { s.chip with state := .safe } ∧ t.guard.safe = some (8, 0, n, s.time.stamp, 1) ∧ t.guard.latched = true))

/-- R515: ACK-ALL and the ACK of one instance acknowledge what is unacknowledged there and touch no other instance; a code that
names none is BAD_VALUE. -/
def Obligations.GuardIsAcknowledged : Prop :=
  (∀ (who : Who) (s : State), EngineFree s → 1 ≤ who.level.val →
    exec (.ackAll who) s = .next (withLast stOk (let t := ackAllInsts s
      { t with guard := { t.guard with command := commandWord 0x10 0 2 } }))) ∧
  (∀ (who : Who) (k arg : Nat) (c : FaultClass) (s : State), EngineFree s → 1 ≤ who.level.val → 1 ≤ k → classOfCode k = some c → arg < 256 →
    (arg < (if c = .pod then 64 else 1) →
      exec (.guardAck who (0x0100 + k) arg) s = .next (withLast stOk (let t := ackInst c arg s
        { t with guard := { t.guard with command := commandWord (0x0100 + k) arg 2 } }))) ∧
    ((if c = .pod then 64 else 1) ≤ arg → exec (.guardAck who (0x0100 + k) arg) s = .next (withLast stBadValue s))) ∧
  (∀ (who : Who) (code arg : Nat) (s : State), EngineFree s → 1 ≤ who.level.val → (code ≤ 0x0100 ∧ code ≠ 0x0010) ∨ 0x0109 ≤ code →
    code < 65536 → exec (.guardAck who code arg) s = .next (withLast stBadValue s)) ∧
  (∀ (who : Who) (s : State), EngineFree s → who.level.val = 0 → exec (.ackAll who) s = .next (withLast stDenied s)) ∧
  (∀ (c : FaultClass) (p : Fin 64) (s : State), (instAt (ackInst c p.val s) (instIndex c p.val)).unacked = false ∧
    ∀ k, k < 72 → k ≠ instIndex c p.val → instAt (ackInst c p.val s) k = instAt s k)

/-! ### Panels -/

/-- R536, R538, R542, R549, R550, R561, R562: a panel frame of FULL counts, writes the band rows that a tick has marked and takes up the mode
in force; a band tick counts itself while HUSK runs and, outside FULL, writes the band where its rails allow it, black in OFF; the
Strip lights at a frame boundary only when granted, with a step that keeps current times grey level within the limit. In full mode a source
carries `Pane.Vcom` plus or minus the gamma value of its pixel, by turns. -/
def Obligations.PanelsShow : Prop :=
  (∀ s : State, s.panel.mode = 2 → scanRuns s = true → s.panel.paneDone = false →
    exec .panelFrameBoundary s = .next (showMode (paneEffective s) { s with panel := { s.panel with
      frames := wrap32 (s.panel.frames + 1), bandAt := (s.panel.bandNext.getD (s.panel.bandAt, s.panel.bandShown)).1,
      bandShown := (s.panel.bandNext.getD (s.panel.bandAt, s.panel.bandShown)).2, bandNext := none } })) ∧
  (∀ s : State, s.panel.mode ≠ 2 ∨ scanRuns s = false → exec .panelFrameBoundary s = .next s) ∧
  (∀ s : State, s.chip.state ≠ .unpowered → huskRuns s = true →
    Completes .bandTick s (fun t => t.panel.ticks = wrap32 (s.panel.ticks + 1) ∧ t.panel.huskTicks = s.panel.huskTicks + 1 ∧
      t.panel.buffer = s.panel.buffer ∧ t.chip = s.chip ∧ t.dict = s.dict ∧
      (s.panel.mode ≠ 2 → paneEffective s ≠ 2 → paneEffective s ≠ 3 → bit s.power.rails 4 = true → bit s.power.rails 5 = true →
        s.chip.state ≠ .boot ∨ booted s 5 = true →
        t.panel.bandAt = (devVal s 0x2411 0, 8 * devVal s 0x2410 0) ∧
        (paneEffective s = 0 → t.panel.bandShown = List.replicate (8 * devVal s 0x2410 0) 0)))) ∧
  (∀ s : State, huskRuns s = false → exec .bandTick s = .next s) ∧
  (∀ s : State, coreRuns s = true → stripMay s = true → s.panel.wantLit = true →
    exec .stripFrame s = .next { s with panel := { s.panel with
      lit := true, step := stepLength (devVal s 0x2481 0) (greySum s), stripTicks := s.panel.huskTicks, stripFrames := wrap32 (s.panel.stripFrames + 1),
      limited := if 1774285 < devVal s 0x2481 0 * greySum s then wrap32 (s.panel.limited + 1) else s.panel.limited } }) ∧
  (∀ s : State, coreRuns s = true → stripMay s = false ∨ s.panel.wantLit = false →
    exec .stripFrame s = .next { s with panel := { s.panel with lit := false } }) ∧
  (∀ s : State, coreRuns s = false → exec .stripFrame s = .next s) ∧
  (∀ (x y colour : Nat) (s : State), fullRow s y = true → x < 128 → colour < 3 →
    ((x + s.panel.frames) % 2 = 0 → sourceLevel s x y colour =
      devVal s 0x2404 0 + devVal s 0x2405 (64 * colour + pixelCode s y x colour + 1)) ∧
    ((x + s.panel.frames) % 2 = 1 → sourceLevel s x y colour =
      devVal s 0x2404 0 - devVal s 0x2405 (64 * colour + pixelCode s y x colour + 1))) ∧
  (∀ c g : Nat, stepLength c g ≤ 112 ∧ stepLength c g * (c * g) ≤ 112 * 1774285)

/-- R134, R218, R565-R571: a probe that did not end in its slot is postponed, one that ended has its verdict and both its tests;
the discharges end, in HOLD as its steps; RESET of the display needs OPERATOR and starts both discharges. -/
def Obligations.PanelsAreProbedAndDischarged : Prop :=
  (∀ (l g : Nat) (s : State), probesRun s = true →
    exec (.crackProbe false l g false) s = .next { s with panel := { s.panel with
      pane := { s.panel.pane with postponed := wrap32 (s.panel.pane.postponed + 1) } } } ∧
    exec (.crackProbe true l g false) s = .next { s with panel := { s.panel with
      strip := { s.panel.strip with postponed := wrap32 (s.panel.strip.postponed + 1) } } }) ∧
  (∀ (l g : Nat) (s : State), probesRun s = true →
    exec (.crackProbe false l g true) s =
      (let c := crackVerdict s.panel.pane (min 4095 l) (min 4095 g) s.time.stamp
       .next (crackTest 2 (decide (min 4095 g < 5)) c.shortRun c.shortGood (crackTest 1 (decide (2000 < min 4095 l)) c.openRun c.openGood
         { s with panel := { s.panel with pane := c } })))) ∧
  (∀ (onStrip ended : Bool) (l g : Nat) (s : State), probesRun s = false → exec (.crackProbe onStrip l g ended) s = .next s) ∧
  (∀ (c : Crack) (l g : Nat) (t : Tick), (crackVerdict c l g t).verdict =
    (if 2000 < l then (if g < 5 then 4 else 2) else if g < 5 then 3 else 1) ∧ (crackVerdict c l g t).completed = wrap32 (c.completed + 1)) ∧
  (∀ s : State, s.panel.paneDischarge = true → s.chip.state ≠ .hold → s.panel.displayReset = false →
    exec .paneDischargeEnd s = .next (displayWatch { s with panel := { s.panel with
      paneDischarge := false, paneDone := true, mode := 3, frp := false, bandShown := [] } })) ∧
  (∀ s : State, s.panel.paneDischarge = true → s.chip.state = .hold →
    Completes .paneDischargeEnd s (fun t => t.panel.paneDone = true ∧ t.power.hold = s.power.hold.map (fun h => { h with steps := setBit h.steps 3 }))) ∧
  (∀ s : State, s.panel.stripDischarge = true → s.chip.state ≠ .hold → s.panel.displayReset = false →
    exec .stripDischargeEnd s = .next (displayWatch { s with panel := { s.panel with
      stripDischarge := false, stripDone := true, lit := false } })) ∧
  (∀ (who : Who) (s : State), EngineFree s → 1 ≤ who.level.val →
    exec (.resetServiceDisplay who) s =
      .next (displayResetRun { s with engine := { s.engine with last := ⟨stOk, 0, [stOk, 0, 0, 0]⟩ } })) ∧
  (∀ (who : Who) (s : State), EngineFree s → who.level.val = 0 →
    exec (.resetServiceDisplay who) s = .next { s with engine := { s.engine with last := ⟨stDenied, 0, [stDenied, 0, 0, 0]⟩ } })

/-- R92, R121, R540, R543, R545, R546, R562: the panel objects and the gates take effect at once; a value out of range is
BAD_VALUE; a half-row written is read back; a lit Strip asked for waits for the governor. -/
def Obligations.PanelWritesTakeEffect : Prop :=
  (∀ (who : Who) (s : State), EngineFree s → 1 ≤ who.level.val → gateOn s 0 = true →
    (∀ v, v ≤ 2 → exec (.paneModeWrite who v) s = .next (withLast stOk (hotDevice 0x2400 0 v s))) ∧
    (∀ v, 2 < v → v < 256 → exec (.paneModeWrite who v) s = .next (withLast stBadValue s)) ∧
    (∀ v, v < 256 → exec (.paneLevelWrite who v) s = .next (withLast stOk (hotDevice 0x2401 0 v s))) ∧
    (∀ k v, k < 4 → v < 256 ^ 144 → devVal s 0x2406 0 + k ≤ 127 →
      exec (.fbDataWrite who (k + 1) v) s = .next (withLast stOk { s with panel := { s.panel with
        buffer := storePut blackRow s.panel.buffer (devVal s 0x2406 0 + k) v } })) ∧
    (∀ k v, k < 4 → v < 256 ^ 144 → 127 < devVal s 0x2406 0 + k → exec (.fbDataWrite who (k + 1) v) s = .next (withLast stBadValue s))) ∧
  (∀ (s : State) (k v : Nat), k ≤ 127 → FrameBufferWf s →
    halfRow { s with panel := { s.panel with buffer := storePut blackRow s.panel.buffer k v } } k = v) ∧
  (∀ (who : Who) (s : State), EngineFree s → 1 ≤ who.level.val → gateOn s 1 = true →
    exec (.stripEnableWrite who 0) s = .next (withLast stOk (hotDevice 0x2480 0 0 s)) ∧
    (s.panel.wantLit = false → exec (.stripEnableWrite who 1) s = .next (let t := askGovernor 5 255 (setDev 0x2480 0 1 s)
      { t with engine := { t.engine with running := some (rowFrame who []), waiting := some .strip } }))) ∧
  (∀ (who : Who) (v : Nat) (s : State), EngineFree s → 2 ≤ who.level.val → v < 2 ^ 32 →
    exec (.gateEnableWrite who v) s = .next (withLast stOk (gateWrite (v % 128) s))) ∧
  (∀ (v k : Nat) (s : State), storeWf deviceDefault s.dict.values = true → gateOn (gateWrite v s) k = bit v k)

/-! ### Clock commands and device objects -/

/-- R140, R156, R158: a switch command to a ready side that is not selected is accepted and starts after its reply, the last one accepted for a
mux in place of one that waits (log 48); to a side that is present, or while the mux moves, it is WRONG_STATE; LfxoEnable takes
effect as written. INSTALLER at least. -/
def Obligations.ClockCommandsSwitch : Prop :=
  (∀ (who : Who) (s : State), EngineFree s → 2 ≤ who.level.val → contained s 0 = false →
    ((muxAt s 0).code = .alternate → qualified s 0 = true → exec (.switchHusk who 0) s =
      .next (withLast stOk { s with clocks := { s.clocks with
        waiting := s.clocks.waiting.filter (fun w => w.1 != .husk) ++ [(.husk, false)], command := commandWord 1 0 1 } })) ∧
    ((muxAt s 1).code = .primary → qualified s 3 = true → exec (.switchCore who 1) s =
      .next (withLast stOk { s with clocks := { s.clocks with
        waiting := s.clocks.waiting.filter (fun w => w.1 != .core) ++ [(.core, true)], command := commandWord 2 1 1 } })) ∧
    ((muxAt s 2).code = .primary → qualified s 3 = true → exec (.switchSpineref who 1) s =
      .next (withLast stOk { s with clocks := { s.clocks with
        waiting := s.clocks.waiting.filter (fun w => w.1 != .spineRef) ++ [(.spineRef, true)], command := commandWord 3 1 1 } })) ∧
    ((muxAt s 5).code = .primary → exec (.switchTrace who 1) s =
      .next (withLast stOk { s with clocks := { s.clocks with
        waiting := s.clocks.waiting.filter (fun w => w.1 != .trace) ++ [(.trace, true)], command := commandWord 4 1 1 } }))) ∧
  (∀ (who : Who) (s : State), EngineFree s → 2 ≤ who.level.val →
    ((muxAt s 0).code = .primary ∨ (muxAt s 0).code = .switching → exec (.switchHusk who 0) s =
      .next (withLast stWrongState { s with clocks := { s.clocks with command := commandWord 1 0 3 } })) ∧
    ((muxAt s 5).code = .off → exec (.switchTrace who 0) s =
      .next (withLast stWrongState { s with clocks := { s.clocks with command := commandWord 4 0 3 } }))) ∧
  (∀ (who : Who) (arg : Nat) (s : State), EngineFree s → 2 ≤ who.level.val → 2 ≤ arg → arg < 256 →
    exec (.switchHusk who arg) s = .next (withLast stBadValue s) ∧ exec (.switchSpineref who arg) s = .next (withLast stBadValue s)) ∧
  (∀ (who : Who) (arg : Nat) (s : State), EngineFree s → who.level.val < 2 →
    exec (.switchHusk who arg) s = .next (withLast stDenied s) ∧ exec (.switchCore who arg) s = .next (withLast stDenied s) ∧
    exec (.switchSpineref who arg) s = .next (withLast stDenied s) ∧ exec (.switchTrace who arg) s = .next (withLast stDenied s)) ∧
  (∀ (who : Who) (s : State), EngineFree s → 2 ≤ who.level.val →
    exec (.lfxoEnable who 1) s = .next (withLast stOk (startOsc 0 (setDev 0x2115 0 1 s))) ∧
    exec (.lfxoEnable who 0) s = .next (withLast stOk (lfxoSet false (setDev 0x2115 0 0 s))) ∧
    exec (.lfxoEnable who 2) s = .next (withLast stBadValue s))

/-- R58, R116, R117, R657: ranks and the dim floor take effect and ask the governor; a key is stored as written, the METROLOGIST
key only by METROLOGIST; the trace selection takes its defined bits alone. A requester below the level of the object is DENIED. -/
def Obligations.DeviceObjectsAreWritten : Prop :=
  (∀ (who : Who) (v : Nat) (s : State), EngineFree s → 2 ≤ who.level.val → v < 256 →
    (∀ sub, 1 ≤ sub → sub ≤ 64 → exec (.podRankWrite who sub v) s = .next (withLast stOk (trigger 6 (sub - 1) (setDev 0x2010 sub v s)))) ∧
    exec (.dimFloorWrite who v) s = .next (withLast stOk (trigger 6 255 (setDev 0x2011 0 v s)))) ∧
  (∀ (who : Who) (v : Nat) (s : State), EngineFree s → who.level.val < 2 →
    exec (.podRankWrite who 1 v) s = .next (withLast stDenied s) ∧ exec (.dimFloorWrite who v) s = .next (withLast stDenied s)) ∧
  (∀ (who : Who) (v : Nat) (s : State), EngineFree s → v < 256 ^ 16 →
    (2 ≤ who.level.val →
      exec (.keyWrite who 1 v) s = .next (withLast stOk { s with dict := { s.dict with keys := putAt s.dict.keys 0 (some v) } }) ∧
      exec (.keyWrite who 2 v) s = .next (withLast stOk { s with dict := { s.dict with keys := putAt s.dict.keys 1 (some v) } })) ∧
    (who.level.val = 3 →
      exec (.keyWrite who 3 v) s = .next (withLast stOk { s with dict := { s.dict with keys := putAt s.dict.keys 2 (some v) } })) ∧
    (who.level.val < 2 → exec (.keyWrite who 1 v) s = .next (withLast stDenied s) ∧ exec (.keyWrite who 2 v) s = .next (withLast stDenied s)) ∧
    (who.level.val < 3 → exec (.keyWrite who 3 v) s = .next (withLast stDenied s))) ∧
  (∀ (who : Who) (v : Nat) (s : State), EngineFree s → 2 ≤ who.level.val → gateOn s 2 = true →
    (v % 2 = 0 → v < 512 → exec (.traceSelectWrite who v) s = .next (withLast stOk (setDev 0x8100 0 v s))) ∧
    (v % 2 = 1 ∨ 512 ≤ v → v < 2 ^ 32 → exec (.traceSelectWrite who v) s = .next (withLast stBadValue s))) ∧
  (∀ (index sub v : Nat) (s : State), storeWf deviceDefault s.dict.values = true → devVal (setDev index sub v s) index sub = v)

/-- R55, R64, R68, R74, R75, R94, R97, R330, R725: the checks of a WRITE in their order, and an access to a gated object counts whatever its
status; a WARM value of the device waits in the staged
copy and is what READ-STAGED then reads; a snapshot of the filters of a Pod that runs frames waits for its boundary. -/
def Obligations.ItemsAreChecked : Prop :=
  (∀ (who : Who) (index sub code len v : Nat) (s : State), EngineFree s →
    (findPlace index = none → exec (.write who index sub code len v) s = .next (withLast stNoObject s) ∧
      exec (.readStaged who index sub) s = .next (withLast stNoObject s)) ∧
    (∀ x t, findPlace index = some x → x.obj.tyAt sub = some t →
      (x.obj.write = none → exec (.write who index sub code len v) s = .next (withLast stReadOnly (gatedAccess who index sub 2 x s))) ∧
      (∀ level, x.obj.write = some level → x.obj.isSimple = true ∨ sub ≠ 0 →
        (who.level.val < level → exec (.write who index sub code len v) s =
          .next (withLast stDenied (gatedAccess who index sub 2 x s))) ∧
        (level ≤ who.level.val → code ≠ t.code ∨ len ≠ t.size →
          exec (.write who index sub code len v) s = .next (withLast stBadType (gatedAccess who index sub 2 x s))) ∧
        (level ≤ who.level.val → code = t.code → len = t.size → x.pod = none → x.obj.apply = .warm → x.isCommand = false →
          (devValueOk s x.obj t sub (maskReserved false x.obj.index (v % 256 ^ len)) = true →
            exec (.write who index sub code len v) s = .next (withLast stOk
              (stageDev (keyOf x.obj.index sub) (maskReserved false x.obj.index (v % 256 ^ len)) (gatedAccess who index sub 2 x s)))) ∧
          (devValueOk s x.obj t sub (maskReserved false x.obj.index (v % 256 ^ len)) = false →
            exec (.write who index sub code len v) s = .next (withLast stBadValue (gatedAccess who index sub 2 x s))))))) ∧
  (∀ (who : Who) (index sub code size : Nat) (x : Place) (s : State), EngineFree s → findPlace index = some x →
    readType x.obj sub = some (code, size) → x.obj.read ≤ who.level.val → windowDenied who x sub s = false → gatedBit s x = none →
    x.unreachable s = false → snapshotWait x sub s = none →
    exec (.readStaged who index sub) s = .next (let t := laneOf x s
      { t with engine := { t.engine with last := ⟨stOk, code, readOctets s x true sub⟩ } })) ∧
  (∀ (who : Who) (index sub : Nat) (x : Place) (s : State), EngineFree s → findPlace index = some x → (readType x.obj sub).isSome = true →
    who.level.val < x.obj.read → exec (.readStaged who index sub) s = .next (withLast stDenied (gatedAccess who index sub 3 x s))) ∧
  (∀ (es : List (Nat × Nat)) (k j v d : Nat), stagedGet (stagePut es k v) j d = if j = k then v else stagedGet es j d) ∧
  (∀ (who : Who) (p : Fin 64) (sub : Nat) (s : State), EngineFree s → 1 ≤ who.level.val → 1 ≤ sub → sub ≤ 11 → laneSilent s p.val = false →
    (runsFrames (podAt s p.val) = true →
      exec (.filterSnapshotRead who p sub) s = .next (let t := laneDone p.val s
        { t with engine := { t.engine with
            running := some (rowFrame who []), waiting := some (.snapshot p ((podAt s p.val).val 0x45 0) sub) } })) ∧
    (runsFrames (podAt s p.val) = false →
      Completes (.filterSnapshotRead who p sub) s (fun t => t.engine.last.status = stOk ∧ t.engine.waiting = none ∧ t.dict = s.dict)))

/-- R76, R80-R88: COMMIT below the level of what is staged is DENIED; the device copy comes into effect whole, in one step; a Pod
that runs no frames applies its latched copy at once and answers; a COMMIT that waits ends when every Pod has answered, or after
50 us. -/
def Obligations.StagedValuesCommit : Prop :=
  (∀ (who : Who) (device : Bool) (pods : BitVec 64) (s : State), EngineFree s → who.level.val < scopeLevel device pods s →
    exec (.commit who device pods) s = .next (withLast stDenied s)) ∧
  (∀ (who : Who) (s : State), EngineFree s → scopeLevel true 0 s ≤ who.level.val →
    exec (.commit who true 0) s = .next (let t := deviceApply s
      { t with
        chip := { t.chip with commitResult := 0, commitCount := wrap32 (t.chip.commitCount + 1) },
        engine := { t.engine with commit := none, last := ⟨stOk, 5, beOctets 8 0⟩ } })) ∧
  (∀ s : State, s.dict.staged ≠ [] → (deviceApply s).dict.staged = [] ∧ (deviceApply s).chip.activeGen = s.chip.stagedGen ∧
    (deviceApply s).dict.values = storePutAll deviceDefault s.dict.values s.dict.staged ∧ (deviceApply s).dict.keys = s.dict.keys) ∧
  (∀ (who : Who) (p : Fin 64) (pods : BitVec 64) (s : State), EngineFree s → (∀ q, pods.getLsbD q = decide (q = p.val)) →
    scopeLevel false pods s ≤ who.level.val → runsFrames (podAt s p.val) = false → (podAt s p.val).mode ≠ .fault →
    laneSilent s p.val = false → (podAt s p.val).hot = [] → (podAt s p.val).staged.all (fun e => !sealedLoc e.1) = true →
    Completes (.commit who false pods) s (fun t =>
      (podAt t p.val).values = storePutAll podDefault (podAt s p.val).values (podAt s p.val).staged ∧ (podAt t p.val).staged = [] ∧
      t.chip.commitResult = 2 ^ p.val ∧ t.engine.last = ⟨stOk, 5, beOctets 8 (2 ^ p.val)⟩ ∧ t.dict = s.dict)) ∧
  (∀ (c : CommitRun) (s : State), serving s = true → s.engine.commit = some c → c.waiting = 0 ∨ c.since + 3277 ≤ s.time.elapsed →
    exec .commitComplete s = .next (settle (resume (commitEnds s).1 (commitEnds s).2))) ∧
  (∀ s : State, s.engine.commit = none → exec .commitComplete s = .next s)

/-! ### Services, events and streams -/

/-- R208, R618-R622, R627: RESET of the chip by INSTALLER begins the GEZOR reset after its reply, of a Pod the Pod's reset;
SESSION-OPEN leaves a pending open with the next number and a nonce, a right proof turns it into a session at its level, a wrong
one ends it and holds off the next open; both lapse in time. -/
def Obligations.SessionsAndResets : Prop :=
  (∀ (who : Who) (s : State), EngineFree s → 2 ≤ who.level.val →
    exec (.resetServiceChip who) s =
      .next (beginReset .gezor { s with engine := { s.engine with last := ⟨stOk, 0, [stOk, 0, 0, 0]⟩ } })) ∧
  (∀ (who : Who) (s : State), EngineFree s → who.level.val < 2 →
    exec (.resetServiceChip who) s = .next { s with engine := { s.engine with last := ⟨stDenied, 0, [stDenied, 0, 0, 0]⟩ } } ∧
    ∀ pod answers, exec (.resetServicePod who pod answers) s =
      .next { s with engine := { s.engine with last := ⟨stDenied, 0, [stDenied, 0, 0, 0]⟩ } }) ∧
  (∀ (who : Who) (pod : Nat) (answers : Bool) (s : State), EngineFree s → 2 ≤ who.level.val →
    (pod < 64 → exec (.resetServicePod who pod answers) s =
      .next (requestReset pod (answers && (podAt s pod).faults.laneFailed != some s.time.elapsed)
        (laneFell pod { s with engine := { s.engine with last := ⟨stOk, 0, [stOk, 0, 0, 0]⟩ } }))) ∧
    (63 < pod → exec (.resetServicePod who pod answers) s =
      .next { s with engine := { s.engine with last := ⟨stBadValue, 0, [stBadValue, 0, 0, 0]⟩ } })) ∧
  (∀ (q : Fin 4) (level : Nat) (s : State), EngineFree s → (slotOf s q.val).used = true → openBusy s = false → 1 ≤ level → level ≤ 3 →
    Completes (.sessionOpen q level) s (fun t =>
      (slotOf t q.val).opening = some ⟨level, s.engine.nextSession, Config.freeWord s.fresh % 2 ^ 64, s.time.elapsed⟩ ∧
      (slotOf t q.val).session = none ∧ t.engine.nextSession = wrap32 (s.engine.nextSession + 1) ∧ t.engine.last.status = stOk ∧
      t.dict = s.dict ∧ t.chip = s.chip)) ∧
  (∀ (q : Fin 4) (level : Nat) (s : State), EngineFree s → (slotOf s q.val).used = true → openBusy s = true →
    exec (.sessionOpen q level) s = .next (withLast stBusy s)) ∧
  (∀ (q : Fin 4) (number proof : Nat) (o : PendingOpen) (s : State), EngineFree s → (slotOf s q.val).used = true →
    provenOpen q number proof s = some o →
    Completes (.sessionProof q number proof) s (fun t =>
      (slotOf t q.val).session = some ⟨o.level, o.number, 0, s.time.elapsed, (s.dict.keys.getD (o.level - 1) none).isNone⟩ ∧
      (slotOf t q.val).opening = none ∧ t.engine.last.status = stOk)) ∧
  (∀ (q : Fin 4) (number proof : Nat) (s : State), EngineFree s → (slotOf s q.val).used = true → provenOpen q number proof s = none →
    Completes (.sessionProof q number proof) s (fun t =>
      (slotOf t q.val).opening = none ∧ (slotOf t q.val).session = (slotOf s q.val).session ∧
      t.engine.badProof = some s.time.elapsed ∧ t.engine.last.status = 0x26)) ∧
  (∀ (q : Fin 4) (o : PendingOpen) (s : State), (slotOf s q.val).opening = some o → o.at_ + 65536000 ≤ s.time.elapsed →
    exec (.sessionOpenExpiry q) s = .next (modSlot q.val (fun x => { x with opening := none }) s)) ∧
  (∀ (q : Fin 4) (x : Session) (s : State), (slotOf s q.val).session = some x → x.lastAt + devVal s 0x1202 0 * 65536000 ≤ s.time.elapsed →
    exec (.sessionIdleExpiry q) s = .next (gezorCount 8 (modSlot q.val (fun y => { y with session := none }) s)))

/-- R630-R632, R634-R637: a subscription of a slot is stored with its level, or cancelled; EVENT builds a frame of the oldest
records while fewer than four are outstanding; the last awaited ACK ends it; unanswered for 2 ms it is sent again three times and
then dropped; a stream samples at the multiples of its period. -/
def Obligations.EventsAndStreams : Prop :=
  (∀ (lvl : Fin 4) (q : Fin 4) (b : SubBody) (s : State), EngineFree s → 1 ≤ lvl.val → badBody b = false →
    ((subAt s b.number).active = false ∨ (subAt s b.number).owner = q.val ∨ 2 ≤ lvl.val) →
    (b.kind = 0 → Completes (.subscribe ⟨lvl, some q⟩ b) s (fun t => subAt t b.number = .empty ∧ t.engine.last.status = stOk)) ∧
    (b.kind = 1 → s.engine.subs.toList.all (fun y => !(y.active && y.owner == q.val && y.body.kind == 1 && y.body.number != b.number)) = true →
      Completes (.subscribe ⟨lvl, some q⟩ b) s (fun t =>
        subAt t b.number = ⟨true, q.val, { b with flags := b.flags % 2 }, lvl.val, 0, 0, 0, 0, false⟩ ∧ t.engine.last.status = stOk))) ∧
  (∀ (lvl : Fin 4) (q : Fin 4) (b : SubBody) (s : State), EngineFree s → 1 ≤ lvl.val → badBody b = true →
    Completes (.subscribe ⟨lvl, some q⟩ b) s (fun t => t.engine.last.status = stBadValue ∧ t.engine.subs = s.engine.subs)) ∧
  (∀ s : State, serving s = true → s.engine.events ≠ [] → s.engine.outstanding.length < 4 →
    Completes .event s (fun t => ∃ n, 1 ≤ n ∧ n ≤ 32 ∧ t.engine.events = s.engine.events.drop n ∧
      t.engine.evSeq = wrap32 (s.engine.evSeq + 1) ∧
      t.engine.outstanding = s.engine.outstanding ++ [⟨s.engine.evSeq, s.engine.events.take n, [], true, 0, true, 0⟩])) ∧
  (∀ s : State, serving s = false ∨ s.engine.events = [] ∨ 4 ≤ s.engine.outstanding.length → exec .event s = .next s) ∧
  (∀ (slot : Option (Fin 4)) (seq : Nat) (s : State), serving s = true →
    (s.engine.outstanding.all (fun f => f.seq != seq) = true → exec (.ack slot seq) s = .next (gezorCount 12 s)) ∧
    (∀ f, s.engine.outstanding.find? (fun f => f.seq == seq) = some f → f.anyAck = true → exec (.ack slot seq) s = .next (endEvent seq s))) ∧
  (∀ (q : Fin 4) (seq : Nat) (f : EvFrame) (s : State), serving s = true → s.engine.outstanding.find? (fun f => f.seq == seq) = some f →
    f.anyAck = false →
    (q.val ∉ f.awaiting → exec (.ack (some q) seq) s = .next s) ∧
    (q.val ∈ f.awaiting → f.awaiting.erase q.val ≠ [] → Completes (.ack (some q) seq) s (fun t =>
      t.engine.outstanding = s.engine.outstanding.map (fun g => if g.seq = seq then { g with awaiting := g.awaiting.erase q.val } else g))) ∧
    (q.val ∈ f.awaiting → f.awaiting.erase q.val = [] → Completes (.ack (some q) seq) s (fun t =>
      t.engine.outstanding.all (fun g => g.seq != seq) = true))) ∧
  (∀ (seq : Nat) (f : EvFrame) (s : State), serving s = true → s.engine.outstanding.find? (fun f => f.seq == seq) = some f →
    f.queued = false → f.sentAt + 131072 ≤ s.time.elapsed →
    (f.retries < 3 → exec (.eventRetry seq) s = .next (sendFrame ⟨4, eventFrame s seq f.records, seq, 1⟩
      (modEvent seq (fun f => { f with
        retries := f.retries + 1, sentAt := s.time.elapsed,
        queued := decide ((eventFrame s seq f.records).length + 4 ≤ devVal s 0x110A 0) }) s))) ∧
    (3 ≤ f.retries → Completes (.eventRetry seq) s (fun t =>
      t.engine.outstanding = s.engine.outstanding.filter (fun x => x.seq != seq) ∧ t.engine.evUnacked = wrap32 (s.engine.evUnacked + 1) ∧
      t.engine.evDropped = wrap32 (s.engine.evDropped + f.records.length)))) ∧
  (∀ (k : Fin 8) (s : State), EngineFree s → gateOn s 5 = true → (subAt s k.val).active = true → (subAt s k.val).body.kind = 2 →
    s.time.stamp % ((subAt s k.val).body.period * 655360) = 0 →
    (∀ a ∈ (subAt s k.val).body.addrs, ∀ x, findPlace a.1 = some x → x.pod = none ∨ x.obj.index ≠ 0x47) →
    Completes (.streamSample k) s (fun t => (subAt t k.val).seq = wrap32 ((subAt s k.val).seq + 1) ∧ (subAt t k.val).due = false)) ∧
  (∀ (k : Fin 8) (s : State), s.time.stamp % ((subAt s k.val).body.period * 655360) ≠ 0 → exec (.streamSample k) s = .next s)

/-- R178-R180, R639, R640: a TIME frame of another node does nothing, one of the wrong epoch is rejected; the first accepted one
steps STAMP by its offset, and so does any that is off by the step limit or more; a smaller offset leaves STAMP to the slew. -/
def Obligations.TimeFramesSetStamp : Prop :=
  (∀ (node epoch seq body : Nat) (s : State), serving s = true →
    exec (.time node epoch seq body) s = .next (timeFrame node epoch seq body (latchSfd s).1 (latchSfd s).2)) ∧
  (∀ (node epoch seq body : Nat) (latch : Tick) (s : State), devVal s 0x2503 0 = 0xFFFF ∨ node ≠ devVal s 0x2503 0 →
    timeFrame node epoch seq body latch s = s) ∧
  (∀ (node epoch seq body : Nat) (latch : Tick) (s : State), devVal s 0x2503 0 ≠ 0xFFFF → node = devVal s 0x2503 0 →
    epoch ≠ devVal s 0x2500 0 ∨ contained s 5 = true →
    timeFrame node epoch seq body latch s = { s with time := { s.time with rejects := wrap32 (s.time.rejects + 1) } }) ∧
  (∀ s : State, (latchSfd s).1 ≤ s.time.stamp + 3 ∧ s.time.stamp ≤ (latchSfd s).1 + 3) ∧
  (∀ (offset : Int) (s : State), s.time.stepped = false ∨ devVal s 0x2504 0 ≤ offset.natAbs →
    (acceptTime offset s).time.stamp = moveTick offset s.time.stamp ∧ (acceptTime offset s).time.stepped = true ∧
    (acceptTime offset s).time.lastOffset = offset) ∧
  (∀ (offset : Int) (s : State), s.time.stepped = true → offset.natAbs < devVal s 0x2504 0 →
    (acceptTime offset s).time.stamp = s.time.stamp ∧ (acceptTime offset s).time.lastOffset = offset)

/-! ### The trunk link -/

/-- R578, R581, R587, R594, R595, R641: a frame that fails a step of reception is counted there and not handed over; an
opportunity sends the frame at the head of the queue; in LISTEN-ONLY the queue is discarded; a collision is counted, and the
sixteenth drops the frame. -/
def Obligations.FramesAreReceivedAndSent : Prop :=
  (∀ (f : RxFrame) (s : State), phyOn s.link.code = false → exec (.frameReceive f) s = .next s) ∧
  (∀ (f : RxFrame) (k : Nat) (s : State), phyOn s.link.code = true → receiveFault f (noteBrc f (latchSfd s).2) = some k →
    exec (.frameReceive f) s = .next (linkCount k (noteBrc f (latchSfd s).2))) ∧
  (∀ (f : RxFrame) (s : State), phyOn s.link.code = true → receiveFault f (noteBrc f (latchSfd s).2) = none →
    exec (.frameReceive f) s = .next (
      let os := f.octets.map (·.toNat)
      engineReceive (beValue (os.take 6) == ownMac) (beValue ((os.drop 6).take 6)) (os.drop 14) (latchSfd s).1
        (linkCount 0 (noteBrc f (latchSfd s).2)))) ∧
  (∀ (f : RxFrame) (s : State), (f.symbolError = true → receiveFault f s = some 5) ∧
    (f.symbolError = false → f.length < 64 → receiveFault f s = some 6) ∧
    (f.symbolError = false → 1518 < f.length → receiveFault f s = some 7) ∧
    (f.symbolError = false → 64 ≤ f.length → f.length ≤ 1518 → f.fcsGood = false → receiveFault f s = some 4)) ∧
  (∀ (f : TxFrame) (rest : List TxFrame) (s : State), EngineFree s → s.link.code = .follower ∨ s.link.code = .coordinator →
    s.link.maxBurst = 0 → s.link.queue = f :: rest →
    Completes .transmitOpportunity s (fun t => t.link.sent = [addressed s f] ∧ t.link.queue = rest ∧ t.link.attempts = 0 ∧ t.link.control = 9)) ∧
  (∀ s : State, EngineFree s → s.link.code = .follower ∨ s.link.code = .coordinator → s.link.queue = [] →
    Completes .transmitOpportunity s (fun t => t.link.sent = [] ∧ t.link.control = 7 ∧ t.link.queue = [])) ∧
  (∀ s : State, s.link.code = .listenOnly → (∀ f ∈ s.link.queue, f.cls ≠ 3) →
    Completes .transmitOpportunity s (fun t => t.link.queue = [] ∧ t.link.sent = [] ∧ t.link.code = .listenOnly)) ∧
  (∀ (f : TxFrame) (rest : List TxFrame) (s : State), EngineFree s → s.link.code = .csma ∨ s.link.code = .fallback → s.link.queue = f :: rest →
    Completes .csmaTransmit s (fun t => t.link.sent = [addressed s f] ∧ t.link.queue = rest ∧ t.link.attempts = 0)) ∧
  (∀ s : State, s.link.code = .csma ∨ s.link.code = .fallback → s.link.queue ≠ [] → s.link.attempts < 15 →
    exec .ownFrameCollision s = .next (linkCount 8 { s with link := { s.link with attempts := s.link.attempts + 1 } })) ∧
  (∀ (f : TxFrame) (rest : List TxFrame) (s : State), s.link.code = .csma ∨ s.link.code = .fallback → s.link.queue = f :: rest →
    s.link.attempts = 15 → f.cls ≠ 3 →
    Completes .ownFrameCollision s (fun t => t.link.queue = rest ∧ t.link.attempts = 0))

/-- R202, R577, R589, R590: a JOINING or FALLBACK device follows a BEACON, node 0 goes SILENT for it; without one it falls back
after 2.0 ms, and node 0 coordinates after 1.0 ms; a foreign BEACON silences the coordinator for its hold-off, which ends in
JOINING or CSMA. R591-R593: an intrusion is counted, and the third within a second is LINK source 0x02; own jabber drops what it
cut and is LINK source 0x04; remote jabber counts as a frame that is too long; a symbol error count above its limit is LINK source
0x05. -/
def Obligations.PlcaStatesMoveAndStrangersCount : Prop :=
  (∀ s : State, s.link.code = .joining → effectiveNode s ≠ 0 →
    exec .beacon s = .next (noteBeacon (setLink .follower s)) ∧ (noteBeacon (setLink .follower s)).link.code = .follower) ∧
  (∀ s : State, s.link.code = .fallback → exec .beacon s = .next (noteBeacon (setLink .follower s))) ∧
  (∀ s : State, s.link.code = .joining → effectiveNode s = 0 → exec .beacon s = .next (enterSilent (noteBeacon s))) ∧
  (∀ s : State, s.link.code = .follower → Completes .beacon s (fun t => t.link.code = .follower ∧ t.link.beaconElapsed = s.time.elapsed ∧
      t.link.beaconStamp = s.time.stamp ∧ t.link.control = 4)) ∧
  (∀ s : State, s.link.code = .follower → max s.link.enteredAt s.link.beaconElapsed + 131072 ≤ s.time.elapsed →
    exec .beaconTimeout s = .next (setLink .fallback s) ∧ (setLink .fallback s).link.code = .fallback) ∧
  (∀ s : State, s.link.code = .joining → effectiveNode s ≠ 0 → s.link.enteredAt + 131072 ≤ s.time.elapsed →
    exec .beaconTimeout s = .next (setLink .fallback s)) ∧
  (∀ s : State, s.link.code = .follower → s.time.elapsed < s.link.enteredAt + 131072 → exec .beaconTimeout s = .next s) ∧
  (∀ s : State, s.link.code = .joining → effectiveNode s = 0 → s.link.enteredAt + 65536 ≤ s.time.elapsed →
    exec .coordinatorListenEnd s = .next (let t := setLink .coordinator s
      clearCause .link 0 3 { t with link := { t.link with maxBurst := devVal s 0x1104 0 } })) ∧
  (∀ s : State, s.link.code = .coordinator → exec .foreignBeacon s = .next (enterSilent (noteBeacon (linkCount 11 s)))) ∧
  (∀ s : State, s.link.code ≠ .coordinator → exec .foreignBeacon s = .next s) ∧
  (∀ s : State, s.link.code = .silent → s.link.silentFor * 65536000 ≤ (s.time.elapsed - s.link.enteredAt) * 10000 →
    exec .silentHoldOffEnd s = .next (linkJoin s)) ∧
  (∀ s : State, s.link.code = .silent → (s.time.elapsed - s.link.enteredAt) * 10000 < s.link.silentFor * 65536000 →
    exec .silentHoldOffEnd s = .next s) ∧
  (∀ s : State, s.link.code = .follower ∨ s.link.code = .coordinator →
    exec (.intrusion false) s =
      (let t := linkCount 10 { s with link := { s.link with
        intrusions := s.link.intrusions.filter (fun x => decide (s.time.stamp < x + 65536000)) ++ [s.time.stamp] } }
       .next (if 3 ≤ recentIntrusions t then raise .link 0 2 0 t else clearCause .link 0 2 t))) ∧
  (∀ (collision : Bool) (s : State), plcaActive s.link.code = false → exec (.intrusion collision) s = .next s) ∧
  (∀ s : State, linkOpens s.link.code = true → exec .ownJabber s = .next (raise .link 0 4 0 (linkCount 13 (dropHead s)))) ∧
  (∀ s : State, linkOpens s.link.code = false → exec .ownJabber s = .next s) ∧
  (∀ s : State, phyOn s.link.code = true → exec .remoteJabber s = .next (linkCount 7 s)) ∧
  (∀ (n : Nat) (s : State), phyOn s.link.code = true →
    (devVal s 0x110B 0 < n → exec (.symbolErrorInterval n) s = .next (raise .link 0 5 0 s)) ∧
    (n ≤ devVal s 0x110B 0 → exec (.symbolErrorInterval n) s = .next (clearCause .link 0 5 s))) ∧
  (∀ (k : Nat) (s : State), k < 18 → (linkCount k s).link.counters.getD k 0 = wrap32 (s.link.counters.getD k 0 + 1) ∧
    ∀ j, j ≠ k → (linkCount k s).link.counters.getD j 0 = s.link.counters.getD j 0)

/-! ### Replies and the trace port -/

/-- R623: the fragments of a reply hold every item in order, none more than the room of a fragment. R641: the transmit queue stays
in the order of the classes, and within a class in the order of arrival. -/
def Obligations.RepliesKeepTheirOrder : Prop :=
  (∀ (room : Nat) (rs : List Reply), 2 ≤ room →
    (fragmentsOf room rs).flatten = rs.map (fitted room) ∧ ∀ f ∈ fragmentsOf room rs, f.flatten.length ≤ room) ∧
  (∀ (f : TxFrame) (q : List TxFrame), q.Pairwise (fun a b => a.cls ≤ b.cls) →
    (queueFrame f q).Pairwise (fun a b => a.cls ≤ b.cls) ∧
    ∀ c, (queueFrame f q).filter (fun x => x.cls == c) = q.filter (fun x => x.cls == c) ++ (if f.cls = c then [f] else []))

/-- R683, R684, R688: the port emits the queued records in order, each with its sequence and check in 16 octets, after the markers
that are due; SYNC falls due at the start and a second after the last; a full queue drops what is not a Guard record and counts
it. -/
def Obligations.TraceIsEmitted : Prop :=
  (∀ (r : TraceRec) (rest : List TraceRec) (s : State), s.obs.queue = r :: rest → portRuns s = true → s.obs.dropped = 0 → s.obs.syncDue = false →
    exec .traceRecord s = .next { s with obs := { s.obs with
      queue := rest, out := [recordBytes s.obs.seq r], seq := (s.obs.seq + 1) % 256, emitted := wrap32 (s.obs.emitted + 1) } }) ∧
  (∀ (r : TraceRec) (rest : List TraceRec) (s : State), s.obs.queue = r :: rest → portRuns s = true →
    exec .traceRecord s = .next (emitRecord r (emitMarkers { s with obs := { s.obs with queue := rest, out := [] } }))) ∧
  (∀ (r : TraceRec) (rest : List TraceRec) (s : State), s.obs.queue = r :: rest → portRuns s = true → 0 < s.obs.dropped →
    Completes .traceRecord s (fun t => t.obs.queue = rest ∧ t.obs.dropped = 0 ∧ t.obs.syncDue = false ∧ ∃ body, t.obs.out =
      [recordBytes s.obs.seq ⟨15, s.obs.dropStamp, beOctets 4 s.obs.dropped ++ [0, 0]⟩,
        recordBytes ((s.obs.seq + 1) % 256) ⟨0, s.time.stamp, body⟩, recordBytes (((s.obs.seq + 1) % 256 + 1) % 256) r])) ∧
  (∀ s : State, s.obs.queue = [] ∨ portRuns s = false → exec .traceRecord s = .next s) ∧
  (∀ s : State, portRuns s = true → s.obs.syncDue = true ∨ s.obs.lastSync + 65536000 ≤ s.time.stamp →
    Completes .traceSync s (fun t => t.obs.syncDue = false ∧ t.obs.lastSync = s.time.stamp ∧ t.obs.out.length = 1 ∧
      t.obs.emitted = wrap32 (s.obs.emitted + 1) ∧ t.obs.queue = s.obs.queue)) ∧
  (∀ (seq : Nat) (r : TraceRec), (recordBytes seq r).length = 16) ∧
  (∀ (kind stamp : Nat) (payload : List Nat) (s : State), traceOn s = true → bit (devVal s 0x8100 0) kind = true →
    (s.obs.queue.length < 56 ∨ (kind = 1 ∧ s.obs.queue.length < 64) →
      traceAdd kind stamp payload s = { s with obs := { s.obs with queue := s.obs.queue ++ [⟨kind, stamp, payload⟩] } }) ∧
    (64 ≤ s.obs.queue.length ∨ (56 ≤ s.obs.queue.length ∧ kind ≠ 1) →
      (traceAdd kind stamp payload s).obs.queue = s.obs.queue ∧ (traceAdd kind stamp payload s).obs.lost = wrap32 (s.obs.lost + 1) ∧
      (traceAdd kind stamp payload s).obs.lostStamp = stamp ∧ (traceAdd kind stamp payload s).obs.seq = s.obs.seq ∧
      (traceAdd kind stamp payload s).obs.dropped = min 4294967295 (s.obs.dropped + 1)))
end

