-- ==== Sys2Proof/Laws/EngineIdle.lean ====
section
/-! SUPPORT. An engine that is free: its pump, its stream pass and the way into STANDBY leave the state as it is, so an
item without a frame comes to its own effect and its outcome. -/

namespace Sys2Proof.Laws

open Sys2Proof.Machine

/-- Nothing is left for the engine to do. -/
structure Quiet (s : State) : Prop where
  running : s.engine.running = none
  frames : s.engine.frames = []
  standby : s.chip.standbyWanted = false
  noSub : s.engine.subs.all (fun x => !x.due) = true

/-- A state that begins no reset when an outcome goes out. -/
structure NoReset (s : State) : Prop where
  afterReply : s.engine.afterReply = none
  due : s.engine.resetsDue = []

theorem EngineFree_noReset {s : State} (h : EngineFree s) : NoReset s := ⟨h.afterReply, h.noReset⟩

theorem resetsBegin_none {s : State} (h : s.engine.resetsDue = []) (mark : Nat) : resetsBegin mark s = s := by
  simp only [resetsBegin, h, List.filter_nil, List.foldl_nil]
  rw [← h]

theorem EngineFree_quiet {s : State} (h : EngineFree s) : Quiet s := ⟨h.running, h.frames, h.standby, h.noSub⟩

theorem pumpStep_quiet {s : State} (h : Quiet s) : pumpStep s = none := by
  simp only [pumpStep, nextFrame, h.frames, h.running, List.find?_nil, ite_self, Option.map_none]

theorem pump_quiet {s : State} (h : Quiet s) : pump s = s := by
  have step (n : Nat) : pumpTimes n s = s := by
    cases n with
    | zero => rfl
    | succ n => simp only [pumpTimes, pumpStep_quiet h]
  exact step _

theorem subAt_notDue {s : State} (h : Quiet s) {k : Nat} (hk : k < 8) : (subAt s k).due = false := by
  have := Vector.all_eq_true.1 h.noSub k hk
  simpa [subAt, Vector.getD, hk] using this

theorem streamPass_quiet {s : State} (h : Quiet s) : streamPass s = s := by
  have fold (l : List Nat) (hl : ∀ k ∈ l, k < 8) :
      l.foldl (fun s k =>
        if (subAt s k).active && (subAt s k).due && s.engine.running.isNone && s.engine.frames.all (·.held) then
          pump (putRunning (streamRun k s) (modSub k (fun x => { x with due := false }) s))
        else s) s = s := by
    induction l with
    | nil => rfl
    | cons k ks ih =>
      rw [List.foldl_cons, subAt_notDue h (hl k List.mem_cons_self), Bool.and_false, Bool.false_and, Bool.false_and,
        if_neg Bool.false_ne_true]
      exact ih fun j hj => hl j (List.mem_cons_of_mem _ hj)
  exact fold _ fun k hk => List.mem_range.1 hk

theorem standbyGate_quiet {s : State} (h : Quiet s) : standbyGate s = s := by
  simp only [standbyGate, h.standby, Bool.false_and, if_neg Bool.false_ne_true]

theorem settle_quiet {s : State} (h : Quiet s) : settle s = s := by
  unfold settle
  rw [pump_quiet h, streamPass_quiet h, standbyGate_quiet h, ite_self]

theorem serving_free {s : State} (h : EngineFree s) : serving s = true := by
  simp only [serving, engineTakes, h.opened, h.active, h.core]
  rfl

theorem rowFree_free {s : State} (h : EngineFree s) (it : Item) : rowFree it s = true := by
  simp only [rowFree, mustHold, h.running, h.waiting, h.frames, h.noStore]
  rfl

/-- An item that answers at once, and leaves the engine with nothing to do, comes to its effect and its outcome. -/
theorem rowRun_now {s t : State} {who : Who} {it : Item} {x : Reply} (h : EngineFree s) (e : doItem who it s = (.now x, t))
    (q : Quiet t) (a : NoReset t) : rowRun who it s = { t with engine := { t.engine with last := x } } := by
  have hr : runItem who it s = (.now x, t) := by rw [runItem, if_neg (by simp [h.active]), e]
  have hd : rowEnds who (.now x, t) = { t with engine := { t.engine with last := x } } := by
    simp only [rowEnds]
    rw [resetsBegin_none (s := { t with engine := { t.engine with last := x } }) a.due]
    simp only [resetAfter, a.afterReply]
  rw [rowRun, serving_free h, rowFree_free h it, hr, hd]
  exact settle_quiet ⟨q.running, q.frames, q.standby, q.noSub⟩

/-- An engine whose only item waits for what has not come does nothing. -/
theorem settle_waiting {u : State} {r : Running} {w : Waiting} (hr : u.engine.running = some r) (hw : u.engine.waiting = some w)
    (f : u.engine.frames = []) (b : u.chip.standbyWanted = false) (n : waitDone w u = none) : settle u = u := by
  have stuck : pumpStep u = none := by
    simp only [pumpStep, nextFrame, f, List.find?_nil, ite_self, hr, hw, n, Option.map_none]
  have rest (k : Nat) : pumpTimes k u = u := by
    cases k with
    | zero => rfl
    | succ k => simp only [pumpTimes, stuck]
  have passes : streamPass u = u := by
    have fold (l : List Nat) : l.foldl (fun s k =>
        if (subAt s k).active && (subAt s k).due && s.engine.running.isNone && s.engine.frames.all (·.held) then
          pump (putRunning (streamRun k s) (modSub k (fun x => { x with due := false }) s))
        else s) u = u := by
      induction l with
      | nil => rfl
      | cons k ks ih =>
        rw [List.foldl_cons, hr, Option.isNone_some, Bool.and_false, Bool.false_and, if_neg Bool.false_ne_true]
        exact ih
    exact fold _
  have gate : standbyGate u = u := by simp only [standbyGate, b, Bool.false_and, Bool.false_eq_true, if_false]
  unfold settle pump
  rw [rest, passes, gate, ite_self]

/-- An item that waits, for something that has not come, holds the engine and leaves the rest of its effect in place. -/
theorem rowRun_waits {s t : State} {who : Who} {it : Item} {w : Waiting} (h : EngineFree s) (e : doItem who it s = (.waits w, t))
    (f : t.engine.frames = []) (b : t.chip.standbyWanted = false)
    (n : waitDone w { t with engine := { t.engine with running := some (rowFrame who []), waiting := some w } } = none) :
    rowRun who it s = { t with engine := { t.engine with running := some (rowFrame who []), waiting := some w } } := by
  have hr : runItem who it s = (.waits w, t) := by rw [runItem, if_neg (by simp [h.active]), e]
  rw [rowRun, serving_free h, rowFree_free h it, hr]
  exact settle_waiting rfl rfl f b n

/-- A Pod-level index names its Pod and its row. -/
theorem findPlace_pod {p loc : Nat} (hp : p < 64) (hl : loc < 256) :
    findPlace (podIndex p loc) = (podObj loc).map (fun o => ⟨some p, o⟩) := by
  have h1 : 0x4000 ≤ podIndex p loc ∧ podIndex p loc < 0x8000 := by unfold podIndex; omega
  have h2 : podIndex p loc % 256 = loc := by unfold podIndex; omega
  have h3 : (podIndex p loc - 0x4000) / 256 = p := by unfold podIndex; omega
  rw [findPlace, if_pos h1, h2, h3]

/-- A lane access is no concern of the engine, the chip or the dictionary. -/
theorem laneDone_engine (p : Nat) (s : State) : (laneDone p s).engine = s.engine ∧ (laneDone p s).chip = s.chip ∧
    (laneDone p s).dict = s.dict ∧ (laneDone p s).time = s.time ∧ (laneDone p s).clocks = s.clocks := ⟨rfl, rfl, rfl, rfl, rfl⟩

end Sys2Proof.Laws
end

