-- ==== Sys2Proof/Laws/Stores.lean ====
section
/-! SUPPORT. Sparse stores: a write keeps the canonical form, and a read after it gives the value written at its key and
the old value at every other key. -/

namespace Sys2Proof.Laws

open Sys2Proof.Machine

theorem storeInsert_mem {k v : Nat} {st : Store} {e : Nat × Nat} (h : e ∈ storeInsert k v st) : e = (k, v) ∨ e ∈ st := by
  induction st with
  | nil => simpa [storeInsert] using h
  | cons x xs ih =>
    simp only [storeInsert] at h
    split_ifs at h <;> simp only [List.mem_cons] at h ⊢ <;> tauto

theorem storeInsert_sorted {k v : Nat} {st : Store} (h : st.Pairwise (fun a b => a.1 < b.1)) :
    (storeInsert k v st).Pairwise (fun a b => a.1 < b.1) := by
  induction st with
  | nil => simp [storeInsert]
  | cons x xs ih =>
    obtain ⟨a, b⟩ := x
    obtain ⟨hx, hs⟩ := List.pairwise_cons.1 h
    simp only [storeInsert]
    split_ifs with h1 h2
    · refine List.pairwise_cons.2 ⟨fun e he => ?_, h⟩
      rcases List.mem_cons.1 he with rfl | he
      · exact h1
      · exact lt_trans h1 (hx e he)
    · subst h2
      exact List.pairwise_cons.2 ⟨hx, hs⟩
    · refine List.pairwise_cons.2 ⟨fun e he => ?_, ih hs⟩
      rcases storeInsert_mem he with rfl | he
      · dsimp only; omega
      · exact hx e he

theorem storePut_wf {dflt : Nat → Nat} {st : Store} {k v : Nat} (h : storeWf dflt st = true) : storeWf dflt (storePut dflt st k v) = true := by
  simp only [storeWf, Bool.and_eq_true, decide_eq_true_eq, List.all_eq_true, bne_iff_ne] at h ⊢
  unfold storePut
  split_ifs with hv
  · exact ⟨h.1.filter _, fun e he => h.2 e (List.mem_of_mem_filter he)⟩
  · refine ⟨storeInsert_sorted h.1, fun e he => ?_⟩
    rcases storeInsert_mem he with rfl | he
    · exact hv
    · exact h.2 e he

theorem storeGet_erase {dflt : Nat → Nat} {st : Store} {k j : Nat} : storeGet dflt (storeErase k st) j = if j = k then dflt k else storeGet dflt st j := by
  induction st with
  | nil => simp only [storeErase, List.filter_nil, storeGet]; split_ifs <;> simp_all
  | cons x xs ih =>
    obtain ⟨a, b⟩ := x
    simp only [storeErase, List.filter_cons, storeGet] at ih ⊢
    by_cases hak : a = k
    · subst hak
      simp only [bne_self_eq_false, Bool.false_eq_true, if_false, ih]
      split_ifs <;> simp_all
    · simp only [bne_iff_ne, ne_eq, hak, not_false_eq_true, if_true, storeGet, ih]
      split_ifs <;> simp_all

theorem storeGet_insert {dflt : Nat → Nat} {st : Store} {k v j : Nat} (h : st.Pairwise (fun a b => a.1 < b.1)) :
    storeGet dflt (storeInsert k v st) j = if j = k then v else storeGet dflt st j := by
  induction st with
  | nil => simp only [storeInsert, storeGet, eq_comm]
  | cons x xs ih =>
    obtain ⟨a, b⟩ := x
    obtain ⟨hx, hs⟩ := List.pairwise_cons.1 h
    simp only [storeInsert]
    split_ifs with h1 h2 h3 h3 h3 <;> simp only [storeGet, ih hs] <;> split_ifs <;> first | rfl | omega

theorem storeGet_put {dflt : Nat → Nat} {st : Store} {k v j : Nat} (h : storeWf dflt st = true) :
    storeGet dflt (storePut dflt st k v) j = if j = k then v else storeGet dflt st j := by
  simp only [storeWf, Bool.and_eq_true, decide_eq_true_eq] at h
  unfold storePut
  split_ifs with hv hj hj
  · rw [storeGet_erase, if_pos hj, hv]
  · rw [storeGet_erase, if_neg hj]
  · rw [storeGet_insert h.1, if_pos hj]
  · rw [storeGet_insert h.1, if_neg hj]
end Sys2Proof.Laws
end

