-- ==== Sys2Proof/Laws/KeepsOps.lean ====
section
/-! SUPPORT. What every step keeps (I): the claim `Ok`, what closes it over conditionals, folds and record updates, and
one lemma for each operation of the state, the Pods, the display and Guard. -/

namespace Sys2Proof.Laws

open Sys2Proof.Machine

def Ok (cs : List Instr) (I : Prop) (s : State) : Prop := s.pending = cs ∧ (I → Bounded s)

variable {cs : List Instr} {I : Prop} {s : State}

variable {cs : List Instr} {I : Prop} {s : State}

theorem ok_ite {c : Prop} [Decidable c] {a b : State} (ha : Ok cs I a) (hb : Ok cs I b) : Ok cs I (if c then a else b) := by
  split <;> assumption

theorem ok_ite_pair {α : Type} {c : Prop} [Decidable c] {a b : α × State} (ha : Ok cs I a.2) (hb : Ok cs I b.2) :
    Ok cs I (if c then a else b).2 := by
  split <;> assumption

theorem foldl_ok {α : Type} {f : State → α → State} {l : List α} (h : Ok cs I s) (hf : ∀ s x, Ok cs I s → Ok cs I (f s x)) :
    Ok cs I (l.foldl f s) := by
  induction l generalizing s with
  | nil => exact h
  | cons x xs ih => exact ih (hf s x h)

theorem ok_mk {chip power clocks time dict pods shell guard panel link engine obs fresh pending} {s : State}
    (e1 : pending = s.pending) (e2 : panel.buffer = s.panel.buffer) (e3 : obs.queue = s.obs.queue)
    (e4 : shell.queue = s.shell.queue) (e5 : engine.events = s.engine.events) (e6 : engine.outstanding = s.engine.outstanding)
    (e7 : guard.history = s.guard.history) (h : Ok cs I s) :
    Ok cs I (State.mk chip power clocks time dict pods shell guard panel link engine obs fresh pending) := by
  simpa only [Ok, Bounded, FrameBufferWf, QueuesWithin, e1, e2, e3, e4, e5, e6, e7] using h

theorem ok_any {s t : State} (ok : Ok cs I s) (e : t.pending = s.pending) (b : Bounded s → Bounded t) : Ok cs I t :=
  ⟨e.trans ok.1, fun i => b (ok.2 i)⟩

theorem ok_snd {α : Type} {p : α × State} {a : α} {t : State} (e : p = (a, t)) (h : Ok cs I p.2) : Ok cs I t := by
  rw [e] at h
  exact h

theorem modPod_ok {p : Nat} {f : Pod → Pod} (h : Ok cs I s) : Ok cs I (modPod p f s) := h

theorem onPods_ok {f : Nat → State → State} (h : Ok cs I s) (hf : ∀ p s, Ok cs I s → Ok cs I (f p s)) : Ok cs I (onPods f s) :=
  foldl_ok h (fun s p hs => hf p s hs)

theorem setDev_ok {index sub v : Nat} (ok : Ok cs I s) : Ok cs I (setDev index sub v s) := ok

theorem takeFree_ok (ok : Ok cs I s) : Ok cs I (takeFree s).2 := ok

theorem traceAdd_ok {k st : Nat} {p : List Nat} (h : Ok cs I s) : Ok cs I (traceAdd k st p s) := by
  unfold traceAdd
  refine ok_ite ?_ h
  dsimp only
  split
  · exact h
  · rename_i hn
    refine ⟨h.1, fun i => ?_⟩
    obtain ⟨a, b, c⟩ := h.2 i
    refine ⟨a, ?_, c⟩
    simp only [List.length_append, List.length_singleton]
    omega

theorem traceClock_ok {a b c d e : Nat} (h : Ok cs I s) : Ok cs I (traceClock a b c d e s) := by
  unfold traceClock
  exact ok_ite h (traceAdd_ok h)

theorem hubCount_ok {k : Nat} (ok : Ok cs I s) : Ok cs I (hubCount k s) := ok

theorem logAdd_ok {kind inst detail : Nat} {payload : List Nat} (ok : Ok cs I s) : Ok cs I (logAdd kind inst detail payload s) := by
  refine ok_any ok ?_ ?_ <;> unfold logAdd hubCount <;> dsimp only <;> split_ifs
  all_goals first | rfl | skip
  all_goals
    rintro ⟨a, b, c, d⟩
    refine ⟨a, b, ?_, d⟩
    simp only [List.length_append, List.length_singleton] at *
    omega

theorem evAdd_ok {r : EvRec} (ok : Ok cs I s) : Ok cs I (evAdd r s) := by
  refine ok_any ok ?_ ?_ <;> unfold evAdd <;> dsimp only <;> split_ifs with h1 h2 h3
  all_goals first | rfl | skip
  all_goals
    rintro ⟨a, b, c, d, e⟩
    refine ⟨a, b, c, ?_, e⟩
  · exact d
  · simp only [List.length_append, List.length_singleton]; omega
  · obtain ⟨x, hx, hk⟩ := List.any_eq_true.1 h3.2
    have := List.length_eraseP_of_mem (p := fun x : EvRec => x.kind == 2) hx hk
    have := List.length_pos_of_mem hx
    simp only [List.length_append, List.length_singleton]
    omega
  · exact d

theorem trigger_ok {a b : Nat} (h : Ok cs I s) : Ok cs I (trigger a b s) := h

theorem setMode_ok {p : Nat} {m : PodMode} {cause : Nat} (ok : Ok cs I s) : Ok cs I (setMode p m cause s) := by
  unfold setMode
  with_reducible repeat' (first
      | assumption | refine ok_ite ?_ ?_ | refine modPod_ok ?_ | refine traceAdd_ok ?_ | refine traceClock_ok ?_
      | refine trigger_ok ?_)

theorem setMux_ok {k : Nat} {m : Mux} {cause : Nat} (ok : Ok cs I s) : Ok cs I (setMux k m cause s) := by
  unfold setMux
  lift_lets
  repeat (first | (intro x; have hx : Ok cs I x := (by
    with_reducible repeat' (first
      | assumption | refine ok_ite ?_ ?_ | refine traceClock_ok ?_ | (refine ok_mk rfl rfl rfl rfl rfl rfl rfl ?_; assumption))); clear_value x) | intro x)
  with_reducible repeat' (first
      | assumption | refine ok_ite ?_ ?_ | refine traceClock_ok ?_ | (refine ok_mk rfl rfl rfl rfl rfl rfl rfl ?_; assumption))

theorem setOsc_ok {k : Nat} {o : Osc} {cause : Nat} (ok : Ok cs I s) : Ok cs I (setOsc k o cause s) := by
  unfold setOsc
  with_reducible repeat' (first
      | assumption | refine ok_ite ?_ ?_ | refine traceClock_ok ?_ | (refine ok_mk rfl rfl rfl rfl rfl rfl rfl ?_; assumption))

theorem setPodMux_ok {p : Nat} {c : MuxCode} {cause : Nat} (ok : Ok cs I s) : Ok cs I (setPodMux p c cause s) := by
  unfold setPodMux
  with_reducible repeat' (first
      | assumption | refine ok_ite ?_ ?_ | refine modPod_ok ?_ | refine traceClock_ok ?_)

theorem podCommand_ok {p code arg completion : Nat} (ok : Ok cs I s) : Ok cs I (podCommand p code arg completion s) := ok

theorem podComplete_ok {p completion : Nat} (ok : Ok cs I s) : Ok cs I (podComplete p completion s) := ok

theorem podCount_ok {p k : Nat} {by_ : Nat} (ok : Ok cs I s) : Ok cs I (podCount p k by_ s) := ok

theorem closeGap_ok {p cause : Nat} {start stop : Tick} {bound : Option Nat} {dormant add : Bool} (ok : Ok cs I s) :
    Ok cs I (closeGap p cause start stop bound dormant add s) := by
  unfold closeGap
  lift_lets
  repeat (first | (intro x; have hx : Ok cs I x := (by
    with_reducible repeat' (first
      | assumption | refine ok_ite ?_ ?_ | refine modPod_ok ?_ | refine logAdd_ok ?_)); clear_value x) | intro x)
  with_reducible repeat' (first
      | assumption | refine ok_ite ?_ ?_ | refine modPod_ok ?_ | refine logAdd_ok ?_
      | (refine ok_mk rfl rfl rfl rfl rfl rfl rfl ?_; assumption))

theorem closePhaseGaps_ok {p : Nat} {gs : List PhaseGap} (ok : Ok cs I s) : Ok cs I (closePhaseGaps p gs s) := by
  unfold closePhaseGaps
  with_reducible repeat' (first
      | assumption | refine ok_ite ?_ ?_ | refine closeGap_ok ?_ | refine foldl_ok ?_ ?_ | refine onPods_ok ?_ ?_ | intro _)

theorem syncPulse_ok {p : Nat} (ok : Ok cs I s) : Ok cs I (syncPulse p s) := ok

theorem syncPulses_ok (ok : Ok cs I s) : Ok cs I (syncPulses s) := ok

theorem withBooking_ok {p : Nat} {f : Pod → Pod × List PhaseGap} (ok : Ok cs I s) : Ok cs I (withBooking p f s) := by
  unfold withBooking
  with_reducible repeat' (first
      | assumption | refine ok_ite ?_ ?_ | refine modPod_ok ?_ | refine closePhaseGaps_ok ?_ | refine syncPulse_ok ?_)

theorem drainEvents_ok {p : Nat} (ok : Ok cs I s) : Ok cs I (drainEvents p s) := by
  unfold drainEvents
  with_reducible repeat' (first
      | assumption | refine ok_ite ?_ ?_ | refine modPod_ok ?_ | refine evAdd_ok ?_ | refine foldl_ok ?_ ?_
      | refine onPods_ok ?_ ?_ | intro _)

theorem endDoze_ok {p : Nat} {now : Tick} {exit : Nat} (ok : Ok cs I s) : Ok cs I (endDoze p now exit s) := by
  unfold endDoze
  with_reducible repeat' (first
      | assumption | refine ok_ite ?_ ?_ | refine modPod_ok ?_ | refine closeGap_ok ?_ | split
      | (refine ok_mk rfl rfl rfl rfl rfl rfl rfl ?_; assumption) | refine ok_snd (by assumption) ?_
      | refine ok_mk rfl rfl rfl rfl rfl rfl rfl ?_)

theorem latchMarker_ok (ok : Ok cs I s) : Ok cs I (latchMarker s).2 := by
  unfold latchMarker
  with_reducible repeat' (first
      | assumption | refine ok_ite ?_ ?_ | refine ok_ite_pair ?_ ?_ | (refine ok_mk rfl rfl rfl rfl rfl rfl rfl ?_; assumption))

theorem startSampling_ok {p : Nat} {cause : Nat} (ok : Ok cs I s) : Ok cs I (startSampling p cause s) := by
  unfold startSampling
  with_reducible repeat' (first
      | assumption | refine ok_ite ?_ ?_ | refine modPod_ok ?_ | refine setMode_ok ?_ | refine latchMarker_ok ?_)

theorem endBooking_ok {p : Nat} {limit : Option Tick} (ok : Ok cs I s) : Ok cs I (endBooking p limit s) := by
  unfold endBooking
  with_reducible repeat' (first
      | assumption | refine ok_ite ?_ ?_ | refine modPod_ok ?_ | refine withBooking_ok ?_ | refine drainEvents_ok ?_
      | refine foldl_ok ?_ ?_ | intro _)

theorem stopSampling_ok {p : Nat} {m : PodMode} {cause : Nat} {limit : Option Tick} (ok : Ok cs I s) :
    Ok cs I (stopSampling p m cause limit s) := by
  unfold stopSampling
  with_reducible repeat' (first
      | assumption | refine ok_ite ?_ ?_ | refine modPod_ok ?_ | refine setMode_ok ?_ | refine endBooking_ok ?_)

theorem freezeNow_ok {p : Nat} (ok : Ok cs I s) : Ok cs I (freezeNow p s) := by
  unfold freezeNow
  with_reducible repeat' (first
      | assumption | refine ok_ite ?_ ?_ | refine modPod_ok ?_ | refine syncPulse_ok ?_ | refine endBooking_ok ?_ | intro _
      | (refine ok_mk rfl rfl rfl rfl rfl rfl rfl ?_; assumption))

theorem freezePod_ok {p : Nat} (ok : Ok cs I s) : Ok cs I (freezePod p s) := by
  unfold freezePod
  with_reducible repeat' (first
      | assumption | refine ok_ite ?_ ?_ | refine modPod_ok ?_ | refine freezeNow_ok ?_ | intro _
      | (refine ok_mk rfl rfl rfl rfl rfl rfl rfl ?_; assumption))

theorem freezePods_ok (ok : Ok cs I s) : Ok cs I (freezePods s) := by
  unfold freezePods
  with_reducible repeat' (first
      | assumption | refine ok_ite ?_ ?_ | refine freezePod_ok ?_ | refine foldl_ok ?_ ?_ | refine onPods_ok ?_ ?_ | intro _)

theorem displayWatch_ok (ok : Ok cs I s) : Ok cs I (displayWatch s) := by
  unfold displayWatch
  lift_lets
  repeat (first | (intro x; have hx : Ok cs I x := (by
    with_reducible repeat' (first
      | assumption | refine ok_ite ?_ ?_ | refine trigger_ok ?_ | (refine ok_mk rfl rfl rfl rfl rfl rfl rfl ?_; assumption))); clear_value x) | intro x)
  with_reducible repeat' (first
      | assumption | refine ok_ite ?_ ?_ | refine trigger_ok ?_ | (refine ok_mk rfl rfl rfl rfl rfl rfl rfl ?_; assumption))

theorem linkCount_ok {k : Nat} (ok : Ok cs I s) : Ok cs I (linkCount k s) := ok

theorem setLink_ok {c : LinkCode} (ok : Ok cs I s) : Ok cs I (setLink c s) := by
  unfold setLink
  with_reducible repeat' (first
      | assumption | refine ok_ite ?_ ?_ | refine linkCount_ok ?_ | (refine ok_mk rfl rfl rfl rfl rfl rfl rfl ?_; assumption))

theorem linkJoin_ok (ok : Ok cs I s) : Ok cs I (linkJoin s) := by
  unfold linkJoin
  with_reducible repeat' (first
      | assumption | refine ok_ite ?_ ?_ | refine setLink_ok ?_)

theorem linkCause_ok {k : Nat} {present : Bool} (ok : Ok cs I s) : Ok cs I (linkCause k present s) := by
  unfold linkCause
  lift_lets
  repeat (first | (intro x; have hx : Ok cs I x := (by
    with_reducible repeat' (first
      | assumption | refine ok_ite ?_ ?_ | refine setLink_ok ?_ | refine linkJoin_ok ?_ | refine foldl_ok ?_ ?_
      | refine onPods_ok ?_ ?_ | intro _ | split | (refine ok_mk rfl rfl rfl rfl rfl rfl rfl ?_; assumption))); clear_value x) | intro x)
  with_reducible repeat' (first
      | assumption | refine ok_ite ?_ ?_ | refine setLink_ok ?_ | refine linkJoin_ok ?_ | refine foldl_ok ?_ ?_
      | refine onPods_ok ?_ ?_ | intro _ | split)

theorem setChip_ok {c : ChipState} (ok : Ok cs I s) : Ok cs I (setChip c s) := ok

theorem runTimers_ok {on : Bool} (ok : Ok cs I s) : Ok cs I (runTimers on s) := ok

theorem openEngine_ok (ok : Ok cs I s) : Ok cs I (openEngine s) := by
  unfold openEngine
  with_reducible repeat' (first
      | assumption | refine ok_ite ?_ ?_ | refine displayWatch_ok ?_ | refine runTimers_ok ?_
      | (refine ok_mk rfl rfl rfl rfl rfl rfl rfl ?_; assumption))

theorem modInst_ok {k : Nat} {f : Inst → Inst} (ok : Ok cs I s) : Ok cs I (modInst k f s) := ok

theorem histAdd_ok {c : FaultClass} {p source action flags detail before : Nat} {logged notified : Bool} (ok : Ok cs I s) :
    Ok cs I (histAdd c p source action flags detail before logged notified s) := by
  unfold histAdd
  lift_lets
  intro k seq inst e g s1
  have h1 : Ok cs I s1 := by
    refine ok_any ok rfl ?_
    rintro ⟨a, b, c, d, e, f⟩
    exact ⟨a, b, c, d, e, List.length_take_le _ _⟩
  clear_value s1
  intro s2
  have h2 : Ok cs I s2 := traceAdd_ok h1
  clear_value s2
  intro byte s3
  have h3 : Ok cs I s3 := ok_ite (logAdd_ok h2) h2
  exact ok_ite (evAdd_ok h3) h3

theorem enterSafe_ok (ok : Ok cs I s) : Ok cs I (enterSafe s) := by
  unfold enterSafe
  with_reducible repeat' (first
      | assumption | refine ok_ite ?_ ?_ | refine freezePods_ok ?_ | refine displayWatch_ok ?_ | refine setChip_ok ?_
      | refine runTimers_ok ?_)

theorem levelFour_ok {c : FaultClass} {p source : Nat} (ok : Ok cs I s) : Ok cs I (levelFour c p source s) := by
  unfold levelFour
  lift_lets
  repeat (first | (intro x; have hx : Ok cs I x := (by
    with_reducible repeat' (first
      | assumption | refine ok_ite ?_ ?_ | refine enterSafe_ok ?_ | refine foldl_ok ?_ ?_ | refine onPods_ok ?_ ?_ | intro _
      | split | (refine ok_mk rfl rfl rfl rfl rfl rfl rfl ?_; assumption))); clear_value x) | intro x)
  with_reducible repeat' (first
      | assumption | refine ok_ite ?_ ?_ | refine enterSafe_ok ?_ | refine foldl_ok ?_ ?_ | refine onPods_ok ?_ ?_ | intro _
      | split | (refine ok_mk rfl rfl rfl rfl rfl rfl rfl ?_; assumption))

theorem podToFault_ok {p cause : Nat} (ok : Ok cs I s) : Ok cs I (podToFault p cause s) := by
  unfold podToFault
  with_reducible repeat' (first
      | assumption | refine ok_ite ?_ ?_ | refine modPod_ok ?_ | refine syncPulse_ok ?_ | refine endDoze_ok ?_
      | refine stopSampling_ok ?_ | intro _ | (refine ok_mk rfl rfl rfl rfl rfl rfl rfl ?_; assumption))

theorem enterContainment_ok {c : FaultClass} {p : Nat} (ok : Ok cs I s) : Ok cs I (enterContainment c p s) := by
  unfold enterContainment
  lift_lets
  repeat (first | (intro x; have hx : Ok cs I x := (by
    with_reducible repeat' (first
      | assumption | refine ok_ite ?_ ?_ | refine displayWatch_ok ?_ | refine linkCause_ok ?_ | refine modInst_ok ?_
      | refine podToFault_ok ?_ | intro _ | split | (refine ok_mk rfl rfl rfl rfl rfl rfl rfl ?_; assumption))); clear_value x) | intro x)
  with_reducible repeat' (first
      | assumption | refine ok_ite ?_ ?_ | refine displayWatch_ok ?_ | refine linkCause_ok ?_ | refine modInst_ok ?_
      | refine podToFault_ok ?_ | intro _ | split | (refine ok_mk rfl rfl rfl rfl rfl rfl rfl ?_; assumption))

theorem levelEffects_ok {c : FaultClass} {p source level : Nat} (ok : Ok cs I s) : Ok cs I (levelEffects c p source level s) := by
  unfold levelEffects
  with_reducible repeat' (first
      | assumption | refine ok_ite ?_ ?_ | refine levelFour_ok ?_ | refine enterContainment_ok ?_)

theorem dropEnded_ok {k : Nat} (ok : Ok cs I s) : Ok cs I (dropEnded k s) := by
  unfold dropEnded
  lift_lets
  repeat (first | (intro x; have hx : Ok cs I x := (by
    with_reducible repeat' (first
      | assumption | refine ok_ite ?_ ?_ | refine modInst_ok ?_)); clear_value x) | intro x)
  with_reducible repeat' (first
      | assumption | refine ok_ite ?_ ?_ | refine modInst_ok ?_ | (refine ok_mk rfl rfl rfl rfl rfl rfl rfl ?_; assumption))

theorem raiseAt_ok {c : FaultClass} {p source detail : Nat} {at_ : Tick} {held present : Bool} {least : Nat} (ok : Ok cs I s) :
    Ok cs I (raiseAt c p source detail at_ held present s least) := by
  unfold raiseAt
  with_reducible repeat' (first
      | assumption | refine ok_ite ?_ ?_ | refine ok_ite_pair ?_ ?_ | refine modInst_ok ?_ | refine histAdd_ok ?_
      | refine levelEffects_ok ?_ | refine dropEnded_ok ?_ | intro _ | split
      | (refine ok_mk rfl rfl rfl rfl rfl rfl rfl ?_; assumption) | refine ok_snd (by assumption) ?_
      | refine ok_mk rfl rfl rfl rfl rfl rfl rfl ?_)

theorem raise_ok {c : FaultClass} {p source detail : Nat} (ok : Ok cs I s) : Ok cs I (raise c p source detail s) := by
  unfold raise
  with_reducible repeat' (first
      | assumption | refine ok_ite ?_ ?_ | refine raiseAt_ok ?_ | (refine ok_mk rfl rfl rfl rfl rfl rfl rfl ?_; assumption))

theorem raisePod_ok {p source detail : Nat} (ok : Ok cs I s) : Ok cs I (raisePod p source detail s) := by
  unfold raisePod
  with_reducible repeat' (first
      | assumption | refine ok_ite ?_ ?_ | refine raise_ok ?_)

theorem clearCause_ok {c : FaultClass} {p source : Nat} (ok : Ok cs I s) : Ok cs I (clearCause c p source s) := by
  unfold clearCause
  with_reducible repeat' (first
      | assumption | refine ok_ite ?_ ?_ | refine modInst_ok ?_ | refine histAdd_ok ?_ | refine dropEnded_ok ?_
      | (refine ok_mk rfl rfl rfl rfl rfl rfl rfl ?_; assumption))

theorem clearIf_ok {b : Bool} {c : FaultClass} {p source : Nat} (ok : Ok cs I s) : Ok cs I (clearIf b c p source s) := by
  unfold clearIf
  with_reducible repeat' (first
      | assumption | refine ok_ite ?_ ?_ | refine clearCause_ok ?_)

theorem ackInst_ok {c : FaultClass} {p : Nat} (ok : Ok cs I s) : Ok cs I (ackInst c p s) := by
  unfold ackInst
  with_reducible repeat' (first
      | assumption | refine ok_ite ?_ ?_ | refine modInst_ok ?_ | refine histAdd_ok ?_ | refine dropEnded_ok ?_)

theorem timerExpires_ok {c : FaultClass} {p : Nat} (ok : Ok cs I s) : Ok cs I (timerExpires c p s) := by
  unfold timerExpires
  lift_lets
  repeat intro x
  with_reducible repeat' (first
      | assumption | refine ok_ite ?_ ?_ | refine modInst_ok ?_ | refine histAdd_ok ?_ | refine levelEffects_ok ?_
      | refine foldl_ok ?_ ?_ | refine onPods_ok ?_ ?_ | intro _ | split)

theorem liftContainment_ok {c : FaultClass} (ok : Ok cs I s) : Ok cs I (liftContainment c s) := by
  unfold liftContainment
  with_reducible repeat' (first
      | assumption | refine ok_ite ?_ ?_ | refine displayWatch_ok ?_ | refine linkCause_ok ?_ | refine foldl_ok ?_ ?_
      | refine onPods_ok ?_ ?_ | intro _ | split | (refine ok_mk rfl rfl rfl rfl rfl rfl rfl ?_; assumption))

theorem quietExitOf_ok {c : FaultClass} {p : Nat} (ok : Ok cs I s) : Ok cs I (quietExitOf c p s) := by
  unfold quietExitOf
  lift_lets
  repeat intro x
  with_reducible repeat' (first
      | assumption | refine ok_ite ?_ ?_ | refine modPod_ok ?_ | refine trigger_ok ?_ | refine modInst_ok ?_
      | refine histAdd_ok ?_ | refine liftContainment_ok ?_)

theorem resetExit_ok {c : FaultClass} {p : Nat} (ok : Ok cs I s) : Ok cs I (resetExit c p s) := by
  unfold resetExit
  with_reducible repeat' (first
      | assumption | refine ok_ite ?_ ?_ | refine modInst_ok ?_ | refine histAdd_ok ?_ | refine raise_ok ?_
      | refine liftContainment_ok ?_ | refine foldl_ok ?_ ?_ | refine onPods_ok ?_ ?_ | intro _)

theorem keepCauses_ok (ok : Ok cs I s) : Ok cs I (keepCauses s) := ok

theorem chipResetExits_ok (ok : Ok cs I s) : Ok cs I (chipResetExits s) := by
  unfold chipResetExits
  with_reducible repeat' (first
      | assumption | refine ok_ite ?_ ?_ | refine ok_ite_pair ?_ ?_ | refine modInst_ok ?_ | refine histAdd_ok ?_
      | refine keepCauses_ok ?_ | refine foldl_ok ?_ ?_ | intro _ | (refine ok_mk rfl rfl rfl rfl rfl rfl rfl ?_; assumption))

theorem guardCleared_ok (ok : Ok cs I s) : Ok cs I (guardCleared s) := ok

theorem armGuard_ok (ok : Ok cs I s) : Ok cs I (armGuard s) := by
  unfold armGuard
  with_reducible repeat' (first
      | assumption | refine ok_ite ?_ ?_ | refine raiseAt_ok ?_ | refine foldl_ok ?_ ?_ | refine onPods_ok ?_ ?_ | intro _
      | (refine ok_mk rfl rfl rfl rfl rfl rfl rfl ?_; assumption))

theorem ackAllInsts_ok (ok : Ok cs I s) : Ok cs I (ackAllInsts s) := by
  unfold ackAllInsts
  with_reducible repeat' (first
      | assumption | refine ok_ite ?_ ?_ | refine ackInst_ok ?_ | refine foldl_ok ?_ ?_ | refine onPods_ok ?_ ?_ | intro _)

theorem guardCommand_ok {code arg : Nat} (ok : Ok cs I s) : Ok cs I (guardCommand code arg s).2 := by
  have put (n : Nat) {t : State} (h : Ok cs I t) : Ok cs I { t with guard := { t.guard with command := commandWord code arg n } } := h
  unfold guardCommand
  dsimp only
  refine ok_ite_pair (put 2 (ackAllInsts_ok ok)) ?_
  split
  · exact ok_ite_pair ok (put 2 (ackInst_ok ok))
  · exact ok

end Sys2Proof.Laws
end

