-- ==== Sys2Proof/Laws/KeepsHub.lean ====
section
/-! SUPPORT. What every step keeps (II): commits, the Shell, the governor, the clocks and the boot and reset sequences. -/

namespace Sys2Proof.Laws

open Sys2Proof.Machine

variable {cs : List Instr} {I : Prop} {s : State}

theorem clearStripData_ok (ok : Ok cs I s) : Ok cs I (clearStripData s) := by
  unfold clearStripData
  with_reducible repeat' (first
      | assumption | refine ok_ite ?_ ?_ | refine setDev_ok ?_ | refine foldl_ok ?_ ?_ | refine onPods_ok ?_ ?_ | intro _)

theorem laneDone_ok {p : Nat} (ok : Ok cs I s) : Ok cs I (laneDone p s) := ok

theorem laneFell_ok {p : Nat} (ok : Ok cs I s) : Ok cs I (laneFell p s) := ok

theorem cacheAfter_ok {p : Nat} (ok : Ok cs I s) : Ok cs I (cacheAfter p s) := by
  unfold cacheAfter
  with_reducible repeat' (first
      | assumption | refine ok_ite ?_ ?_ | (refine ok_mk rfl rfl rfl rfl rfl rfl rfl ?_; assumption))

theorem transferAll_ok {absent : List Nat} (ok : Ok cs I s) : Ok cs I (transferAll absent s) := by
  unfold transferAll
  with_reducible repeat' (first
      | assumption | refine ok_ite ?_ ?_ | refine modPod_ok ?_ | refine laneDone_ok ?_ | refine cacheAfter_ok ?_
      | refine foldl_ok ?_ ?_ | refine onPods_ok ?_ ?_ | intro _)

theorem laneTimeout_ok {p : Nat} (ok : Ok cs I s) : Ok cs I (laneTimeout p s) := by
  unfold laneTimeout
  with_reducible repeat' (first
      | assumption | refine ok_ite ?_ ?_ | refine modPod_ok ?_ | refine hubCount_ok ?_ | refine raisePod_ok ?_)

theorem laneTimeouts_ok {ps : List Nat} (ok : Ok cs I s) : Ok cs I (laneTimeouts ps s) := by
  unfold laneTimeouts
  with_reducible repeat' (first
      | assumption | refine ok_ite ?_ ?_ | refine laneTimeout_ok ?_ | refine foldl_ok ?_ ?_ | refine onPods_ok ?_ ?_ | intro _)

theorem startOsc_ok {k : Nat} (ok : Ok cs I s) : Ok cs I (startOsc k s) := by
  unfold startOsc
  with_reducible repeat' (first
      | assumption | refine ok_ite ?_ ?_ | refine setOsc_ok ?_)

theorem traceStore_ok {phase slot reasons outcome : Nat} (ok : Ok cs I s) : Ok cs I (traceStore phase slot reasons outcome s) := by
  unfold traceStore
  with_reducible repeat' (first
      | assumption | refine ok_ite ?_ ?_ | refine traceAdd_ok ?_)

theorem closeSeals_ok {good : Bool} (ok : Ok cs I s) : Ok cs I (closeSeals good s) := by
  unfold closeSeals
  with_reducible repeat' (first
      | assumption | refine ok_ite ?_ ?_ | refine modPod_ok ?_ | refine podComplete_ok ?_ | refine foldl_ok ?_ ?_
      | refine onPods_ok ?_ ?_ | intro _)

theorem storeTriggers_ok {reasons outcome : Nat} (ok : Ok cs I s) : Ok cs I (storeTriggers reasons outcome s) := by
  unfold storeTriggers
  with_reducible repeat' (first
      | assumption | refine ok_ite ?_ ?_ | refine closeSeals_ok ?_ | (refine ok_mk rfl rfl rfl rfl rfl rfl rfl ?_; assumption))

theorem storeEnds_ok {r : StoreRun} {outcome : Nat} (ok : Ok cs I s) : Ok cs I (storeEnds r outcome s) := by
  unfold storeEnds
  with_reducible repeat' (first
      | assumption | refine ok_ite ?_ ?_ | refine hubCount_ok ?_ | refine logAdd_ok ?_ | refine setOsc_ok ?_
      | refine raise_ok ?_ | refine traceStore_ok ?_ | refine storeTriggers_ok ?_
      | (refine ok_mk rfl rfl rfl rfl rfl rfl rfl ?_; assumption) | refine ok_mk rfl rfl rfl rfl rfl rfl rfl ?_)

theorem startStoreOn_ok {slot : Option Nat} {reasons : Nat} {repeated : Bool} {started : Tick} (ok : Ok cs I s) :
    Ok cs I (startStoreOn slot reasons repeated started s) := by
  unfold startStoreOn
  with_reducible repeat' (first
      | assumption | refine ok_ite ?_ ?_ | refine hubCount_ok ?_ | refine startOsc_ok ?_ | refine traceStore_ok ?_
      | refine storeEnds_ok ?_ | split | (refine ok_mk rfl rfl rfl rfl rfl rfl rfl ?_; assumption))

theorem requestStore_ok {reason : Nat} (ok : Ok cs I s) : Ok cs I (requestStore reason s) := by
  unfold requestStore
  with_reducible repeat' (first
      | assumption | refine ok_ite ?_ ?_ | refine startStoreOn_ok ?_
      | (refine ok_mk rfl rfl rfl rfl rfl rfl rfl ?_; assumption))

theorem startPending_ok (ok : Ok cs I s) : Ok cs I (startPending s) := by
  unfold startPending
  with_reducible repeat' (first
      | assumption | refine ok_ite ?_ ?_ | refine startStoreOn_ok ?_
      | (refine ok_mk rfl rfl rfl rfl rfl rfl rfl ?_; assumption))

theorem abortStore_ok (ok : Ok cs I s) : Ok cs I (abortStore s) := by
  unfold abortStore
  split
  · exact ok
  · exact ok_mk rfl rfl rfl rfl rfl rfl rfl (storeEnds_ok (ok_mk rfl rfl rfl rfl rfl rfl rfl ok))

theorem captureEnds_ok {absent : List Nat} (ok : Ok cs I s) : Ok cs I (captureEnds absent s) := by
  unfold captureEnds
  lift_lets
  repeat (first | (intro x; have hx : Ok cs I x := (by
    with_reducible repeat' (first
      | assumption | refine ok_ite ?_ ?_ | refine transferAll_ok ?_ | refine laneTimeouts_ok ?_)); clear_value x) | intro x)
  with_reducible repeat' (first
      | assumption | refine ok_ite ?_ ?_ | refine transferAll_ok ?_ | refine laneTimeouts_ok ?_ | refine traceStore_ok ?_
      | refine foldl_ok ?_ ?_ | refine onPods_ok ?_ ?_ | intro _ | split
      | (refine ok_mk rfl rfl rfl rfl rfl rfl rfl ?_; assumption))

theorem programEnds_ok (ok : Ok cs I s) : Ok cs I (programEnds s) := by
  unfold programEnds
  with_reducible repeat' (first
      | assumption | refine ok_ite ?_ ?_ | refine raise_ok ?_ | refine traceStore_ok ?_ | refine foldl_ok ?_ ?_
      | refine onPods_ok ?_ ?_ | intro _ | split | (refine ok_mk rfl rfl rfl rfl rfl rfl rfl ?_; assumption))

theorem liveFaults_ok (ok : Ok cs I s) : Ok cs I (liveFaults s) := by
  unfold liveFaults
  with_reducible repeat' (first
      | assumption | refine ok_ite ?_ ?_ | refine raise_ok ?_)

theorem retireSlot_ok {k : Nat} (ok : Ok cs I s) : Ok cs I (retireSlot k s) := by
  unfold retireSlot
  with_reducible repeat' (first
      | assumption | refine ok_ite ?_ ?_ | refine logAdd_ok ?_ | refine raise_ok ?_ | refine liveFaults_ok ?_
      | (refine ok_mk rfl rfl rfl rfl rfl rfl rfl ?_; assumption))

theorem verifyEnds_ok {good : Bool} (ok : Ok cs I s) : Ok cs I (verifyEnds good s) := by
  unfold verifyEnds
  split
  · lift_lets
    intro s1
    have h1 : Ok cs I s1 := retireSlot_ok ok
    clear_value s1
    with_reducible repeat' (first
      | assumption | refine ok_ite ?_ ?_ | refine storeEnds_ok ?_ | refine startStoreOn_ok ?_
      | (refine ok_mk rfl rfl rfl rfl rfl rfl rfl ?_; assumption))
  · exact ok

theorem writeSnapshot_ok {trig : Nat} (ok : Ok cs I s) : Ok cs I (writeSnapshot trig s) := by
  unfold writeSnapshot
  lift_lets
  repeat (first | (intro x; have hx : Ok cs I x := (by
    with_reducible repeat' (first
      | assumption | refine ok_ite ?_ ?_ | refine logAdd_ok ?_ | refine transferAll_ok ?_
      | (refine ok_mk rfl rfl rfl rfl rfl rfl rfl ?_; assumption))); clear_value x) | intro x)
  with_reducible repeat' (first
      | assumption | refine ok_ite ?_ ?_ | refine logAdd_ok ?_)

theorem appendLog_ok (ok : Ok cs I s) : Ok cs I (appendLog s) := by
  unfold appendLog
  split
  · exact ok
  · rename_i r rest hq
    refine ok_ite ok (hubCount_ok (ok_any ok rfl ?_))
    rintro ⟨a, b, c, d⟩
    refine ⟨a, b, ?_, d⟩
    rw [hq, List.length_cons] at c
    dsimp only
    omega

theorem closeSeal_ok {p cause session : Nat} {byCommand : Bool} (ok : Ok cs I s) :
    Ok cs I (closeSeal p cause session byCommand s) := by
  unfold closeSeal
  with_reducible repeat' (first
      | assumption | refine ok_ite ?_ ?_ | refine modPod_ok ?_ | refine hubCount_ok ?_ | refine requestStore_ok ?_
      | (refine ok_mk rfl rfl rfl rfl rfl rfl rfl ?_; assumption))

theorem releaseWakes_ok (ok : Ok cs I s) : Ok cs I (releaseWakes s) := by
  unfold releaseWakes
  with_reducible repeat' (first
      | assumption | refine ok_ite ?_ ?_ | intro _ | (refine ok_mk rfl rfl rfl rfl rfl rfl rfl ?_; assumption))

theorem walkPod_ok {w : Walk × State} {p : Nat} (ok : Ok cs I w.2) : Ok cs I (walkPod w p).2 := by
  unfold walkPod
  lift_lets
  repeat (first | (intro x; have hx : Ok cs I x := (by
    with_reducible repeat' (first
      | assumption)); clear_value x) | intro x)
  with_reducible repeat' (first
      | assumption | refine ok_ite ?_ ?_ | refine modPod_ok ?_ | refine foldl_ok ?_ ?_ | refine onPods_ok ?_ ?_ | intro _
      | split)

theorem walkList_ok {l : List Nat} {w : Walk × State} (ok : Ok cs I w.2) : Ok cs I (l.foldl walkPod w).2 := by
  induction l generalizing w with
  | nil => exact ok
  | cons x xs ih => exact ih (walkPod_ok ok)

theorem evaluate_ok (ok : Ok cs I s) : Ok cs I (evaluate s) := by
  unfold evaluate
  lift_lets
  intro restart t strip grant _ _ s0
  have h0 : Ok cs I s0 := ok
  clear_value s0
  intro running start
  have h1 : Ok cs I ((byRank s0).foldl walkPod (start, s0)).2 := walkList_ok h0
  generalize (byRank s0).foldl walkPod (start, s0) = p at h1 ⊢
  obtain ⟨w, s1⟩ := p
  replace h1 : Ok cs I s1 := h1
  lift_lets
  repeat intro x
  with_reducible repeat' (first
      | assumption | refine ok_ite ?_ ?_ | refine logAdd_ok ?_ | refine traceAdd_ok ?_ | refine hubCount_ok ?_
      | refine raise_ok ?_ | refine releaseWakes_ok ?_ | (refine ok_mk rfl rfl rfl rfl rfl rfl rfl ?_; assumption))
  all_goals exact ok_mk rfl rfl rfl rfl rfl rfl rfl (ok_mk rfl rfl rfl rfl rfl rfl rfl h1)

theorem railReturns_ok {k : Nat} (ok : Ok cs I s) : Ok cs I (railReturns k s) := by
  unfold railReturns
  with_reducible repeat' (first
      | assumption | refine ok_ite ?_ ?_ | refine displayWatch_ok ?_ | refine clearCause_ok ?_ | intro _
      | (refine ok_mk rfl rfl rfl rfl rfl rfl rfl ?_; assumption))

theorem stopOsc_ok {k : Nat} (ok : Ok cs I s) : Ok cs I (stopOsc k s) := by
  unfold stopOsc
  with_reducible repeat' (first
      | assumption | refine ok_ite ?_ ?_ | refine setOsc_ok ?_)

theorem restartOsc_ok {k : Nat} (ok : Ok cs I s) : Ok cs I (restartOsc k s) := by
  unfold restartOsc
  with_reducible repeat' (first
      | assumption | refine ok_ite ?_ ?_ | refine setOsc_ok ?_ | (refine ok_mk rfl rfl rfl rfl rfl rfl rfl ?_; assumption))

theorem failOsc_ok {k cause : Nat} (ok : Ok cs I s) : Ok cs I (failOsc k cause s) := setOsc_ok ok

theorem noteFailed_ok {k : Nat} (ok : Ok cs I s) : Ok cs I (noteFailed k s) := by
  unfold noteFailed
  exact ok_ite (ok_mk rfl rfl rfl rfl rfl rfl rfl ok) ok

theorem noteRescued_ok {k : Nat} (ok : Ok cs I s) : Ok cs I (noteRescued k s) := by
  unfold noteRescued
  exact ok_ite (ok_mk rfl rfl rfl rfl rfl rfl rfl ok) ok

theorem timeGap_ok {kind : Nat} {before after : Tick} {uncertainty : Nat} (ok : Ok cs I s) :
    Ok cs I (timeGap kind before after uncertainty s) := by
  unfold timeGap
  with_reducible repeat' (first
      | assumption | refine ok_ite ?_ ?_ | refine logAdd_ok ?_ | (refine ok_mk rfl rfl rfl rfl rfl rfl rfl ?_; assumption))

theorem resolveGaps_ok {o : Int} (ok : Ok cs I s) : Ok cs I (resolveGaps o s) := by
  unfold resolveGaps
  with_reducible repeat' (first
      | assumption | refine ok_ite ?_ ?_ | refine closeGap_ok ?_ | refine foldl_ok ?_ ?_ | refine onPods_ok ?_ ?_ | intro _
      | (refine ok_mk rfl rfl rfl rfl rfl rfl rfl ?_; assumption))

theorem stepStamp_ok {o : Int} (ok : Ok cs I s) : Ok cs I (stepStamp o s) := by
  unfold stepStamp
  with_reducible repeat' (first
      | assumption | refine ok_ite ?_ ?_ | refine hubCount_ok ?_ | refine raise_ok ?_ | refine timeGap_ok ?_
      | refine resolveGaps_ok ?_ | (refine ok_mk rfl rfl rfl rfl rfl rfl rfl ?_; assumption))

theorem moveFrac_ok {steps : Int} (ok : Ok cs I s) : Ok cs I (moveFrac steps s) := ok

theorem spineUnlock_ok (ok : Ok cs I s) : Ok cs I (spineUnlock s) := ok

theorem spineStart_ok {hfrc : Bool} (ok : Ok cs I s) : Ok cs I (spineStart hfrc s) := by
  unfold spineStart
  lift_lets
  repeat (first | (intro x; have hx : Ok cs I x := (by
    with_reducible repeat' (first
      | assumption | refine ok_ite ?_ ?_ | refine spineUnlock_ok ?_)); clear_value x) | intro x)
  with_reducible repeat' (first
      | assumption | refine ok_ite ?_ ?_ | refine spineUnlock_ok ?_
      | (refine ok_mk rfl rfl rfl rfl rfl rfl rfl ?_; assumption))

theorem spineLock_ok (ok : Ok cs I s) : Ok cs I (spineLock s) := by
  unfold spineLock
  lift_lets
  repeat (first | (intro x; have hx : Ok cs I x := (by
    with_reducible repeat' (first
      | assumption | refine ok_ite ?_ ?_ | refine syncPulses_ok ?_ | refine timeGap_ok ?_ | refine foldl_ok ?_ ?_
      | refine onPods_ok ?_ ?_ | intro _ | split | (refine ok_mk rfl rfl rfl rfl rfl rfl rfl ?_; assumption))); clear_value x) | intro x)
  with_reducible repeat' (first
      | assumption | refine ok_ite ?_ ?_ | refine syncPulses_ok ?_ | refine timeGap_ok ?_ | refine foldl_ok ?_ ?_
      | refine onPods_ok ?_ ?_ | intro _ | split)

theorem removeSlew_ok (ok : Ok cs I s) : Ok cs I (removeSlew s) := ok

theorem acceptTime_ok {offset : Int} (ok : Ok cs I s) : Ok cs I (acceptTime offset s) := by
  unfold acceptTime
  lift_lets
  repeat (first | (intro x; have hx : Ok cs I x := (by
    with_reducible repeat' (first
      | assumption | refine ok_ite ?_ ?_ | refine stepStamp_ok ?_ | refine moveFrac_ok ?_ | refine removeSlew_ok ?_
      | (refine ok_mk rfl rfl rfl rfl rfl rfl rfl ?_; assumption))); clear_value x) | intro x)
  with_reducible repeat' (first
      | assumption | refine ok_ite ?_ ?_ | refine stepStamp_ok ?_ | refine moveFrac_ok ?_ | refine removeSlew_ok ?_
      | (refine ok_mk rfl rfl rfl rfl rfl rfl rfl ?_; assumption))

theorem followCore_ok {k cause : Nat} (ok : Ok cs I s) : Ok cs I (followCore k cause s) := by
  unfold followCore
  lift_lets
  repeat (first | (intro x; have hx : Ok cs I x := (by
    with_reducible repeat' (first
      | assumption | refine ok_ite ?_ ?_ | refine setMux_ok ?_ | (refine ok_mk rfl rfl rfl rfl rfl rfl rfl ?_; assumption))); clear_value x) | intro x)
  with_reducible repeat' (first
      | assumption | refine ok_ite ?_ ?_ | refine setMux_ok ?_)

theorem putMux_ok {k : Nat} {m : Mux} {cause : Nat} (ok : Ok cs I s) : Ok cs I (putMux k m cause s) := by
  unfold putMux
  with_reducible repeat' (first
      | assumption | refine ok_ite ?_ ?_ | refine setMux_ok ?_ | refine followCore_ok ?_)

theorem endClkCommand_ok {byCommand : Bool} {completion : Nat} (ok : Ok cs I s) :
    Ok cs I (endClkCommand byCommand completion s) := by
  unfold endClkCommand
  with_reducible repeat' (first
      | assumption | refine ok_ite ?_ ?_ | (refine ok_mk rfl rfl rfl rfl rfl rfl rfl ?_; assumption))

theorem noteHuskFreeze_ok (ok : Ok cs I s) : Ok cs I (noteHuskFreeze s) := ok

theorem huskFreeze_ok (ok : Ok cs I s) : Ok cs I (huskFreeze s) := by
  unfold huskFreeze
  with_reducible repeat' (first
      | assumption | refine ok_ite ?_ ?_ | refine noteHuskFreeze_ok ?_
      | (refine ok_mk rfl rfl rfl rfl rfl rfl rfl ?_; assumption))

theorem rescueMux_ok {k : Nat} {toAlternate : Bool} (ok : Ok cs I s) : Ok cs I (rescueMux k toAlternate s) := by
  unfold rescueMux
  with_reducible repeat' (first
      | assumption | refine ok_ite ?_ ?_ | refine hubCount_ok ?_ | refine startOsc_ok ?_ | refine noteRescued_ok ?_
      | refine spineUnlock_ok ?_ | refine putMux_ok ?_ | refine endClkCommand_ok ?_ | refine huskFreeze_ok ?_
      | (refine ok_mk rfl rfl rfl rfl rfl rfl rfl ?_; assumption))

theorem huskThaw_ok (ok : Ok cs I s) : Ok cs I (huskThaw s) := by
  unfold huskThaw
  lift_lets
  repeat (first | (intro x; have hx : Ok cs I x := (by
    with_reducible repeat' (first
      | assumption | refine ok_ite ?_ ?_ | refine raise_ok ?_ | refine timeGap_ok ?_
      | (refine ok_mk rfl rfl rfl rfl rfl rfl rfl ?_; assumption))); clear_value x) | intro x)
  with_reducible repeat' (first
      | assumption | refine ok_ite ?_ ?_ | refine raise_ok ?_ | refine timeGap_ok ?_
      | (refine ok_mk rfl rfl rfl rfl rfl rfl rfl ?_; assumption))

theorem settleMux_ok {k : Nat} {alternate : Bool} {cause : Nat} (ok : Ok cs I s) : Ok cs I (settleMux k alternate cause s) := by
  unfold settleMux
  lift_lets
  repeat (first | (intro x; have hx : Ok cs I x := (by
    with_reducible repeat' (first
      | assumption | refine ok_ite ?_ ?_ | refine spineStart_ok ?_ | refine putMux_ok ?_)); clear_value x) | intro x)
  with_reducible repeat' (first
      | assumption | refine ok_ite ?_ ?_ | refine spineStart_ok ?_ | refine putMux_ok ?_ | refine huskThaw_ok ?_
      | (refine ok_mk rfl rfl rfl rfl rfl rfl rfl ?_; assumption))

theorem waitQualified_ok {src : Nat} (ok : Ok cs I s) : Ok cs I (waitQualified src s) := by
  unfold waitQualified
  with_reducible repeat' (first
      | assumption | refine ok_ite ?_ ?_ | refine putMux_ok ?_ | refine foldl_ok ?_ ?_ | refine onPods_ok ?_ ?_ | intro _)

theorem beginSwitch_ok {k : Nat} {toAlternate byCommand : Bool} {cause : Nat} (ok : Ok cs I s) :
    Ok cs I (beginSwitch k toAlternate byCommand cause s) := by
  unfold beginSwitch
  with_reducible repeat' (first
      | assumption | refine ok_ite ?_ ?_ | refine putMux_ok ?_)

theorem phytxSet_ok {on : Bool} (ok : Ok cs I s) : Ok cs I (phytxSet on s) := by
  unfold phytxSet
  with_reducible repeat' (first
      | assumption | refine ok_ite ?_ ?_ | refine linkCause_ok ?_ | refine raise_ok ?_
      | (refine ok_mk rfl rfl rfl rfl rfl rfl rfl ?_; assumption))

theorem rescueOff_ok {k : Nat} {failedAlternate : Bool} (ok : Ok cs I s) : Ok cs I (rescueOff k failedAlternate s) := by
  unfold rescueOff
  with_reducible repeat' (first
      | assumption | refine ok_ite ?_ ?_ | refine rescueMux_ok ?_)

theorem rescueHung_ok {k : Nat} {b : Bool} (ok : Ok cs I s) : Ok cs I (rescueHung k b s) := by
  unfold rescueHung
  exact ok_ite (rescueOff_ok ok) ok

theorem completeIf_ok {p code completion : Nat} (ok : Ok cs I s) : Ok cs I (completeIf p code completion s) := by
  unfold completeIf
  with_reducible repeat' (first
      | assumption | refine ok_ite ?_ ?_ | refine podComplete_ok ?_)

theorem podMonitorTrip_ok {p : Nat} {e : Evidence} (ok : Ok cs I s) : Ok cs I (podMonitorTrip p e s) := by
  unfold podMonitorTrip
  with_reducible repeat' (first
      | assumption | refine ok_ite ?_ ?_ | refine modPod_ok ?_ | refine hubCount_ok ?_ | refine setPodMux_ok ?_
      | refine raise_ok ?_ | refine raisePod_ok ?_ | refine noteRescued_ok ?_ | refine completeIf_ok ?_ | intro _
      | (refine ok_mk rfl rfl rfl rfl rfl rfl rfl ?_; assumption))

theorem coreLoss_ok {source detail : Nat} (ok : Ok cs I s) : Ok cs I (coreLoss source detail s) := by
  unfold coreLoss
  lift_lets
  repeat (first | (intro x; have hx : Ok cs I x := (by
    with_reducible repeat' (first
      | assumption | refine ok_ite ?_ ?_ | refine raise_ok ?_ | refine rescueOff_ok ?_)); clear_value x) | intro x)
  with_reducible repeat' (first
      | assumption | refine ok_ite ?_ ?_ | refine raise_ok ?_ | refine rescueOff_ok ?_
      | (refine ok_mk rfl rfl rfl rfl rfl rfl rfl ?_; assumption))

theorem monitorTrip_ok {m : Monitor} {e : Evidence} (ok : Ok cs I s) : Ok cs I (monitorTrip m e s) := by
  unfold monitorTrip
  lift_lets
  intro g osc
  have h1 (k src : Nat) (f : State → State) (hf : ∀ s, Ok cs I s → Ok cs I (f s)) : Ok cs I (osc k src f) :=
    ok_ite (hf _ (noteFailed_ok (raise_ok (failOsc_ok ok)))) ok
  clear_value osc
  split
  · exact h1 _ _ _ fun s h => rescueOff_ok h
  · exact ok_ite (h1 _ _ _ fun s h => rescueOff_ok h) ok
  · refine h1 _ _ _ fun s h => ?_
    dsimp only
    exact ok_ite (phytxSet_ok (ok_mk rfl rfl rfl rfl rfl rfl rfl (rescueOff_ok (rescueOff_ok h))))
      (ok_mk rfl rfl rfl rfl rfl rfl rfl (rescueOff_ok (rescueOff_ok h)))
  · exact h1 _ _ _ fun s h => rescueHung_ok (rescueHung_ok h)
  · exact h1 _ _ _ fun s h => h
  · exact ok_ite (spineUnlock_ok ok) ok
  · exact ok_ite (coreLoss_ok ok) ok
  · exact ok_ite (coreLoss_ok ok) ok
  · exact podMonitorTrip_ok ok

theorem afterQualified_ok {src : Nat} {wasFailed : Bool} (ok : Ok cs I s) : Ok cs I (afterQualified src wasFailed s) := by
  unfold afterQualified
  with_reducible repeat' (first
      | assumption | refine ok_ite ?_ ?_ | refine settleMux_ok ?_ | refine waitQualified_ok ?_ | refine beginSwitch_ok ?_
      | refine phytxSet_ok ?_)

theorem rescueReleased_ok {mux : MuxName} (ok : Ok cs I s) : Ok cs I (rescueReleased mux s) := by
  unfold rescueReleased
  with_reducible repeat' (first
      | assumption | refine ok_ite ?_ ?_ | refine setPodMux_ok ?_ | refine settleMux_ok ?_ | refine foldl_ok ?_ ?_
      | refine onPods_ok ?_ ?_ | intro _ | split)

theorem clkCommand_ok {code arg : Nat} (ok : Ok cs I s) : Ok cs I (clkCommand code arg s).2 := by
  unfold clkCommand
  with_reducible repeat' (first
      | assumption | refine ok_ite ?_ ?_ | refine ok_ite_pair ?_ ?_ | intro _
      | (refine ok_mk rfl rfl rfl rfl rfl rfl rfl ?_; assumption) | refine ok_mk rfl rfl rfl rfl rfl rfl rfl ?_)

theorem podSwitched_ok {p : Nat} (ok : Ok cs I s) : Ok cs I (podSwitched p s) := by
  unfold podSwitched
  with_reducible repeat' (first
      | assumption | refine ok_ite ?_ ?_ | refine modPod_ok ?_ | refine setPodMux_ok ?_ | refine completeIf_ok ?_ | intro _
      | (refine ok_mk rfl rfl rfl rfl rfl rfl rfl ?_; assumption))

theorem switchCompletes_ok {mux : MuxName} (ok : Ok cs I s) : Ok cs I (switchCompletes mux s) := by
  unfold switchCompletes
  with_reducible repeat' (first
      | assumption | refine ok_ite ?_ ?_ | refine endClkCommand_ok ?_ | refine settleMux_ok ?_ | refine podSwitched_ok ?_
      | split | (refine ok_mk rfl rfl rfl rfl rfl rfl rfl ?_; assumption) | refine ok_snd (by assumption) ?_
      | refine ok_mk rfl rfl rfl rfl rfl rfl rfl ?_)

theorem lfxoSet_ok {on : Bool} (ok : Ok cs I s) : Ok cs I (lfxoSet on s) := by
  unfold lfxoSet
  with_reducible repeat' (first
      | assumption | refine ok_ite ?_ ?_ | refine startOsc_ok ?_ | refine stopOsc_ok ?_ | refine putMux_ok ?_
      | refine huskFreeze_ok ?_ | (refine ok_mk rfl rfl rfl rfl rfl rfl rfl ?_; assumption))

theorem sourceNodeSet_ok {node : Nat} (ok : Ok cs I s) : Ok cs I (sourceNodeSet node s) := by
  unfold sourceNodeSet
  with_reducible repeat' (first
      | assumption | refine ok_ite ?_ ?_ | (refine ok_mk rfl rfl rfl rfl rfl rfl rfl ?_; assumption))

theorem startSources_ok (ok : Ok cs I s) : Ok cs I (startSources s) := by
  unfold startSources
  with_reducible repeat' (first
      | assumption | refine ok_ite ?_ ?_ | refine startOsc_ok ?_ | refine restartOsc_ok ?_ | refine foldl_ok ?_ ?_ | intro _)

theorem sinceBoot_ok (ok : Ok cs I s) : Ok cs I (sinceBoot s) := by
  refine ok_any ok rfl ?_
  rintro ⟨a, b, c, d, e, f⟩
  exact ⟨a, b, c, d, e, f⟩

theorem bootStart_ok {straps : Straps} (ok : Ok cs I s) : Ok cs I (bootStart straps s) := by
  unfold bootStart
  refine startSources_ok (sinceBoot_ok (ok_any ok rfl ?_))
  rintro ⟨a, b⟩
  exact ⟨rfl, b⟩

theorem clearEngine_ok (ok : Ok cs I s) : Ok cs I (clearEngine s) := by
  refine ok_any ok rfl ?_
  rintro ⟨a, b, c, d, e, f⟩
  exact ⟨a, b, c, Nat.zero_le _, Nat.zero_le _, f⟩

theorem backstopHistory_ok (ok : Ok cs I s) : Ok cs I (backstopHistory s) := by
  unfold backstopHistory
  split
  · refine ok_any ok rfl ?_
    rintro ⟨a, b, c, d, e, f⟩
    exact ⟨a, b, c, d, e, List.length_take_le _ _⟩
  · exact ok

theorem internalReset_ok {straps : Straps} (ok : Ok cs I s) : Ok cs I (internalReset straps s) := by
  unfold internalReset
  refine backstopHistory_ok (bootStart_ok (ok_any (guardCleared_ok (clearEngine_ok (syncPulses_ok ok))) rfl ?_))
  rintro ⟨a, b, c⟩
  exact ⟨a, Nat.zero_le _, c⟩

theorem resetRecord_ok {kind : ResetKind} (ok : Ok cs I s) : Ok cs I (resetRecord kind s) := by
  unfold resetRecord
  lift_lets
  repeat (first | (intro x; have hx : Ok cs I x := (by
    with_reducible repeat' (first
      | assumption | refine ok_ite ?_ ?_ | refine hubCount_ok ?_)); clear_value x) | intro x)
  with_reducible repeat' (first
      | assumption | refine ok_ite ?_ ?_ | refine hubCount_ok ?_ | refine logAdd_ok ?_
      | (refine ok_mk rfl rfl rfl rfl rfl rfl rfl ?_; assumption))

theorem startDischarges_ok (ok : Ok cs I s) : Ok cs I (startDischarges s) := by
  unfold startDischarges
  with_reducible repeat' (first
      | assumption | refine ok_ite ?_ ?_ | refine displayWatch_ok ?_ | refine stripDone_ok ?_
      | (refine ok_mk rfl rfl rfl rfl rfl rfl rfl ?_; assumption))

theorem engineStops_ok (ok : Ok cs I s) : Ok cs I (engineStops s) := by
  unfold engineStops
  with_reducible repeat' (first
      | assumption | refine ok_ite ?_ ?_ | refine setLink_ok ?_ | (refine ok_mk rfl rfl rfl rfl rfl rfl rfl ?_; assumption))

theorem beginReset_ok {kind : ResetKind} (ok : Ok cs I s) : Ok cs I (beginReset kind s) := by
  unfold beginReset
  lift_lets
  repeat (first | (intro x; have hx : Ok cs I x := (by
    with_reducible repeat' (first
      | assumption | refine ok_ite ?_ ?_ | refine freezePods_ok ?_ | refine runTimers_ok ?_ | refine chipResetExits_ok ?_
      | refine startStoreOn_ok ?_ | refine abortStore_ok ?_ | refine resetRecord_ok ?_ | refine startDischarges_ok ?_
      | refine engineStops_ok ?_ | intro _ | (refine ok_mk rfl rfl rfl rfl rfl rfl rfl ?_; assumption)
      | refine ok_mk rfl rfl rfl rfl rfl rfl rfl ?_)); clear_value x) | intro x)
  with_reducible repeat' (first
      | assumption | refine ok_ite ?_ ?_ | refine freezePods_ok ?_ | refine runTimers_ok ?_ | refine chipResetExits_ok ?_
      | refine startStoreOn_ok ?_ | refine abortStore_ok ?_ | refine resetRecord_ok ?_ | refine startDischarges_ok ?_
      | refine engineStops_ok ?_ | intro _ | (refine ok_mk rfl rfl rfl rfl rfl rfl rfl ?_; assumption)
      | refine ok_mk rfl rfl rfl rfl rfl rfl rfl ?_)

theorem goUnpowered_ok (ok : Ok cs I s) : Ok cs I (goUnpowered s) := by
  unfold goUnpowered
  refine ok_any (syncPulses_ok ok) rfl ?_
  rintro ⟨a, b, c, d, e, f⟩
  exact ⟨a, b, Nat.zero_le _, Nat.zero_le _, Nat.zero_le _, f⟩

theorem powerOnReset_ok {straps : Straps} (ok : Ok cs I s) : Ok cs I (powerOnReset straps s) := by
  have fresh {t : State} (e : t.pending = s.pending) (b : Bounded t) : Ok cs I t := ok_any ok e (fun _ => b)
  unfold powerOnReset
  lift_lets
  intro z cls _ _ _ _ _ _ s1
  have h1 : Ok cs I s1 := fresh rfl ⟨rfl, Nat.zero_le _, Nat.zero_le _, Nat.zero_le _, Nat.zero_le _, Nat.zero_le _⟩
  clear_value s1 cls
  repeat (first | (intro x; have hx : Ok cs I x := (by
    with_reducible repeat' (first
      | assumption | refine ok_ite ?_ ?_ | refine bootStart_ok ?_ | refine resetRecord_ok ?_ | refine raise_ok ?_
      | (refine ok_mk rfl rfl rfl rfl rfl rfl rfl ?_; assumption))); clear_value x) | intro x)
  with_reducible repeat' (first
      | assumption | refine ok_ite ?_ ?_ | refine bootStart_ok ?_ | refine resetRecord_ok ?_ | refine raise_ok ?_)

theorem damageArray_ok {x : Damage} (ok : Ok cs I s) : Ok cs I (damageArray x s) := ok

/-- A frame buffer written anew is in its canonical form. -/
theorem buffer_wf (es : Store) : storeWf blackRow (storePutAll blackRow [] es) = true := by
  have fold (l : Store) (st : Store) (h : storeWf blackRow st = true) : storeWf blackRow (storePutAll blackRow st l) = true := by
    induction l generalizing st with
    | nil => exact h
    | cons e es ih => exact ih _ (storePut_wf h)
  exact fold es [] rfl

theorem recallRun_ok {x : Damage} (ok : Ok cs I s) : Ok cs I (recallRun x s) := by
  unfold recallRun
  lift_lets
  intro s1
  have h1 : Ok cs I s1 := damageArray_ok ok
  clear_value s1
  intro newest loaded blank outcome img n src fromBank bad failed off podsOff stamp0 _ _ _ _ s2
  have h2 : Ok cs I s2 := ok_any h1 rfl (fun b => ⟨buffer_wf _, b.2⟩)
  clear_value s2
  intro s3 s4 s5
  have h3 : Ok cs I s3 := ok_ite (timeGap_ok h2) h2
  have h4 : Ok cs I s4 := ok_ite (raise_ok h3) h3
  exact liveFaults_ok (ok_ite (lfxoSet_ok h4) h4)

theorem rebuildHold_ok (ok : Ok cs I s) : Ok cs I (rebuildHold s) := by
  unfold rebuildHold
  with_reducible repeat' (first
      | assumption | refine ok_ite ?_ ?_ | refine logAdd_ok ?_ | intro _ | split
      | (refine ok_mk rfl rfl rfl rfl rfl rfl rfl ?_; assumption))

theorem logScanRun_ok {damaged : List Nat} (ok : Ok cs I s) : Ok cs I (logScanRun damaged s) := by
  unfold logScanRun
  with_reducible repeat' (first
      | assumption | refine ok_ite ?_ ?_ | refine ok_ite_pair ?_ ?_ | refine closeGap_ok ?_ | refine rebuildHold_ok ?_
      | refine foldl_ok ?_ ?_ | intro _ | split | (refine ok_mk rfl rfl rfl rfl rfl rfl rfl ?_; assumption)
      | refine ok_snd (by assumption) ?_ | refine ok_mk rfl rfl rfl rfl rfl rfl rfl ?_)

theorem openGap_ok {p cause : Nat} (ok : Ok cs I s) : Ok cs I (openGap p cause s) := by
  unfold openGap
  with_reducible repeat' (first
      | assumption | refine ok_ite ?_ ?_ | refine logAdd_ok ?_ | refine closeGap_ok ?_
      | (refine ok_mk rfl rfl rfl rfl rfl rfl rfl ?_; assumption))

theorem restartPod_ok {p : Nat} (ok : Ok cs I s) : Ok cs I (restartPod p s) := by
  unfold restartPod
  lift_lets
  intro d stored defaults
  generalize s.shell.sources.getD p (0, 0, 0) = src
  obtain ⟨kind, seq, stamp⟩ := src
  simp -zeta only []
  lift_lets
  intro restart cause s0
  have h0 : Ok cs I s0 := openGap_ok ok
  clear_value s0
  intro s1
  have h1 : Ok cs I s1 := h0
  clear_value s1
  intro _ _ s2
  have h2 : Ok cs I s2 := cacheAfter_ok (ok_ite h1 h1)
  clear_value s2
  intro s3
  have h3 : Ok cs I s3 := ok_ite (logAdd_ok h2) h2
  clear_value s3
  intro t
  have hd : Ok cs I t := setMode_ok h3
  intro s4
  refine (fun h4 : Ok cs I s4 => ok_ite (closeSeal_ok (modPod_ok h4)) h4) ?_
  clear_value restart
  cases restart
  case waking => exact setMode_ok (modPod_ok h3)
  case doze => exact ok_ite (modPod_ok hd) (ok_ite (trigger_ok (modPod_ok hd)) hd)
  case fault => exact h3
  all_goals exact modPod_ok h3

theorem refreshCache_ok (ok : Ok cs I s) : Ok cs I (refreshCache s) := by
  unfold refreshCache
  with_reducible repeat' (first
      | assumption | refine ok_ite ?_ ?_ | (refine ok_mk rfl rfl rfl rfl rfl rfl rfl ?_; assumption))

theorem enterStandby_ok (ok : Ok cs I s) : Ok cs I (enterStandby s) := by
  unfold enterStandby
  lift_lets
  repeat (first | (intro x; have hx : Ok cs I x := (by
    with_reducible repeat' (first
      | assumption | refine ok_ite ?_ ?_ | refine syncPulses_ok ?_ | refine displayWatch_ok ?_ | refine setLink_ok ?_
      | refine runTimers_ok ?_ | refine stopOsc_ok ?_ | refine refreshCache_ok ?_
      | (refine ok_mk rfl rfl rfl rfl rfl rfl rfl ?_; assumption))); clear_value x) | intro x)
  with_reducible repeat' (first
      | assumption | refine ok_ite ?_ ?_ | refine syncPulses_ok ?_ | refine displayWatch_ok ?_ | refine setLink_ok ?_
      | refine runTimers_ok ?_ | refine stopOsc_ok ?_)

theorem standbyCheck_ok (ok : Ok cs I s) : Ok cs I (standbyCheck s) := by
  unfold standbyCheck
  with_reducible repeat' (first
      | assumption | refine ok_ite ?_ ?_ | refine enterStandby_ok ?_)

theorem leaveStandby_ok (ok : Ok cs I s) : Ok cs I (leaveStandby s) := by
  unfold leaveStandby
  with_reducible repeat' (first
      | assumption | refine ok_ite ?_ ?_ | refine setLink_ok ?_ | refine startOsc_ok ?_ | refine sinceBoot_ok ?_
      | (refine ok_mk rfl rfl rfl rfl rfl rfl rfl ?_; assumption))

end Sys2Proof.Laws
end

