-- ==== Sys2Proof/Laws/KeepsPods.lean ====
section
/-! SUPPORT. What every step keeps (III): power, the frames, wakes and faults of a Pod, and the panel. -/

namespace Sys2Proof.Laws

open Sys2Proof.Machine

variable {cs : List Instr} {I : Prop} {s : State}

theorem holdStep_ok {k : Nat} (ok : Ok cs I s) : Ok cs I (holdStep k s) := ok

theorem holdStepThree_ok (ok : Ok cs I s) : Ok cs I (holdStepThree s) := by
  unfold holdStepThree
  with_reducible repeat' (first
      | assumption | refine ok_ite ?_ ?_ | refine startStoreOn_ok ?_ | refine startDischarges_ok ?_ | refine holdStep_ok ?_)

theorem holdFrozen_ok (ok : Ok cs I s) : Ok cs I (holdFrozen s) := by
  unfold holdFrozen
  with_reducible repeat' (first
      | assumption | refine ok_ite ?_ ?_ | refine refreshCache_ok ?_ | refine holdStep_ok ?_ | refine holdStepThree_ok ?_)

theorem holdBegin_ok (ok : Ok cs I s) : Ok cs I (holdBegin s) := by
  unfold holdBegin
  with_reducible repeat' (first
      | assumption | refine ok_ite ?_ ?_ | refine freezePods_ok ?_ | refine holdFrozen_ok ?_
      | (refine ok_mk rfl rfl rfl rfl rfl rfl rfl ?_; assumption))

theorem enterHold_ok {mv : Nat} (ok : Ok cs I s) : Ok cs I (enterHold mv s) := by
  unfold enterHold
  with_reducible repeat' (first
      | assumption | refine ok_ite ?_ ?_ | refine logAdd_ok ?_ | refine displayWatch_ok ?_ | refine runTimers_ok ?_
      | refine raise_ok ?_ | refine startOsc_ok ?_ | refine abortStore_ok ?_ | refine holdBegin_ok ?_ | split
      | (refine ok_mk rfl rfl rfl rfl rfl rfl rfl ?_; assumption) | refine ok_snd (by assumption) ?_
      | refine ok_mk rfl rfl rfl rfl rfl rfl rfl ?_)

theorem resetFollows_ok {p : Nat} (ok : Ok cs I s) : Ok cs I (resetFollows p s) := by
  unfold resetFollows
  with_reducible repeat' (first
      | assumption | refine ok_ite ?_ ?_ | refine podComplete_ok ?_ | refine resetExit_ok ?_ | refine closeSeal_ok ?_)

theorem softReset_ok {p : Nat} (ok : Ok cs I s) : Ok cs I (softReset p s) := by
  unfold softReset
  with_reducible repeat' (first
      | assumption | refine ok_ite ?_ ?_ | refine modPod_ok ?_ | refine syncPulse_ok ?_ | refine endDoze_ok ?_
      | refine stopSampling_ok ?_ | refine resetFollows_ok ?_ | intro _)

theorem reloadPod_ok {p : Nat} (ok : Ok cs I s) : Ok cs I (reloadPod p s) := by
  unfold reloadPod
  with_reducible repeat' (first
      | assumption | refine ok_ite ?_ ?_ | refine modPod_ok ?_ | refine closeGap_ok ?_)

theorem hardReset_ok {p : Nat} (ok : Ok cs I s) : Ok cs I (hardReset p s) := by
  unfold hardReset
  with_reducible repeat' (first
      | assumption | refine ok_ite ?_ ?_ | refine modPod_ok ?_ | refine setMode_ok ?_ | refine syncPulse_ok ?_
      | refine endDoze_ok ?_ | refine resetFollows_ok ?_ | refine reloadPod_ok ?_ | intro _
      | (refine ok_mk rfl rfl rfl rfl rfl rfl rfl ?_; assumption))

theorem requestReset_ok {p : Nat} {laneAnswers : Bool} (ok : Ok cs I s) : Ok cs I (requestReset p laneAnswers s) := by
  unfold requestReset
  with_reducible repeat' (first
      | assumption | refine ok_ite ?_ ?_ | refine modPod_ok ?_ | refine laneTimeout_ok ?_ | refine softReset_ok ?_
      | refine hardReset_ok ?_ | intro _ | (refine ok_mk rfl rfl rfl rfl rfl rfl rfl ?_; assumption))

theorem firstPip_ok {p : Nat} (ok : Ok cs I s) : Ok cs I (firstPip p s) := by
  unfold firstPip
  with_reducible repeat' (first
      | assumption | refine ok_ite ?_ ?_ | refine endDoze_ok ?_ | intro _ | split
      | (refine ok_mk rfl rfl rfl rfl rfl rfl rfl ?_; assumption))

theorem commitAnswer_ok {p : Nat} {applied : Bool} (ok : Ok cs I s) : Ok cs I (commitAnswer p applied s) := ok

theorem applyAt_ok {p : Nat} {stamp : Tick} (ok : Ok cs I s) : Ok cs I (applyAt p stamp s) := by
  unfold applyAt
  lift_lets
  repeat (first | (intro x; have hx : Ok cs I x := (by
    with_reducible repeat' (first
      | assumption | refine ok_ite ?_ ?_ | refine modPod_ok ?_ | refine syncPulse_ok ?_)); clear_value x) | intro x)
  with_reducible repeat' (first
      | assumption | refine ok_ite ?_ ?_ | refine modPod_ok ?_ | refine syncPulse_ok ?_ | refine commitAnswer_ok ?_
      | refine foldl_ok ?_ ?_ | refine onPods_ok ?_ ?_ | intro _ | split)

theorem leanEntry_ok {p : Nat} (ok : Ok cs I s) : Ok cs I (leanEntry p s) := by
  unfold leanEntry
  with_reducible repeat' (first
      | assumption | refine ok_ite ?_ ?_ | refine modPod_ok ?_ | refine setMode_ok ?_)

theorem leanExit_ok {p : Nat} (ok : Ok cs I s) : Ok cs I (leanExit p s) := by
  unfold leanExit
  with_reducible repeat' (first
      | assumption | refine ok_ite ?_ ?_ | refine modPod_ok ?_ | refine setMode_ok ?_)

theorem idleEnds_ok {p : Nat} (ok : Ok cs I s) : Ok cs I (idleEnds p s) := by
  unfold idleEnds
  lift_lets
  repeat intro x
  with_reducible repeat' (first
      | assumption | refine ok_ite ?_ ?_ | refine modPod_ok ?_ | refine stopSampling_ok ?_ | refine foldl_ok ?_ ?_
      | refine onPods_ok ?_ ?_ | intro _ | split)

theorem muxAtBoundary_ok {p : Nat} (ok : Ok cs I s) : Ok cs I (muxAtBoundary p s) := by
  unfold muxAtBoundary
  with_reducible repeat' (first
      | assumption | refine ok_ite ?_ ?_ | refine modPod_ok ?_ | refine setPodMux_ok ?_ | refine completeIf_ok ?_)

theorem plansAt_ok {p : Nat} (ok : Ok cs I s) : Ok cs I (plansAt p s) := by
  unfold plansAt
  with_reducible repeat' (first
      | assumption | refine ok_ite ?_ ?_ | refine endDoze_ok ?_ | refine stopSampling_ok ?_ | refine freezeNow_ok ?_
      | refine completeIf_ok ?_ | refine softReset_ok ?_ | refine leanEntry_ok ?_ | refine leanExit_ok ?_
      | refine idleEnds_ok ?_ | refine muxAtBoundary_ok ?_)

theorem frameEnds_ok {p : Nat} {codes : List Int} {cm : Nat} (ok : Ok cs I s) : Ok cs I (frameEnds p codes cm s) := by
  unfold frameEnds
  with_reducible repeat' (first
      | assumption | refine ok_ite ?_ ?_ | refine ok_ite_pair ?_ ?_ | refine modPod_ok ?_ | refine latchMarker_ok ?_
      | refine firstPip_ok ?_ | intro _ | split | (refine ok_mk rfl rfl rfl rfl rfl rfl rfl ?_; assumption))

theorem boundaryActs_ok {p : Nat} (ok : Ok cs I s) : Ok cs I (boundaryActs p s) := by
  unfold boundaryActs
  with_reducible repeat' (first
      | assumption | refine ok_ite ?_ ?_ | refine modPod_ok ?_ | refine drainEvents_ok ?_ | refine releaseWakes_ok ?_
      | refine holdFrozen_ok ?_ | refine applyAt_ok ?_ | refine plansAt_ok ?_ | intro _)

theorem wakeCheck_ok {p : Nat} (ok : Ok cs I s) : Ok cs I (wakeCheck p s) := by
  unfold wakeCheck
  with_reducible repeat' (first
      | assumption | refine ok_ite ?_ ?_ | refine setMode_ok ?_)

theorem armPasses_ok {p : Nat} (ok : Ok cs I s) : Ok cs I (armPasses p s) := by
  unfold armPasses
  with_reducible repeat' (first
      | assumption | refine ok_ite ?_ ?_ | refine modPod_ok ?_ | refine setMode_ok ?_ | refine closeGap_ok ?_
      | refine completeIf_ok ?_ | refine foldl_ok ?_ ?_ | refine onPods_ok ?_ ?_ | intro _ | split)

theorem armFails_ok {p : Nat} (ok : Ok cs I s) : Ok cs I (armFails p s) := by
  unfold armFails
  with_reducible repeat' (first
      | assumption | refine ok_ite ?_ ?_ | refine modPod_ok ?_ | refine raisePod_ok ?_ | refine completeIf_ok ?_)

theorem tripLatched_ok {p : Nat} (ok : Ok cs I s) : Ok cs I (tripLatched p s) := by
  unfold tripLatched
  with_reducible repeat' (first
      | assumption | refine ok_ite ?_ ?_ | refine modPod_ok ?_ | refine trigger_ok ?_ | refine leaveStandby_ok ?_)

theorem latchTrip_ok {p : Nat} (ok : Ok cs I s) : Ok cs I (latchTrip p s) := by
  unfold latchTrip
  with_reducible repeat' (first
      | assumption | refine podCount_ok ?_ | refine tripLatched_ok ?_ | split)

theorem latchHeldTrips_ok (ok : Ok cs I s) : Ok cs I (latchHeldTrips s) := by
  unfold latchHeldTrips
  with_reducible repeat' (first
      | assumption | refine ok_ite ?_ ?_ | refine latchTrip_ok ?_ | refine modPod_ok ?_ | refine foldl_ok ?_ ?_ | intro _)

theorem noteCommand_ok {p code arg completion : Nat} (ok : Ok cs I s) : Ok cs I (noteCommand p code arg completion s) := ok

theorem podStart_ok {p : Nat} (ok : Ok cs I s) : Ok cs I (podStart p s).2 := by
  unfold podStart
  lift_lets
  repeat intro x
  with_reducible repeat' (first
      | assumption | refine ok_ite ?_ ?_ | refine modPod_ok ?_ | refine trigger_ok ?_ | refine noteCommand_ok ?_
      | refine foldl_ok ?_ ?_ | refine onPods_ok ?_ ?_ | intro _ | split)

theorem podStop_ok {p : Nat} (ok : Ok cs I s) : Ok cs I (podStop p s).2 := by
  unfold podStop
  with_reducible repeat' (first
      | assumption | refine ok_ite ?_ ?_ | refine ok_ite_pair ?_ ?_ | refine modPod_ok ?_ | refine setMode_ok ?_
      | refine endDoze_ok ?_ | refine noteCommand_ok ?_ | intro _ | (refine ok_mk rfl rfl rfl rfl rfl rfl rfl ?_; assumption))

theorem podDoze_ok {p : Nat} (ok : Ok cs I s) : Ok cs I (podDoze p s).2 := by
  unfold podDoze
  lift_lets
  repeat intro x
  with_reducible repeat' (first
      | assumption | refine ok_ite ?_ ?_ | refine modPod_ok ?_ | refine noteCommand_ok ?_ | refine foldl_ok ?_ ?_
      | refine onPods_ok ?_ ?_ | intro _ | split)

theorem podAckDormant_ok {p arg : Nat} (ok : Ok cs I s) : Ok cs I (podAckDormant p arg s).2 := by
  unfold podAckDormant
  lift_lets
  repeat intro x
  with_reducible repeat' (first
      | assumption | refine ok_ite ?_ ?_ | refine modPod_ok ?_ | refine noteCommand_ok ?_ | refine foldl_ok ?_ ?_
      | refine onPods_ok ?_ ?_ | intro _ | split)

theorem podClock_ok {p : Nat} {toRc : Bool} (ok : Ok cs I s) : Ok cs I (podClock p toRc s).2 := by
  unfold podClock
  lift_lets
  repeat intro x
  with_reducible repeat' (first
      | assumption | refine ok_ite ?_ ?_ | refine modPod_ok ?_ | refine noteCommand_ok ?_ | refine foldl_ok ?_ ?_
      | refine onPods_ok ?_ ?_ | intro _ | split)

theorem podResetCommand_ok {p : Nat} {laneAnswers : Bool} (ok : Ok cs I s) : Ok cs I (podResetCommand p laneAnswers s).2 := ok

theorem podSealOpen_ok {p session : Nat} (ok : Ok cs I s) : Ok cs I (podSealOpen p session s).2 := by
  unfold podSealOpen
  lift_lets
  repeat (first | (intro x; have hx : Ok cs I x := (by
    with_reducible repeat' (first
      | assumption | refine ok_ite ?_ ?_ | refine modPod_ok ?_)); clear_value x) | intro x)
  with_reducible repeat' (first
      | assumption | refine ok_ite ?_ ?_ | refine modPod_ok ?_ | refine logAdd_ok ?_ | refine noteCommand_ok ?_
      | refine foldl_ok ?_ ?_ | refine onPods_ok ?_ ?_ | intro _ | split)

theorem podSealClose_ok {p session : Nat} (ok : Ok cs I s) : Ok cs I (podSealClose p session s).2 := by
  unfold podSealClose
  lift_lets
  repeat intro x
  with_reducible repeat' (first
      | assumption | refine ok_ite ?_ ?_ | refine closeSeal_ok ?_ | refine noteCommand_ok ?_ | refine foldl_ok ?_ ?_
      | refine onPods_ok ?_ ?_ | intro _ | split)

theorem autoTick_ok (ok : Ok cs I s) : Ok cs I (autoTick s) := by
  have put (v stamp flags : Nat) {t : State} (h : Ok cs I t) :
    Ok cs I { t with panel := { t.panel with autoValue := v, autoStamp := stamp, autoFlags := flags } } := h
  unfold autoTick
  refine ok_ite ok ?_
  lift_lets
  intro mask n start moves p register s1
  have h1 : Ok cs I s1 := ok
  clear_value s1
  intro figure
  exact ok_ite h1 (ok_ite (ok_ite (ok_ite (put _ _ _ h1) (put _ _ _ (laneDone_ok (s := { s1 with panel := _ }) h1)))
    (ok_ite (put _ _ _ h1) (put _ _ _ h1))) (put _ _ _ h1))

theorem showMode_ok {m : Nat} (ok : Ok cs I s) : Ok cs I (showMode m s) := ok

theorem crackTest_ok {source : Nat} {fails : Bool} {run : Nat} {good : Nat} (ok : Ok cs I s) :
    Ok cs I (crackTest source fails run good s) := by
  unfold crackTest
  with_reducible repeat' (first
      | assumption | refine ok_ite ?_ ?_ | refine raise_ok ?_ | refine clearCause_ok ?_)

theorem displayReinit_ok (ok : Ok cs I s) : Ok cs I (displayReinit s) := by
  unfold displayReinit
  refine displayWatch_ok (resetExit_ok (clearStripData_ok (ok_any ok rfl ?_)))
  rintro ⟨a, b⟩
  exact ⟨rfl, b⟩

theorem displayResetRun_ok (ok : Ok cs I s) : Ok cs I (displayResetRun s) := by
  unfold displayResetRun
  with_reducible repeat' (first
      | assumption | refine ok_ite ?_ ?_ | refine displayWatch_ok ?_
      | (refine ok_mk rfl rfl rfl rfl rfl rfl rfl ?_; assumption))

theorem dischargesEnd_ok (ok : Ok cs I s) : Ok cs I (dischargesEnd s) := by
  unfold dischargesEnd
  with_reducible repeat' (first
      | assumption | refine ok_ite ?_ ?_ | refine displayWatch_ok ?_ | refine displayReinit_ok ?_)

end Sys2Proof.Laws
end

