-- ==== Sys2Proof/Laws/KeepsEngine.lean ====
section
/-! SUPPORT. What every step keeps (IV): items and the engine. -/

namespace Sys2Proof.Laws

open Sys2Proof.Machine

variable {cs : List Instr} {I : Prop} {s : State}

theorem answered_ok {st : Nat} (ok : Ok cs I s) : Ok cs I (answered st s).2 := ok

theorem gatedAccess_ok {who : Who} {index sub op : Nat} {x : Place} (ok : Ok cs I s) :
    Ok cs I (gatedAccess who index sub op x s) := by
  unfold gatedAccess
  with_reducible repeat' (first
      | assumption | refine ok_ite ?_ ?_ | refine traceAdd_ok ?_ | split
      | (refine ok_mk rfl rfl rfl rfl rfl rfl rfl ?_; assumption))

theorem laneLost_ok {x : Place} (ok : Ok cs I s) : Ok cs I (laneLost x s) := by
  unfold laneLost
  with_reducible repeat' (first
      | assumption | refine ok_ite ?_ ?_ | refine laneFell_ok ?_ | split
      | (refine ok_mk rfl rfl rfl rfl rfl rfl rfl ?_; assumption))

theorem laneOf_ok {x : Place} (ok : Ok cs I s) : Ok cs I (laneOf x s) := by
  unfold laneOf
  with_reducible repeat' (first
      | assumption | refine ok_ite ?_ ?_ | refine laneDone_ok ?_ | refine foldl_ok ?_ ?_ | refine onPods_ok ?_ ?_ | intro _
      | split)

theorem readItem_ok {who : Who} {staged : Bool} {index sub : Nat} (ok : Ok cs I s) :
    Ok cs I (readItem who staged index sub s).2 := by
  unfold readItem
  with_reducible repeat' (first
      | assumption | refine ok_ite ?_ ?_ | refine ok_ite_pair ?_ ?_ | refine answered_ok ?_ | refine gatedAccess_ok ?_
      | refine laneLost_ok ?_ | refine laneOf_ok ?_ | split | (refine ok_mk rfl rfl rfl rfl rfl rfl rfl ?_; assumption))

theorem stageDev_ok {k v : Nat} (ok : Ok cs I s) : Ok cs I (stageDev k v s) := ok

theorem hotPod_ok {p k v : Nat} (ok : Ok cs I s) : Ok cs I (hotPod p k v s) := by
  unfold hotPod
  with_reducible repeat' (first
      | assumption | refine ok_ite ?_ ?_ | refine modPod_ok ?_ | refine syncPulse_ok ?_)

theorem askGovernor_ok {code pod : Nat} (ok : Ok cs I s) : Ok cs I (askGovernor code pod s) := by
  unfold askGovernor
  with_reducible repeat' (first
      | assumption | refine ok_ite ?_ ?_ | refine trigger_ok ?_)

theorem gateWrite_ok {v : Nat} (ok : Ok cs I s) : Ok cs I (gateWrite v s) := by
  unfold gateWrite
  lift_lets
  repeat (first | (intro x; have hx : Ok cs I x := (by
    with_reducible repeat' (first
      | assumption | refine ok_ite ?_ ?_ | refine setDev_ok ?_)); clear_value x) | intro x)
  with_reducible repeat' (first
      | assumption | refine ok_ite ?_ ?_ | refine setDev_ok ?_ | refine displayWatch_ok ?_
      | (refine ok_mk rfl rfl rfl rfl rfl rfl rfl ?_; assumption))

theorem hotDevice_ok {index sub v : Nat} (ok : Ok cs I s) : Ok cs I (hotDevice index sub v s) := by
  have h : Ok cs I (setDev index sub v (if index = 0x2108 then sourceNodeSet v s else s)) :=
    setDev_ok (ok_ite (sourceNodeSet_ok ok) ok)
  unfold hotDevice
  refine ok_ite (gateWrite_ok ok) (ok_ite (ok_any ok rfl fun b => ⟨storePut_wf b.1, b.2⟩) ?_)
  exact ok_ite (askGovernor_ok (displayWatch_ok h)) (ok_ite (trigger_ok h) (ok_ite (trigger_ok h) (ok_ite (lfxoSet_ok h)
    (ok_ite (displayWatch_ok h) h))))

theorem keyPut_ok {index v : Nat} (ok : Ok cs I s) : Ok cs I (keyPut index v s) := by
  unfold keyPut
  with_reducible repeat' (first
      | assumption | refine ok_ite ?_ ?_ | (refine ok_mk rfl rfl rfl rfl rfl rfl rfl ?_; assumption))

theorem deviceWrite_ok {o : Obj} {sub v : Nat} (ok : Ok cs I s) : Ok cs I (deviceWrite o sub v s).2 := by
  unfold deviceWrite
  with_reducible repeat' (first
      | assumption | refine ok_ite ?_ ?_ | refine setDev_ok ?_ | refine answered_ok ?_ | refine stageDev_ok ?_
      | refine askGovernor_ok ?_ | refine hotDevice_ok ?_ | refine keyPut_ok ?_ | refine foldl_ok ?_ ?_
      | refine onPods_ok ?_ ?_ | intro _ | split)

theorem podWrite_ok {p : Nat} {o : Obj} {sub v : Nat} (ok : Ok cs I s) : Ok cs I (podWrite p o sub v s).2 := by
  unfold podWrite
  with_reducible repeat' (first
      | assumption | refine ok_ite ?_ ?_ | refine modPod_ok ?_ | refine answered_ok ?_ | refine hotPod_ok ?_
      | refine foldl_ok ?_ ?_ | refine onPods_ok ?_ ?_ | intro _ | split)

theorem chipCommand_ok {code arg completion : Nat} (ok : Ok cs I s) : Ok cs I (chipCommand code arg completion s) := ok

theorem standbyCommand_ok (ok : Ok cs I s) : Ok cs I (standbyCommand s).2 := by
  unfold standbyCommand
  with_reducible repeat' (first
      | assumption | refine ok_ite ?_ ?_ | refine chipCommand_ok ?_ | refine foldl_ok ?_ ?_ | refine onPods_ok ?_ ?_ | intro _
      | split | (refine ok_mk rfl rfl rfl rfl rfl rfl rfl ?_; assumption))

theorem defaultsWritten_ok (ok : Ok cs I s) : Ok cs I (defaultsWritten s) := by
  unfold defaultsWritten
  lift_lets
  repeat intro x
  have h : Ok cs I x := ok_any ok rfl fun b => ⟨rfl, b.2⟩
  exact displayWatch_ok (ok_ite (lfxoSet_ok h) h)

theorem restoreCommand_ok (ok : Ok cs I s) : Ok cs I (restoreCommand s).2 := by
  unfold restoreCommand
  with_reducible repeat' (first
      | assumption | refine ok_ite ?_ ?_ | refine logAdd_ok ?_ | refine requestStore_ok ?_ | refine chipCommand_ok ?_
      | refine defaultsWritten_ok ?_ | refine foldl_ok ?_ ?_ | refine onPods_ok ?_ ?_ | intro _ | split)

theorem discardDev_ok (ok : Ok cs I s) : Ok cs I (discardDev s) := ok

theorem discardStaged_ok {arg : Nat} (ok : Ok cs I s) : Ok cs I (discardStaged arg s).2 := by
  unfold discardStaged
  with_reducible repeat' (first
      | assumption | refine ok_ite ?_ ?_ | refine modPod_ok ?_ | refine chipCommand_ok ?_ | refine discardDev_ok ?_
      | refine foldl_ok ?_ ?_ | refine onPods_ok ?_ ?_ | intro _ | split
      | (refine ok_mk rfl rfl rfl rfl rfl rfl rfl ?_; assumption))

theorem storeCommand_ok {code arg : Nat} (ok : Ok cs I s) : Ok cs I (storeCommand code arg s).2 := by
  unfold storeCommand
  lift_lets
  repeat intro x
  with_reducible repeat' (first
      | assumption | refine ok_ite ?_ ?_ | refine requestStore_ok ?_ | refine foldl_ok ?_ ?_ | refine onPods_ok ?_ ?_
      | intro _ | split | (refine ok_mk rfl rfl rfl rfl rfl rfl rfl ?_; assumption))

theorem devCommand_ok {code arg : Nat} (ok : Ok cs I s) : Ok cs I (devCommand code arg s).2 := by
  unfold devCommand
  with_reducible repeat' (first
      | assumption | refine ok_ite ?_ ?_ | refine standbyCommand_ok ?_ | refine restoreCommand_ok ?_
      | refine discardStaged_ok ?_ | refine foldl_ok ?_ ?_ | refine onPods_ok ?_ ?_ | intro _ | split)

theorem podCommandRun_ok {who : Who} {p code arg : Nat} {laneAnswers : Bool} (ok : Ok cs I s) :
    Ok cs I (podCommandRun who p code arg laneAnswers s).2 := by
  unfold podCommandRun
  with_reducible repeat' (first
      | assumption | refine ok_ite ?_ ?_ | refine podStart_ok ?_ | refine podStop_ok ?_ | refine podDoze_ok ?_
      | refine podAckDormant_ok ?_ | refine podClock_ok ?_ | refine podResetCommand_ok ?_ | refine podSealOpen_ok ?_
      | refine podSealClose_ok ?_ | refine foldl_ok ?_ ?_ | refine onPods_ok ?_ ?_ | intro _ | split)

theorem commandWrite_ok {who : Who} {x : Place} {value : Nat} {laneAnswers : Bool} (ok : Ok cs I s) :
    Ok cs I (commandWrite who x value laneAnswers s).2 := by
  unfold commandWrite
  lift_lets
  repeat (first | (intro x; have hx : Ok cs I x := (by
    with_reducible repeat' (first
      | assumption | refine ok_ite ?_ ?_ | refine ok_ite_pair ?_ ?_ | refine guardCommand_ok ?_ | refine clkCommand_ok ?_
      | refine answered_ok ?_ | refine laneLost_ok ?_ | refine laneOf_ok ?_ | refine storeCommand_ok ?_
      | refine devCommand_ok ?_ | refine podCommandRun_ok ?_ | split | (refine ok_mk rfl rfl rfl rfl rfl rfl rfl ?_; assumption)
      | refine ok_snd (by assumption) ?_ | refine ok_mk rfl rfl rfl rfl rfl rfl rfl ?_)); clear_value x) | intro x)
  with_reducible repeat' (first
      | assumption | refine ok_ite ?_ ?_ | refine ok_ite_pair ?_ ?_ | refine guardCommand_ok ?_ | refine clkCommand_ok ?_
      | refine answered_ok ?_ | refine laneLost_ok ?_ | refine laneOf_ok ?_ | refine storeCommand_ok ?_
      | refine devCommand_ok ?_ | refine podCommandRun_ok ?_ | split | (refine ok_mk rfl rfl rfl rfl rfl rfl rfl ?_; assumption)
      | refine ok_snd (by assumption) ?_ | refine ok_mk rfl rfl rfl rfl rfl rfl rfl ?_)

theorem valueWrite_ok {x : Place} {t : Ty} {sub value : Nat} (ok : Ok cs I s) : Ok cs I (valueWrite x t sub value s).2 := by
  unfold valueWrite
  with_reducible repeat' (first
      | assumption | refine ok_ite ?_ ?_ | refine ok_ite_pair ?_ ?_ | refine answered_ok ?_ | refine laneLost_ok ?_
      | refine laneOf_ok ?_ | refine deviceWrite_ok ?_ | refine podWrite_ok ?_ | split
      | (refine ok_mk rfl rfl rfl rfl rfl rfl rfl ?_; assumption))

theorem writeItem_ok {who : Who} {laneAnswers : Bool} {index sub typeCode length value : Nat} (ok : Ok cs I s) :
    Ok cs I (writeItem who laneAnswers index sub typeCode length value s).2 := by
  unfold writeItem
  with_reducible repeat' (first
      | assumption | refine ok_ite ?_ ?_ | refine ok_ite_pair ?_ ?_ | refine answered_ok ?_ | refine gatedAccess_ok ?_
      | refine commandWrite_ok ?_ | refine valueWrite_ok ?_ | split | (refine ok_mk rfl rfl rfl rfl rfl rfl rfl ?_; assumption)
      | refine ok_snd (by assumption) ?_ | refine ok_mk rfl rfl rfl rfl rfl rfl rfl ?_)

theorem linkApplied_ok {node : Nat} {off : Bool} (ok : Ok cs I s) : Ok cs I (linkApplied node off s) := by
  unfold linkApplied
  with_reducible repeat' (first
      | assumption | refine ok_ite ?_ ?_ | refine setLink_ok ?_ | refine linkJoin_ok ?_ | refine clearCause_ok ?_)

theorem deviceApply_ok (ok : Ok cs I s) : Ok cs I (deviceApply s) := by
  unfold deviceApply
  with_reducible repeat' (first
      | assumption | refine ok_ite ?_ ?_ | refine linkApplied_ok ?_
      | (refine ok_mk rfl rfl rfl rfl rfl rfl rfl ?_; assumption))

theorem strobe_ok {p : Nat} (ok : Ok cs I s) : Ok cs I (strobe p s) := by
  unfold strobe
  with_reducible repeat' (first
      | assumption | refine ok_ite ?_ ?_ | refine modPod_ok ?_ | refine hubCount_ok ?_ | refine laneFell_ok ?_
      | refine commitAnswer_ok ?_ | refine applyAt_ok ?_ | intro _ | (refine ok_mk rfl rfl rfl rfl rfl rfl rfl ?_; assumption)
      | refine ok_mk rfl rfl rfl rfl rfl rfl rfl ?_)

theorem strobeMissed_ok {p : Nat} (ok : Ok cs I s) : Ok cs I (strobeMissed p s) := by
  unfold strobeMissed
  with_reducible repeat' (first
      | assumption | refine ok_ite ?_ ?_ | refine modPod_ok ?_ | refine laneTimeout_ok ?_ | refine commitAnswer_ok ?_)

theorem commitEnds_ok (ok : Ok cs I s) : Ok cs I (commitEnds s).2 := by
  unfold commitEnds
  split
  · exact ok
  · exact foldl_ok ok fun s p h => ok_ite (strobeMissed_ok h) h

theorem commitItem_ok {who : Who} {device : Bool} {pods : BitVec 64} (ok : Ok cs I s) :
    Ok cs I (commitItem who device pods s).2 := by
  unfold commitItem
  lift_lets
  repeat (first | (intro x; have hx : Ok cs I x := (by
    with_reducible repeat' (first
      | assumption | refine ok_ite ?_ ?_ | refine answered_ok ?_ | refine deviceApply_ok ?_ | refine strobe_ok ?_
      | refine commitEnds_ok ?_ | refine foldl_ok ?_ ?_ | refine onPods_ok ?_ ?_ | intro _ | split
      | (refine ok_mk rfl rfl rfl rfl rfl rfl rfl ?_; assumption))); clear_value x) | intro x)
  with_reducible repeat' (first
      | assumption | refine ok_ite ?_ ?_ | refine answered_ok ?_ | refine deviceApply_ok ?_ | refine strobe_ok ?_
      | refine commitEnds_ok ?_ | refine foldl_ok ?_ ?_ | refine onPods_ok ?_ ?_ | intro _ | split)

theorem doItem_ok {who : Who} {it : Item} (ok : Ok cs I s) : Ok cs I (doItem who it s).2 := by
  unfold doItem
  with_reducible repeat' (first
      | assumption | refine ok_ite ?_ ?_ | refine readItem_ok ?_ | refine writeItem_ok ?_ | refine commitItem_ok ?_
      | refine foldl_ok ?_ ?_ | refine onPods_ok ?_ ?_ | intro _ | split)

theorem traceOut_ok {disposition : Nat} {octets : List Nat} (ok : Ok cs I s) : Ok cs I (traceOut disposition octets s) := by
  unfold traceOut
  with_reducible repeat' (first
      | assumption | refine ok_ite ?_ ?_ | refine traceAdd_ok ?_)

theorem sendFrame_ok {f : TxFrame} (ok : Ok cs I s) : Ok cs I (sendFrame f s) := by
  unfold sendFrame
  with_reducible repeat' (first
      | assumption | refine ok_ite ?_ ?_ | refine linkCount_ok ?_ | refine traceOut_ok ?_
      | (refine ok_mk rfl rfl rfl rfl rfl rfl rfl ?_; assumption))

theorem gezorCount_ok {k : Nat} (ok : Ok cs I s) : Ok cs I (gezorCount k s) := ok

theorem modSlot_ok {q : Nat} {f : Requester → Requester} (ok : Ok cs I s) : Ok cs I (modSlot q f s) := ok

theorem cacheOpen_ok {q tid service : Nat} (ok : Ok cs I s) : Ok cs I (cacheOpen q tid service s) := ok

theorem cacheClose_ok {q tid : Nat} {frames : List (List Nat)} (ok : Ok cs I s) : Ok cs I (cacheClose q tid frames s) := ok

theorem queueReply_ok {slot : Option (Fin 4)} {tid : Nat} {frames : List (List Nat)} {mark : Nat} (ok : Ok cs I s) :
    Ok cs I (queueReply slot tid frames mark s) := by
  unfold queueReply
  with_reducible repeat' (first
      | assumption | refine ok_ite ?_ ?_ | refine ok_ite_pair ?_ ?_ | refine sendFrame_ok ?_ | refine cacheClose_ok ?_
      | refine foldl_ok ?_ ?_ | intro _ | split | (refine ok_mk rfl rfl rfl rfl rfl rfl rfl ?_; assumption))

theorem modSub_ok {k : Nat} {f : Sub → Sub} (ok : Ok cs I s) : Ok cs I (modSub k f s) := ok

theorem sendStream_ok {r : Running} (ok : Ok cs I s) : Ok cs I (sendStream r s) := by
  unfold sendStream
  with_reducible repeat' (first
      | assumption | refine ok_ite ?_ ?_ | refine sendFrame_ok ?_ | refine gezorCount_ok ?_ | refine modSub_ok ?_ | intro _
      | (refine ok_mk rfl rfl rfl rfl rfl rfl rfl ?_; assumption))

theorem engineWait_ok {x : RxWait} (ok : Ok cs I s) : Ok cs I (engineWait x s) := ok

theorem resetAfter_ok (ok : Ok cs I s) : Ok cs I (resetAfter s) := by
  unfold resetAfter
  with_reducible repeat' (first
      | assumption | refine ok_ite ?_ ?_ | refine beginReset_ok ?_ | refine foldl_ok ?_ ?_ | refine onPods_ok ?_ ?_ | intro _
      | split)

theorem resetBegins_ok {x : ResetDue} (ok : Ok cs I s) : Ok cs I (resetBegins x s) := by
  unfold resetBegins
  with_reducible repeat' (first
      | assumption | refine ok_ite ?_ ?_ | refine laneFell_ok ?_ | refine requestReset_ok ?_ | refine displayResetRun_ok ?_
      | split | (refine ok_mk rfl rfl rfl rfl rfl rfl rfl ?_; assumption))

theorem resetsBegin_ok {mark : Nat} (ok : Ok cs I s) : Ok cs I (resetsBegin mark s) := by
  unfold resetsBegin
  with_reducible repeat' (first
      | assumption | refine ok_ite ?_ ?_ | refine ok_ite_pair ?_ ?_ | refine resetBegins_ok ?_ | refine foldl_ok ?_ ?_ | intro _
      | (refine ok_mk rfl rfl rfl rfl rfl rfl rfl ?_; assumption))

theorem claimResets_ok (ok : Ok cs I s) : Ok cs I (claimResets s).2 := by
  unfold claimResets
  with_reducible repeat' (first
      | assumption | refine ok_ite ?_ ?_ | refine ok_ite_pair ?_ ?_ | intro _
      | (refine ok_mk rfl rfl rfl rfl rfl rfl rfl ?_; assumption))

theorem deliver_ok {r : Running} {owner : Bool} (ok : Ok cs I s) : Ok cs I (deliver r owner s) := by
  unfold deliver
  with_reducible repeat' (first
      | assumption | refine ok_ite ?_ ?_ | refine ok_ite_pair ?_ ?_ | refine queueReply_ok ?_ | refine sendStream_ok ?_
      | refine resetAfter_ok ?_ | refine resetsBegin_ok ?_ | refine claimResets_ok ?_ | split
      | (refine ok_mk rfl rfl rfl rfl rfl rfl rfl ?_; assumption))

theorem putRunning_ok {r : Running} (ok : Ok cs I s) : Ok cs I (putRunning r s) := ok

theorem runItem_ok {who : Who} {it : Item} (ok : Ok cs I s) : Ok cs I (runItem who it s).2 := by
  unfold runItem
  with_reducible repeat' (first
      | assumption | refine ok_ite ?_ ?_ | refine ok_ite_pair ?_ ?_ | refine answered_ok ?_ | refine doItem_ok ?_ | split
      | (refine ok_mk rfl rfl rfl rfl rfl rfl rfl ?_; assumption))

theorem busyItem_ok {r : Running} {rest : List Item} (ok : Ok cs I s) : Ok cs I (busyItem r rest s) := ok

theorem holdFrame_ok {r : Running} (ok : Ok cs I s) : Ok cs I (holdFrame r s) := ok

theorem stepItem_ok {r : Running} {it : Item} {rest : List Item} (ok : Ok cs I s) : Ok cs I (stepItem r it rest s) := by
  unfold stepItem
  refine ok_ite (busyItem_ok ok) (ok_ite (ok_ite (busyItem_ok ok) (holdFrame_ok ok)) ?_)
  split
  rename_i d s1 e
  have h1 : Ok cs I s1 := ok_snd e (runItem_ok ok)
  split
  · exact putRunning_ok h1
  · exact ok_mk rfl rfl rfl rfl rfl rfl rfl (putRunning_ok h1)

theorem runFast_ok {r : Running} (ok : Ok cs I s) : Ok cs I (runFast r s) := by
  unfold runFast
  have fold (l : List Item) (a : Running × State) (h : Ok cs I a.2) : Ok cs I (l.foldl (fun (a : Running × State) it =>
      let (d, s2) := runItem r.who it a.2
      match d with
      | .now x => (addReply a.1 x, s2)
      | .waits _ => (a.1, s2)) a).2 := by
    induction l generalizing a with
    | nil => exact h
    | cons x xs ih =>
      refine ih _ ?_
      have h2 := runItem_ok (who := r.who) (it := x) h
      dsimp only
      generalize runItem r.who x a.2 = y at h2
      obtain ⟨d, s2⟩ := y
      cases d <;> exact h2
  exact deliver_ok (fold r.items (r, s) ok)

theorem startDone_ok {p : Nat} (ok : Ok cs I s) {r : Reply × State} (e : startDone p s = some r) : Ok cs I r.2 := by
  unfold startDone at e
  dsimp only at e
  split_ifs at e <;> cases e
  exacts [podComplete_ok (modPod_ok ok), ok, podComplete_ok ok]

theorem stripDone_ok (ok : Ok cs I s) {r : Reply × State} (e : stripDone s = some r) : Ok cs I r.2 := by
  unfold stripDone at e
  split_ifs at e <;> cases e
  exacts [setDev_ok ok, ok, ok, setDev_ok ok]

theorem restoreDone_ok (ok : Ok cs I s) {r : Reply × State} (e : restoreDone s = some r) : Ok cs I r.2 := by
  unfold restoreDone at e
  dsimp only at e
  split_ifs at e
  cases e
  exact ok

theorem waitDone_ok {w : Waiting} (ok : Ok cs I s) {r : Reply × State} (e : waitDone w s = some r) : Ok cs I r.2 := by
  unfold waitDone at e
  split at e
  · exact startDone_ok ok e
  · exact stripDone_ok ok e
  · exact restoreDone_ok ok e
  · split_ifs at e <;> cases e <;> exact ok
  · cases e

theorem resume_ok {x : Reply} (ok : Ok cs I s) : Ok cs I (resume x s) := by
  unfold resume
  with_reducible repeat' (first
      | assumption | refine ok_ite ?_ ?_ | refine foldl_ok ?_ ?_ | refine onPods_ok ?_ ?_ | intro _ | split
      | (refine ok_mk rfl rfl rfl rfl rfl rfl rfl ?_; assumption))

theorem dropFrame_ok {r : Running} (ok : Ok cs I s) : Ok cs I (dropFrame r s) := ok

theorem pumpStep_ok (ok : Ok cs I s) {t : State} (e : pumpStep s = some t) : Ok cs I t := by
  unfold pumpStep at e
  dsimp only at e
  split at e
  · cases e
    exact runFast_ok (dropFrame_ok ok)
  · split at e
    · obtain ⟨f, -, rfl⟩ := Option.map_eq_some_iff.1 e
      exact putRunning_ok (dropFrame_ok ok)
    · split at e
      · obtain ⟨x, hx, rfl⟩ := Option.map_eq_some_iff.1 e
        exact resume_ok (waitDone_ok ok hx)
      · split at e <;> cases e
        · exact stepItem_ok ok
        · exact deliver_ok (s := { s with engine := _ }) ok

theorem pumpTimes_ok (n : Nat) (ok : Ok cs I s) : Ok cs I (pumpTimes n s) := by
  induction n generalizing s with
  | zero => exact ok
  | succ n ih =>
    unfold pumpTimes
    split
    · exact ih (pumpStep_ok ok ‹_›)
    · exact ok

theorem pump_ok (ok : Ok cs I s) : Ok cs I (pump s) := pumpTimes_ok _ ok

theorem streamPass_ok (ok : Ok cs I s) : Ok cs I (streamPass s) := by
  unfold streamPass
  with_reducible repeat' (first
      | assumption | refine ok_ite ?_ ?_ | refine modSub_ok ?_ | refine putRunning_ok ?_ | refine pump_ok ?_
      | refine foldl_ok ?_ ?_ | intro _ | (refine ok_mk rfl rfl rfl rfl rfl rfl rfl ?_; assumption))

theorem standbyGate_ok (ok : Ok cs I s) : Ok cs I (standbyGate s) := by
  unfold standbyGate
  with_reducible repeat' (first
      | assumption | refine ok_ite ?_ ?_ | refine standbyCheck_ok ?_)

theorem settle_ok (ok : Ok cs I s) : Ok cs I (settle s) := by
  unfold settle
  with_reducible repeat' (first
      | assumption | refine ok_ite ?_ ?_ | refine pump_ok ?_ | refine streamPass_ok ?_ | refine standbyGate_ok ?_)

theorem rowEnds_ok {who : Who} {a : Done × State} (ok : Ok cs I a.2) : Ok cs I (rowEnds who a) := by
  unfold rowEnds
  dsimp only
  split
  · exact resetAfter_ok (resetsBegin_ok (s := { a.2 with engine := _ }) ok)
  · exact ok

theorem rowRun_ok {who : Who} {it : Item} (ok : Ok cs I s) : Ok cs I (rowRun who it s) := by
  unfold rowRun
  with_reducible repeat' (first
      | assumption | refine ok_ite ?_ ?_ | refine engineWait_ok ?_ | refine runItem_ok ?_ | refine settle_ok ?_
      | refine rowEnds_ok ?_ | (refine ok_mk rfl rfl rfl rfl rfl rfl rfl ?_; assumption))

theorem rowWrite_ok {who : Who} {index sub value : Nat} (ok : Ok cs I s) : Ok cs I (rowWrite who index sub value s) := by
  unfold rowWrite
  with_reducible repeat' (first
      | assumption | refine ok_ite ?_ ?_ | refine rowRun_ok ?_)

theorem rowCommand_ok {who : Who} {index code arg : Nat} (ok : Ok cs I s) : Ok cs I (rowCommand who index code arg s) := by
  unfold rowCommand
  with_reducible repeat' (first
      | assumption | refine ok_ite ?_ ?_ | refine rowWrite_ok ?_)

theorem releaseHeld_ok (ok : Ok cs I s) : Ok cs I (releaseHeld s) := by
  unfold releaseHeld
  with_reducible repeat' (first
      | assumption | refine ok_ite ?_ ?_ | (refine ok_mk rfl rfl rfl rfl rfl rfl rfl ?_; assumption))

theorem serveSnapshot_ok {p : Nat} (ok : Ok cs I s) : Ok cs I (serveSnapshot p s) := by
  unfold serveSnapshot
  with_reducible repeat' (first
      | assumption | refine ok_ite ?_ ?_ | refine resume_ok ?_ | refine foldl_ok ?_ ?_ | refine onPods_ok ?_ ?_ | intro _
      | split)

end Sys2Proof.Laws
end

