-- ==== Sys2Proof/Laws/KeepsLink.lean ====
section
/-! SUPPORT. What every step keeps (V): frames of the engine, the link, the trace port and the tick. -/

namespace Sys2Proof.Laws

open Sys2Proof.Machine

variable {cs : List Instr} {I : Prop} {s : State}

theorem sendStatus_ok {mac : Nat} {h : Header} {code detail : Nat} (ok : Ok cs I s) : Ok cs I (sendStatus mac h code detail s) := by
  unfold sendStatus
  with_reducible repeat' (first
      | assumption | refine ok_ite ?_ ?_ | refine sendFrame_ok ?_)

theorem traceIn_ok {stamp : Tick} {h : Header} {disposition : Nat} (ok : Ok cs I s) : Ok cs I (traceIn stamp h disposition s) := by
  unfold traceIn
  with_reducible repeat' (first
      | assumption | refine ok_ite ?_ ?_ | refine traceAdd_ok ?_)

theorem rejectFrame_ok {mac : Nat} {stamp : Tick} {h : Header} {step counter code detail : Nat} (ok : Ok cs I s) :
    Ok cs I (rejectFrame mac stamp h step counter code detail s) := by
  unfold rejectFrame
  with_reducible repeat' (first
      | assumption | refine ok_ite ?_ ?_ | refine gezorCount_ok ?_ | refine sendStatus_ok ?_ | refine traceIn_ok ?_)

theorem takeSlot_ok {mac node tag : Nat} (ok : Ok cs I s) : Ok cs I (takeSlot mac node tag s).2 := by
  unfold takeSlot
  with_reducible repeat' (first
      | assumption | refine ok_ite ?_ ?_ | refine modSlot_ok ?_ | refine foldl_ok ?_ ?_ | refine onPods_ok ?_ ?_ | intro _
      | split | (refine ok_mk rfl rfl rfl rfl rfl rfl rfl ?_; assumption))

theorem sessionOpen_ok {q : Fin 4} {level : Nat} (ok : Ok cs I s) : Ok cs I (sessionOpen q level s).2 := by
  unfold sessionOpen
  exact ok_ite_pair ok (ok_ite_pair ok (ok_ite_pair (modSlot_ok ok) (modSlot_ok (s := { (takeFree s).2 with engine := _ }) ok)))

theorem sessionProof_ok {q : Fin 4} {number proof : Nat} (ok : Ok cs I s) : Ok cs I (sessionProof q number proof s).2 := by
  unfold sessionProof
  lift_lets
  repeat (first | (intro x; have hx : Ok cs I x := (by
    with_reducible repeat' (first
      | assumption | refine ok_ite ?_ ?_ | refine gezorCount_ok ?_ | refine modSlot_ok ?_)); clear_value x) | intro x)
  with_reducible repeat' (first
      | assumption | refine ok_ite ?_ ?_ | refine gezorCount_ok ?_ | refine modSlot_ok ?_ | refine foldl_ok ?_ ?_
      | refine onPods_ok ?_ ?_ | intro _ | split | (refine ok_mk rfl rfl rfl rfl rfl rfl rfl ?_; assumption))

theorem resetMarked_ok {target pod : Nat} (ok : Ok cs I s) : Ok cs I (resetMarked target pod s).2 := by
  unfold resetMarked
  with_reducible repeat' (first
      | assumption | refine ok_ite ?_ ?_ | refine ok_ite_pair ?_ ?_ | (refine ok_mk rfl rfl rfl rfl rfl rfl rfl ?_; assumption))

theorem resetStarts_ok {target pod : Nat} {laneAnswers : Bool} (ok : Ok cs I s) :
    Ok cs I (resetStarts target pod laneAnswers s) := by
  unfold resetStarts
  with_reducible repeat' (first
      | assumption | refine ok_ite ?_ ?_ | refine beginReset_ok ?_ | refine resetBegins_ok ?_)

theorem putSub_ok {b : SubBody} {owner level : Nat} (ok : Ok cs I s) : Ok cs I (putSub b owner level s) := ok

theorem subscribeRun_ok {who : Who} {b : SubBody} (ok : Ok cs I s) : Ok cs I (subscribeRun who b s).2 := by
  unfold subscribeRun
  lift_lets
  repeat intro x
  with_reducible repeat' (first
      | assumption | refine ok_ite ?_ ?_ | refine modSub_ok ?_ | refine putSub_ok ?_ | refine foldl_ok ?_ ?_
      | refine onPods_ok ?_ ?_ | intro _ | split)

theorem buildEvent_ok (ok : Ok cs I s) : Ok cs I (buildEvent s) := by
  unfold buildEvent
  split
  · rename_i hc
    refine sendFrame_ok (ok_any ok rfl ?_)
    rintro ⟨a, b, c, d, e, f⟩
    simp only [Bool.and_eq_true, decide_eq_true_eq] at hc
    refine ⟨a, b, c, ?_, ?_, f⟩
    · simp only [List.length_drop]; omega
    · simp only [List.length_append, List.length_singleton]; omega
  · exact ok

theorem endEvent_ok {seq : Nat} (ok : Ok cs I s) : Ok cs I (endEvent seq s) := by
  refine ok_any ok rfl ?_
  rintro ⟨a, b, c, d, e, f⟩
  exact ⟨a, b, c, d, (List.length_filter_le _ _).trans e, f⟩

theorem modEvent_ok {seq : Nat} {g : EvFrame → EvFrame} (ok : Ok cs I s) : Ok cs I (modEvent seq g s) := by
  refine ok_any ok rfl ?_
  rintro ⟨a, b, c, d, e, f⟩
  exact ⟨a, b, c, d, by simpa only [modEvent, List.length_map] using e, f⟩

theorem onEventSub_ok {q : Nat} {g : Sub → Sub} (ok : Ok cs I s) : Ok cs I (onEventSub q g s) := ok

theorem ackEvent_ok {slot : Option (Fin 4)} {seq : Nat} (ok : Ok cs I s) : Ok cs I (ackEvent slot seq s) := by
  unfold ackEvent
  with_reducible repeat' (first
      | assumption | refine ok_ite ?_ ?_ | refine gezorCount_ok ?_ | refine endEvent_ok ?_ | refine modEvent_ok ?_
      | refine onEventSub_ok ?_ | refine foldl_ok ?_ ?_ | refine onPods_ok ?_ ?_ | intro _ | split)

theorem missEvent_ok {q : Nat} (ok : Ok cs I s) : Ok cs I (missEvent s q) := ok

theorem retryEvent_ok {seq : Nat} (ok : Ok cs I s) : Ok cs I (retryEvent seq s) := by
  unfold retryEvent
  split
  · exact ok
  · exact ok_ite ok (ok_ite (sendFrame_ok (modEvent_ok ok)) (gezorCount_ok (k := 11) (endEvent_ok (foldl_ok ok fun s q h => missEvent_ok h))))

theorem timeFrame_ok {node epoch seq body : Nat} {latch : Tick} (ok : Ok cs I s) :
    Ok cs I (timeFrame node epoch seq body latch s) := by
  unfold timeFrame
  dsimp only
  refine ok_ite ok (ok_ite ok ?_)
  split
  · exact ok
  · exact acceptTime_ok (gezorCount_ok ok)

theorem latchSfd_ok (ok : Ok cs I s) : Ok cs I (latchSfd s).2 := ok

theorem touchSession_ok {slot : Option (Fin 4)} {r : Request} (ok : Ok cs I s) : Ok cs I (touchSession slot r s) := by
  unfold touchSession
  with_reducible repeat' (first
      | assumption | refine ok_ite ?_ ?_ | refine modSlot_ok ?_ | refine foldl_ok ?_ ?_ | refine onPods_ok ?_ ?_ | intro _
      | split)

theorem runService_ok {who : Who} {h : Header} {body : List Nat} (ok : Ok cs I s) : Ok cs I (runService who h body s).2.2 := by
  unfold runService
  with_reducible repeat' (first
      | assumption | refine ok_ite ?_ ?_ | refine ok_ite_pair ?_ ?_ | refine gezorCount_ok ?_ | refine sessionOpen_ok ?_
      | refine sessionProof_ok ?_ | refine resetMarked_ok ?_ | refine subscribeRun_ok ?_ | split
      | (refine ok_mk rfl rfl rfl rfl rfl rfl rfl ?_; assumption) | refine ok_snd (by assumption) ?_
      | refine ok_mk rfl rfl rfl rfl rfl rfl rfl ?_)

theorem answerService_ok {who : Who} {mac : Nat} {h : Header} {a : Answer} {mark : Nat} (ok : Ok cs I s) :
    Ok cs I (answerService who mac h a mark s) := by
  unfold answerService
  with_reducible repeat' (first
      | assumption | refine ok_ite ?_ ?_ | refine ok_ite_pair ?_ ?_ | refine queueReply_ok ?_ | split
      | (refine ok_mk rfl rfl rfl rfl rfl rfl rfl ?_; assumption))

theorem executeRequest_ok {slot : Option (Fin 4)} {mac : Nat} {stamp : Tick} {h : Header} {r : Request} (ok : Ok cs I s) :
    Ok cs I (executeRequest slot mac stamp h r s) := by
  unfold executeRequest
  with_reducible repeat' (first
      | assumption | refine ok_ite ?_ ?_ | refine ok_ite_pair ?_ ?_ | refine gezorCount_ok ?_ | refine cacheOpen_ok ?_
      | refine settle_ok ?_ | refine traceIn_ok ?_ | refine runService_ok ?_ | refine answerService_ok ?_ | split
      | (refine ok_mk rfl rfl rfl rfl rfl rfl rfl ?_; assumption) | refine ok_snd (by assumption) ?_
      | refine ok_mk rfl rfl rfl rfl rfl rfl rfl ?_)

theorem admitRequest_ok {mac : Nat} {stamp : Tick} {h : Header} {r : Request} (ok : Ok cs I s) :
    Ok cs I (admitRequest mac stamp h r s) := by
  unfold admitRequest
  lift_lets
  repeat intro x
  with_reducible repeat' (first
      | assumption | refine ok_ite ?_ ?_ | refine sendFrame_ok ?_ | refine gezorCount_ok ?_ | refine traceIn_ok ?_
      | refine rejectFrame_ok ?_ | refine takeSlot_ok ?_ | refine touchSession_ok ?_ | refine executeRequest_ok ?_
      | refine foldl_ok ?_ ?_ | refine onPods_ok ?_ ?_ | intro _ | split)

theorem engineReceive_ok {own : Bool} {mac : Nat} {c : List Nat} {stamp : Tick} (ok : Ok cs I s) :
    Ok cs I (engineReceive own mac c stamp s) := by
  unfold engineReceive
  with_reducible repeat' (first
      | assumption | refine ok_ite ?_ ?_ | refine gezorCount_ok ?_ | refine engineWait_ok ?_ | refine traceIn_ok ?_
      | refine rejectFrame_ok ?_ | refine ackEvent_ok ?_ | refine timeFrame_ok ?_ | refine admitRequest_ok ?_ | split
      | (refine ok_mk rfl rfl rfl rfl rfl rfl rfl ?_; assumption))

theorem lastAnswer_ok {a : Answer} (ok : Ok cs I s) : Ok cs I (lastAnswer a s) := ok

theorem serviceRun_ok {f : State → Answer × State} (hf : ∀ t, Ok cs I t → Ok cs I (f t).2) (ok : Ok cs I s) :
    Ok cs I (serviceRun f s) :=
  ok_ite (lastAnswer_ok ok) (lastAnswer_ok (hf s ok))

theorem sessionRun_ok {slot : Fin 4} {f : State → Answer × State} (hf : ∀ t, Ok cs I t → Ok cs I (f t).2) (ok : Ok cs I s) :
    Ok cs I (sessionRun slot f s) :=
  serviceRun_ok (fun t h => ok_ite_pair (hf t h) h) ok

theorem resetRun_ok {who : Who} {target pod : Nat} {laneAnswers : Bool} (ok : Ok cs I s) :
    Ok cs I (resetRun who target pod laneAnswers s) := by
  unfold resetRun
  with_reducible repeat' (first
      | assumption | refine ok_ite ?_ ?_ | refine resetStarts_ok ?_ | refine lastAnswer_ok ?_)

theorem serviceRow_ok {c : Instr} (ok : Ok cs I s) : Ok cs I (serviceRow c s) := by
  unfold serviceRow
  split
  · exact resetRun_ok ok
  · exact resetRun_ok ok
  · exact resetRun_ok ok
  · exact sessionRun_ok (fun t h => sessionOpen_ok h) ok
  · exact sessionRun_ok (fun t h => sessionProof_ok h) ok
  · exact serviceRun_ok (fun t h => subscribeRun_ok h) ok
  · exact ackEvent_ok ok
  · exact ok

theorem whenCore_ok {x : RxWait} {f : State → State} (hf : ∀ t, Ok cs I t → Ok cs I (f t)) (ok : Ok cs I s) :
    Ok cs I (whenCore x f s) :=
  ok_ite (hf s ok) (ok_ite (engineWait_ok ok) ok)

theorem takeOne_ok {a : Int × State} {x : RxWait} (ok : Ok cs I a.2) : Ok cs I (takeOne a x).2 := by
  unfold takeOne
  dsimp only
  cases x with
  | frame own mac octets stamp => exact engineReceive_ok ok
  | time node epoch seq body stamp => exact timeFrame_ok ok
  | item who it => exact rowRun_ok ok
  | row c => exact ok_ite (serviceRow_ok ok) ok

theorem resumeCore_ok (ok : Ok cs I s) : Ok cs I (resumeCore s) := by
  have fold (l : List RxWait) (a : Int × State) (h : Ok cs I a.2) : Ok cs I (l.foldl takeOne a).2 := by
    induction l generalizing a with
    | nil => exact h
    | cons x xs ih => exact ih _ (takeOne_ok h)
  exact ok_ite (settle_ok (fold _ (0, { s with engine := { s.engine with inbox := [] } }) ok)) ok

theorem windowStreams_ok {p : Nat} (ok : Ok cs I s) : Ok cs I (windowStreams p s) := by
  unfold windowStreams
  with_reducible repeat' (first
      | assumption | refine ok_ite ?_ ?_ | refine settle_ok ?_ | (refine ok_mk rfl rfl rfl rfl rfl rfl rfl ?_; assumption))

theorem noteBrc_ok {f : RxFrame} (ok : Ok cs I s) : Ok cs I (noteBrc f s) := by
  unfold noteBrc
  with_reducible repeat' (first
      | assumption | refine ok_ite ?_ ?_ | (refine ok_mk rfl rfl rfl rfl rfl rfl rfl ?_; assumption))

theorem eventLeft_ok {first : Bool} {seq : Nat} (ok : Ok cs I s) : Ok cs I (eventLeft first seq s) := by
  unfold eventLeft
  with_reducible repeat' (first
      | assumption | refine ok_ite ?_ ?_ | refine modEvent_ok ?_)

theorem frameLeft_ok {f : TxFrame} {sent : Bool} (ok : Ok cs I s) : Ok cs I (frameLeft f sent s) := by
  unfold frameLeft
  with_reducible repeat' (first
      | assumption | refine ok_ite ?_ ?_ | refine gezorCount_ok ?_ | refine modSub_ok ?_ | refine resetAfter_ok ?_
      | refine resetsBegin_ok ?_ | refine onEventSub_ok ?_ | refine eventLeft_ok ?_ | refine foldl_ok ?_ ?_ | intro _
      | (refine ok_mk rfl rfl rfl rfl rfl rfl rfl ?_; assumption))

theorem transmitFrame_ok {f : TxFrame} (ok : Ok cs I s) : Ok cs I (transmitFrame f s) := by
  unfold transmitFrame
  lift_lets
  repeat (first | (intro x; have hx : Ok cs I x := (by
    with_reducible repeat' (first
      | assumption | refine ok_ite ?_ ?_ | refine linkCount_ok ?_ | refine traceOut_ok ?_)); clear_value x) | intro x)
  with_reducible repeat' (first
      | assumption | refine ok_ite ?_ ?_ | refine linkCount_ok ?_ | refine traceOut_ok ?_ | refine frameLeft_ok ?_
      | (refine ok_mk rfl rfl rfl rfl rfl rfl rfl ?_; assumption))

theorem dropHead_ok (ok : Ok cs I s) : Ok cs I (dropHead s) := by
  unfold dropHead
  with_reducible repeat' (first
      | assumption | refine ok_ite ?_ ?_ | refine linkCount_ok ?_ | refine frameLeft_ok ?_ | refine foldl_ok ?_ ?_
      | refine onPods_ok ?_ ?_ | intro _ | split | (refine ok_mk rfl rfl rfl rfl rfl rfl rfl ?_; assumption))

theorem sendBurst_ok (n : Nat) (ok : Ok cs I s) : Ok cs I (sendBurst n s) := by
  induction n generalizing s with
  | zero => exact ok
  | succ n ih =>
    unfold sendBurst
    split
    · exact ok
    · have h := transmitFrame_ok (f := ‹_›) (s := { s with link := { s.link with queue := ‹_› } }) ok
      exact ok_ite (ih h) h

theorem discardQueue_ok (ok : Ok cs I s) : Ok cs I (discardQueue s) := by
  unfold discardQueue
  with_reducible repeat' (first
      | assumption | refine ok_ite ?_ ?_ | refine traceOut_ok ?_ | refine frameLeft_ok ?_ | refine foldl_ok ?_ ?_
      | refine onPods_ok ?_ ?_ | intro _ | (refine ok_mk rfl rfl rfl rfl rfl rfl rfl ?_; assumption))

theorem sendInHold_ok (ok : Ok cs I s) : Ok cs I (sendInHold s) := by
  unfold sendInHold
  lift_lets
  repeat (first | (intro x; have hx : Ok cs I x := (by
    with_reducible repeat' (first
      | assumption | refine ok_ite ?_ ?_ | refine gezorCount_ok ?_ | refine transmitFrame_ok ?_ | refine foldl_ok ?_ ?_
      | refine onPods_ok ?_ ?_ | intro _ | split | (refine ok_mk rfl rfl rfl rfl rfl rfl rfl ?_; assumption))); clear_value x) | intro x)
  with_reducible repeat' (first
      | assumption | refine ok_ite ?_ ?_ | refine gezorCount_ok ?_ | refine transmitFrame_ok ?_ | refine foldl_ok ?_ ?_
      | refine onPods_ok ?_ ?_ | intro _ | split | (refine ok_mk rfl rfl rfl rfl rfl rfl rfl ?_; assumption))

theorem transmit_ok {limit : Nat} (ok : Ok cs I s) : Ok cs I (transmit limit s) := by
  have h1 := settle_ok (s := { s with link := { s.link with sent := [], unreached := 0 } }) ok
  have h2 := sendBurst_ok limit h1
  unfold transmit
  exact ok_ite (sendInHold_ok h1) (settle_ok (ok_ite h2 h2))

theorem collide_ok (ok : Ok cs I s) : Ok cs I (collide s) := by
  unfold collide
  with_reducible repeat' (first
      | assumption | refine ok_ite ?_ ?_ | refine linkCount_ok ?_ | refine dropHead_ok ?_
      | (refine ok_mk rfl rfl rfl rfl rfl rfl rfl ?_; assumption))

theorem noteBeacon_ok (ok : Ok cs I s) : Ok cs I (noteBeacon s) := ok

theorem enterSilent_ok (ok : Ok cs I s) : Ok cs I (enterSilent s) := by
  unfold enterSilent
  exact raise_ok (setLink_ok ok)

theorem emitRecord_ok {r : TraceRec} (ok : Ok cs I s) : Ok cs I (emitRecord r s) := ok

theorem emitSync_ok (ok : Ok cs I s) : Ok cs I (emitSync s) := ok

theorem emitLoss_ok (ok : Ok cs I s) : Ok cs I (emitLoss s) := ok

theorem emitMarkers_ok (ok : Ok cs I s) : Ok cs I (emitMarkers s) := by
  unfold emitMarkers
  with_reducible repeat' (first
      | assumption | refine ok_ite ?_ ?_ | refine emitSync_ok ?_ | refine emitLoss_ok ?_)

theorem idleTick_ok (ok : Ok cs I s) : Ok cs I (idleTick s) := by
  unfold idleTick
  with_reducible repeat' (first
      | assumption | refine ok_ite ?_ ?_ | (refine ok_mk rfl rfl rfl rfl rfl rfl rfl ?_; assumption))

end Sys2Proof.Laws
end

