-- ==== Sys2Proof/Laws/KeepsCommands.lean ====
section
/-! SUPPORT. What every step keeps (VI): one lemma for each command. -/

namespace Sys2Proof.Laws

open Sys2Proof.Machine

variable {cs : List Instr} {I : Prop} {s : State}

def NextOk (cs : List Instr) (I : Prop) (o : Host.Outcome State Fault Refusal) : Prop := ∃ t, o = .next t ∧ Ok cs I t

theorem nextOk {t : State} (h : Ok cs I t) : NextOk cs I (.next t) := ⟨t, rfl, h⟩

theorem execResponseTimerExpiry_ok {c : FaultClass} {p : Fin 64} (ok : Ok cs I s) :
    NextOk cs I (execResponseTimerExpiry c p s) := by
  unfold execResponseTimerExpiry
  refine nextOk ?_
  with_reducible repeat' (first
      | assumption | refine ok_ite ?_ ?_ | refine timerExpires_ok ?_)

theorem execGuardArming_ok (ok : Ok cs I s) : NextOk cs I (execGuardArming s) := by
  unfold execGuardArming
  refine nextOk ?_
  with_reducible repeat' (first
      | assumption | refine ok_ite ?_ ?_ | refine armGuard_ok ?_ | (refine ok_mk rfl rfl rfl rfl rfl rfl rfl ?_; assumption))

theorem execGuardSelfFault_ok {f : SelfFault} (ok : Ok cs I s) : NextOk cs I (execGuardSelfFault f s) := by
  unfold execGuardSelfFault
  refine nextOk ?_
  with_reducible repeat' (first
      | assumption | refine ok_ite ?_ ?_ | refine raise_ok ?_ | refine foldl_ok ?_ ?_ | refine onPods_ok ?_ ?_ | intro _
      | split | (refine ok_mk rfl rfl rfl rfl rfl rfl rfl ?_; assumption))

theorem execSealTimeout_ok {p : Fin 64} (ok : Ok cs I s) : NextOk cs I (execSealTimeout p s) := by
  unfold execSealTimeout
  refine nextOk ?_
  with_reducible repeat' (first
      | assumption | refine ok_ite ?_ ?_ | refine closeSeal_ok ?_)

theorem execCheckpointDue_ok (ok : Ok cs I s) : NextOk cs I (execCheckpointDue s) := by
  unfold execCheckpointDue
  refine nextOk ?_
  with_reducible repeat' (first
      | assumption | refine ok_ite ?_ ?_ | refine requestStore_ok ?_)

theorem execCapture_ok {absent : List Nat} (ok : Ok cs I s) : NextOk cs I (execCapture absent s) := by
  unfold execCapture
  refine nextOk ?_
  with_reducible repeat' (first
      | assumption | refine ok_ite ?_ ?_ | refine captureEnds_ok ?_)

theorem execProgram_ok (ok : Ok cs I s) : NextOk cs I (execProgram s) := by
  unfold execProgram
  refine nextOk ?_
  with_reducible repeat' (first
      | assumption | refine ok_ite ?_ ?_ | refine programEnds_ok ?_)

theorem execLogAppend_ok (ok : Ok cs I s) : NextOk cs I (execLogAppend s) := nextOk (appendLog_ok (ok))

theorem execRestoreHoldExpiry_ok {p : Fin 64} (ok : Ok cs I s) : NextOk cs I (execRestoreHoldExpiry p s) := by
  unfold execRestoreHoldExpiry
  refine nextOk ?_
  with_reducible repeat' (first
      | assumption | refine ok_ite ?_ ?_ | refine trigger_ok ?_)

theorem execCauseCleared_ok {c : FaultClass} {p : Fin 64} {source : Nat} (ok : Ok cs I s) :
    NextOk cs I (execCauseCleared c p source s) := by
  unfold execCauseCleared
  refine nextOk ?_
  with_reducible repeat' (first
      | assumption | refine ok_ite ?_ ?_ | refine clearCause_ok ?_ | refine railReturns_ok ?_)

theorem execOscillationDetected_ok {src : Fin 6} (ok : Ok cs I s) : NextOk cs I (execOscillationDetected src s) := by
  unfold execOscillationDetected
  refine nextOk ?_
  with_reducible repeat' (first
      | assumption | refine ok_ite ?_ ?_ | (refine ok_mk rfl rfl rfl rfl rfl rfl rfl ?_; assumption))

theorem execOscillationLost_ok {src : Fin 6} (ok : Ok cs I s) : NextOk cs I (execOscillationLost src s) := by
  unfold execOscillationLost
  refine nextOk ?_
  with_reducible repeat' (first
      | assumption | refine ok_ite ?_ ?_ | (refine ok_mk rfl rfl rfl rfl rfl rfl rfl ?_; assumption))

theorem execStartupLimitMissed_ok {src : Fin 6} (ok : Ok cs I s) : NextOk cs I (execStartupLimitMissed src s) := by
  unfold execStartupLimitMissed
  refine nextOk ?_
  with_reducible repeat' (first
      | assumption | refine ok_ite ?_ ?_ | refine raise_ok ?_ | refine failOsc_ok ?_ | refine settleMux_ok ?_
      | refine noteFailed_ok ?_)

theorem execSpinePllLock_ok (ok : Ok cs I s) : NextOk cs I (execSpinePllLock s) := by
  unfold execSpinePllLock
  refine nextOk ?_
  with_reducible repeat' (first
      | assumption | refine ok_ite ?_ ?_ | refine spineLock_ok ?_)

theorem execSpineLockLoss_ok (ok : Ok cs I s) : NextOk cs I (execSpineLockLoss s) := by
  unfold execSpineLockLoss
  refine nextOk ?_
  with_reducible repeat' (first
      | assumption | refine ok_ite ?_ ?_ | refine spineUnlock_ok ?_)

theorem execSpineRelockTimeout_ok (ok : Ok cs I s) : NextOk cs I (execSpineRelockTimeout s) := by
  unfold execSpineRelockTimeout
  refine nextOk ?_
  with_reducible repeat' (first
      | assumption | refine ok_ite ?_ ?_ | refine raise_ok ?_ | refine rescueMux_ok ?_)

theorem execMonitorTrip_ok {m : Monitor} {e : Evidence} (ok : Ok cs I s) : NextOk cs I (execMonitorTrip m e s) := by
  unfold execMonitorTrip
  refine nextOk ?_
  with_reducible repeat' (first
      | assumption | refine ok_ite ?_ ?_ | refine monitorTrip_ok ?_)

theorem execRescueWaitTimeout_ok {mux : MuxName} (ok : Ok cs I s) : NextOk cs I (execRescueWaitTimeout mux s) := by
  unfold execRescueWaitTimeout
  refine nextOk ?_
  with_reducible repeat' (first
      | assumption | refine ok_ite ?_ ?_ | refine raiseAt_ok ?_ | refine foldl_ok ?_ ?_ | refine onPods_ok ?_ ?_ | intro _
      | split)

theorem execSwitchStart_ok {mux : MuxName} (ok : Ok cs I s) : NextOk cs I (execSwitchStart mux s) := by
  unfold execSwitchStart
  refine nextOk ?_
  with_reducible repeat' (first
      | assumption | refine ok_ite ?_ ?_ | refine ok_ite_pair ?_ ?_ | refine endClkCommand_ok ?_ | refine beginSwitch_ok ?_
      | intro _ | split | (refine ok_mk rfl rfl rfl rfl rfl rfl rfl ?_; assumption))

theorem execAutomaticReturn_ok {mux : MuxName} (ok : Ok cs I s) : NextOk cs I (execAutomaticReturn mux s) := by
  unfold execAutomaticReturn
  refine nextOk ?_
  with_reducible repeat' (first
      | assumption | refine ok_ite ?_ ?_ | refine modPod_ok ?_ | refine beginSwitch_ok ?_ | refine foldl_ok ?_ ?_
      | refine onPods_ok ?_ ?_ | intro _ | split)

theorem execLfrcStop_ok (ok : Ok cs I s) : NextOk cs I (execLfrcStop s) := by
  unfold execLfrcStop
  refine nextOk ?_
  with_reducible repeat' (first
      | assumption | refine ok_ite ?_ ?_ | refine stopOsc_ok ?_)

theorem execHfrcMeasure_ok {steps : Int} (ok : Ok cs I s) : NextOk cs I (execHfrcMeasure steps s) := by
  unfold execHfrcMeasure
  refine nextOk ?_
  with_reducible repeat' (first
      | assumption | refine ok_ite ?_ ?_ | (refine ok_mk rfl rfl rfl rfl rfl rfl rfl ?_; assumption))

theorem execBrcEstimate_ok {ppb : Int} (ok : Ok cs I s) : NextOk cs I (execBrcEstimate ppb s) := by
  unfold execBrcEstimate
  refine nextOk ?_
  with_reducible repeat' (first
      | assumption | refine ok_ite ?_ ?_ | refine moveFrac_ok ?_ | (refine ok_mk rfl rfl rfl rfl rfl rfl rfl ?_; assumption))

theorem execBrcPause_ok (ok : Ok cs I s) : NextOk cs I (execBrcPause s) := nextOk ok

theorem execLfxoDiscipline_ok {steps : Int} (ok : Ok cs I s) : NextOk cs I (execLfxoDiscipline steps s) := by
  unfold execLfxoDiscipline
  refine nextOk ?_
  with_reducible repeat' (first
      | assumption | refine ok_ite ?_ ?_ | refine moveFrac_ok ?_)

theorem execTimeSlewEnd_ok (ok : Ok cs I s) : NextOk cs I (execTimeSlewEnd s) := nextOk ok

theorem execTimeFrameAbsence_ok (ok : Ok cs I s) : NextOk cs I (execTimeFrameAbsence s) := by
  unfold execTimeFrameAbsence
  refine nextOk ?_
  with_reducible repeat' (first
      | assumption | refine ok_ite ?_ ?_ | (refine ok_mk rfl rfl rfl rfl rfl rfl rfl ?_; assumption))

theorem execFramePeriodUpdate_ok {p : Fin 64} (ok : Ok cs I s) : NextOk cs I (execFramePeriodUpdate p s) := by
  unfold execFramePeriodUpdate
  refine nextOk ?_
  with_reducible repeat' (first
      | assumption | refine ok_ite ?_ ?_ | refine modPod_ok ?_)

theorem execRcFrameRateFault_ok {p : Fin 64} {hz silentMicros : Nat} (ok : Ok cs I s) :
    NextOk cs I (execRcFrameRateFault p hz silentMicros s) := by
  unfold execRcFrameRateFault
  refine nextOk ?_
  with_reducible repeat' (first
      | assumption | refine ok_ite ?_ ?_ | refine raisePod_ok ?_)

theorem execRecall_ok {x : Damage} (ok : Ok cs I s) : NextOk cs I (execRecall x s) := by
  unfold execRecall
  refine nextOk ?_
  with_reducible repeat' (first
      | assumption | refine ok_ite ?_ ?_ | refine recallRun_ok ?_)

theorem execLogScan_ok {damaged : List Nat} (ok : Ok cs I s) : NextOk cs I (execLogScan damaged s) := by
  unfold execLogScan
  refine nextOk ?_
  with_reducible repeat' (first
      | assumption | refine ok_ite ?_ ?_ | refine logScanRun_ok ?_)

theorem execCoreRelease_ok (ok : Ok cs I s) : NextOk cs I (execCoreRelease s) := by
  unfold execCoreRelease
  refine nextOk ?_
  with_reducible repeat' (first
      | assumption | refine ok_ite ?_ ?_ | refine displayWatch_ok ?_ | refine enterSafe_ok ?_ | refine startOsc_ok ?_
      | refine putMux_ok ?_ | refine settleMux_ok ?_ | (refine ok_mk rfl rfl rfl rfl rfl rfl rfl ?_; assumption)
      | refine ok_mk rfl rfl rfl rfl rfl rfl rfl ?_)

theorem execHfxoPhase_ok (ok : Ok cs I s) : NextOk cs I (execHfxoPhase s) := by
  unfold execHfxoPhase
  lift_lets
  repeat (first | (intro x; have hx : Ok cs I x := (by
    with_reducible repeat' (first
      | assumption | refine ok_ite ?_ ?_ | refine displayWatch_ok ?_ | refine setLink_ok ?_ | refine linkJoin_ok ?_
      | refine putMux_ok ?_ | refine settleMux_ok ?_ | refine phytxSet_ok ?_
      | (refine ok_mk rfl rfl rfl rfl rfl rfl rfl ?_; assumption))); clear_value x) | intro x)
  refine nextOk ?_
  with_reducible repeat' (first
      | assumption | refine ok_ite ?_ ?_ | refine displayWatch_ok ?_ | refine setLink_ok ?_)

theorem execPodRestart_ok {failing : List Nat} (ok : Ok cs I s) : NextOk cs I (execPodRestart failing s) := by
  unfold execPodRestart
  refine nextOk ?_
  with_reducible repeat' (first
      | assumption | refine ok_ite ?_ ?_ | refine modPod_ok ?_ | refine onPods_ok ?_ | refine trigger_ok ?_
      | refine transferAll_ok ?_ | refine laneTimeouts_ok ?_ | refine restartPod_ok ?_ | refine onPods_ok ?_ ?_ | intro _
      | (refine ok_mk rfl rfl rfl rfl rfl rfl rfl ?_; assumption) | refine ok_mk rfl rfl rfl rfl rfl rfl rfl ?_)

theorem execEngineOpen_ok (ok : Ok cs I s) : NextOk cs I (execEngineOpen s) := by
  unfold execEngineOpen
  exact nextOk (ok_ite (ok_ite ok (openEngine_ok ok)) ok)

theorem execWakeActivity_ok {micros : Nat} (ok : Ok cs I s) : NextOk cs I (execWakeActivity micros s) := by
  unfold execWakeActivity
  refine nextOk ?_
  with_reducible repeat' (first
      | assumption | refine ok_ite ?_ ?_ | refine linkCount_ok ?_ | refine leaveStandby_ok ?_)

theorem execResetNAssert_ok {nanos : Nat} (ok : Ok cs I s) : NextOk cs I (execResetNAssert nanos s) := by
  unfold execResetNAssert
  refine nextOk ?_
  with_reducible repeat' (first
      | assumption | refine ok_ite ?_ ?_ | refine beginReset_ok ?_ | (refine ok_mk rfl rfl rfl rfl rfl rfl rfl ?_; assumption))

theorem execResetNRelease_ok (ok : Ok cs I s) : NextOk cs I (execResetNRelease s) := nextOk ok

theorem execResetSequenceEnd_ok {straps : Straps} (ok : Ok cs I s) : NextOk cs I (execResetSequenceEnd straps s) := by
  unfold execResetSequenceEnd
  refine nextOk ?_
  with_reducible repeat' (first
      | assumption | refine ok_ite ?_ ?_ | refine internalReset_ok ?_ | refine foldl_ok ?_ ?_ | refine onPods_ok ?_ ?_
      | intro _ | split)

theorem execBackstopTrip_ok {e : Evidence} {straps : Straps} (ok : Ok cs I s) : NextOk cs I (execBackstopTrip e straps s) := by
  unfold execBackstopTrip
  refine nextOk ?_
  with_reducible repeat' (first
      | assumption | refine ok_ite ?_ ?_ | refine onPods_ok ?_ | refine logAdd_ok ?_ | refine freezeNow_ok ?_
      | refine abortStore_ok ?_ | refine writeSnapshot_ok ?_ | refine failOsc_ok ?_ | refine internalReset_ok ?_
      | refine resetRecord_ok ?_ | refine engineStops_ok ?_ | refine onPods_ok ?_ ?_ | intro _ | split
      | (refine ok_mk rfl rfl rfl rfl rfl rfl rfl ?_; assumption) | refine ok_snd (by assumption) ?_
      | refine ok_mk rfl rfl rfl rfl rfl rfl rfl ?_)

theorem execTrunkStart_ok {mv : Nat} (ok : Ok cs I s) : NextOk cs I (execTrunkStart mv s) := by
  unfold execTrunkStart
  refine nextOk ?_
  with_reducible repeat' (first
      | assumption | refine ok_ite ?_ ?_ | (refine ok_mk rfl rfl rfl rfl rfl rfl rfl ?_; assumption))

theorem execInrushEnd_ok (ok : Ok cs I s) : NextOk cs I (execInrushEnd s) := by
  unfold execInrushEnd
  refine nextOk ?_
  with_reducible repeat' (first
      | assumption | refine ok_ite ?_ ?_ | (refine ok_mk rfl rfl rfl rfl rfl rfl rfl ?_; assumption))

theorem execStartStop_ok {mv : Nat} (ok : Ok cs I s) : NextOk cs I (execStartStop mv s) := by
  unfold execStartStop
  refine nextOk ?_
  with_reducible repeat' (first
      | assumption | refine ok_ite ?_ ?_ | (refine ok_mk rfl rfl rfl rfl rfl rfl rfl ?_; assumption))

theorem execPowerOnResetRelease_ok {mv : Nat} {straps : Straps} (ok : Ok cs I s) :
    NextOk cs I (execPowerOnResetRelease mv straps s) := by
  unfold execPowerOnResetRelease
  refine nextOk ?_
  with_reducible repeat' (first
      | assumption | refine ok_ite ?_ ?_ | refine powerOnReset_ok ?_
      | (refine ok_mk rfl rfl rfl rfl rfl rfl rfl ?_; assumption))

theorem execHoldCapMeasured_ok {microfarad : Nat} (ok : Ok cs I s) : NextOk cs I (execHoldCapMeasured microfarad s) := by
  unfold execHoldCapMeasured
  refine nextOk ?_
  with_reducible repeat' (first
      | assumption | refine ok_ite ?_ ?_ | refine raise_ok ?_ | (refine ok_mk rfl rfl rfl rfl rfl rfl rfl ?_; assumption))

theorem execHoldReadyTimeout_ok (ok : Ok cs I s) : NextOk cs I (execHoldReadyTimeout s) := by
  unfold execHoldReadyTimeout
  refine nextOk ?_
  with_reducible repeat' (first
      | assumption | refine ok_ite ?_ ?_ | refine raise_ok ?_ | (refine ok_mk rfl rfl rfl rfl rfl rfl rfl ?_; assumption))

theorem execMonitorAdcSample_ok {trunk vhold : Nat} {hubTemp powerTemp : Int} (ok : Ok cs I s) :
    NextOk cs I (execMonitorAdcSample trunk vhold hubTemp powerTemp s) := by
  unfold execMonitorAdcSample
  refine nextOk ?_
  with_reducible repeat' (first
      | assumption | refine ok_ite ?_ ?_ | refine raise_ok ?_ | (refine ok_mk rfl rfl rfl rfl rfl rfl rfl ?_; assumption))

theorem execRailOutOfRange_ok {rail : Fin 7} (ok : Ok cs I s) : NextOk cs I (execRailOutOfRange rail s) := by
  unfold execRailOutOfRange
  refine nextOk ?_
  with_reducible repeat' (first
      | assumption | refine ok_ite ?_ ?_ | refine displayWatch_ok ?_ | refine raise_ok ?_
      | (refine ok_mk rfl rfl rfl rfl rfl rfl rfl ?_; assumption))

theorem execPowerFailWarning_ok {mv micros : Nat} (ok : Ok cs I s) : NextOk cs I (execPowerFailWarning mv micros s) := by
  unfold execPowerFailWarning
  refine nextOk ?_
  with_reducible repeat' (first
      | assumption | refine ok_ite ?_ ?_ | refine enterHold_ok ?_)

theorem execSnapshotEnd_ok (ok : Ok cs I s) : NextOk cs I (execSnapshotEnd s) := by
  unfold execSnapshotEnd
  refine nextOk ?_
  with_reducible repeat' (first
      | assumption | refine ok_ite ?_ ?_ | refine startStoreOn_ok ?_ | refine writeSnapshot_ok ?_
      | refine startDischarges_ok ?_ | refine holdStep_ok ?_ | refine holdStepThree_ok ?_ | refine foldl_ok ?_ ?_
      | refine onPods_ok ?_ ?_ | intro _ | split | (refine ok_mk rfl rfl rfl rfl rfl rfl rfl ?_; assumption))

theorem execHoldEnd_ok {mv : Nat} {straps : Straps} (ok : Ok cs I s) : NextOk cs I (execHoldEnd mv straps s) := by
  unfold execHoldEnd
  lift_lets
  repeat (first | (intro x; have hx : Ok cs I x := (by
    with_reducible repeat' (first
      | assumption | refine ok_ite ?_ ?_ | refine chipResetExits_ok ?_ | refine internalReset_ok ?_ | refine resetRecord_ok ?_
      | refine engineStops_ok ?_)); clear_value x) | intro x)
  refine nextOk ?_
  with_reducible repeat' (first
      | assumption | refine ok_ite ?_ ?_ | refine chipResetExits_ok ?_ | refine internalReset_ok ?_ | refine resetRecord_ok ?_
      | refine engineStops_ok ?_ | refine goUnpowered_ok ?_ | refine stripDone_ok ?_
      | (refine ok_mk rfl rfl rfl rfl rfl rfl rfl ?_; assumption))

theorem execReserveExhausted_ok {vhold : Nat} (ok : Ok cs I s) : NextOk cs I (execReserveExhausted vhold s) := by
  unfold execReserveExhausted
  lift_lets
  repeat (first | (intro x; have hx : Ok cs I x := (by
    with_reducible repeat' (first
      | assumption | refine ok_ite ?_ ?_ | refine trigger_ok ?_ | refine abortStore_ok ?_ | refine goUnpowered_ok ?_
      | (refine ok_mk rfl rfl rfl rfl rfl rfl rfl ?_; assumption))); clear_value x) | intro x)
  refine nextOk ?_
  with_reducible repeat' (first
      | assumption | refine ok_ite ?_ ?_ | refine trigger_ok ?_ | refine abortStore_ok ?_ | refine goUnpowered_ok ?_
      | (refine ok_mk rfl rfl rfl rfl rfl rfl rfl ?_; assumption))

theorem execSourceQualified_ok {src : Fin 6} (ok : Ok cs I s) : NextOk cs I (execSourceQualified src s) := by
  unfold execSourceQualified
  refine nextOk ?_
  with_reducible repeat' (first
      | assumption | refine ok_ite ?_ ?_ | refine setOsc_ok ?_ | refine afterQualified_ok ?_ | refine holdBegin_ok ?_
      | (refine ok_mk rfl rfl rfl rfl rfl rfl rfl ?_; assumption))

theorem execSettleCountReached_ok {p : Fin 64} {c : Fin 32} (ok : Ok cs I s) : NextOk cs I (execSettleCountReached p c s) := by
  unfold execSettleCountReached
  refine nextOk ?_
  with_reducible repeat' (first
      | assumption | refine ok_ite ?_ ?_ | refine modPod_ok ?_ | refine wakeCheck_ok ?_)

theorem execFundamentalPathSettled_ok {p : Fin 64} {input : Fin 7} (ok : Ok cs I s) :
    NextOk cs I (execFundamentalPathSettled p input s) := by
  unfold execFundamentalPathSettled
  refine nextOk ?_
  with_reducible repeat' (first
      | assumption | refine ok_ite ?_ ?_ | refine modPod_ok ?_ | refine foldl_ok ?_ ?_ | refine onPods_ok ?_ ?_ | intro _
      | split)

theorem execDownRangeIntervalEnd_ok {p : Fin 64} {k : Fin 16} (ok : Ok cs I s) : NextOk cs I (execDownRangeIntervalEnd p k s) := by
  unfold execDownRangeIntervalEnd
  refine nextOk ?_
  with_reducible repeat' (first
      | assumption | refine ok_ite ?_ ?_ | refine modPod_ok ?_)

theorem execCmExcursionFault_ok {p : Fin 64} {m : Fin 5} (ok : Ok cs I s) : NextOk cs I (execCmExcursionFault p m s) := by
  unfold execCmExcursionFault
  refine nextOk ?_
  with_reducible repeat' (first
      | assumption | refine ok_ite ?_ ?_ | refine raisePod_ok ?_)

theorem execSliceSolve_ok {p : Fin 64} {onB : Bool} {x : Solve} (ok : Ok cs I s) : NextOk cs I (execSliceSolve p onB x s) := by
  unfold execSliceSolve
  refine nextOk ?_
  with_reducible repeat' (first
      | assumption | refine ok_ite ?_ ?_ | refine ok_ite_pair ?_ ?_ | refine modPod_ok ?_ | refine podCount_ok ?_
      | refine raisePod_ok ?_ | intro _ | split | (refine ok_mk rfl rfl rfl rfl rfl rfl rfl ?_; assumption))

theorem execReferenceInjection_ok {p : Fin 64} {ratio : Nat} (ok : Ok cs I s) : NextOk cs I (execReferenceInjection p ratio s) := by
  unfold execReferenceInjection
  refine nextOk ?_
  with_reducible repeat' (first
      | assumption | refine ok_ite ?_ ?_ | refine modPod_ok ?_ | refine raisePod_ok ?_ | refine foldl_ok ?_ ?_
      | refine onPods_ok ?_ ?_ | intro _ | split)

theorem execPlausibilityWindowEnd_ok {p : Fin 64} (ok : Ok cs I s) : NextOk cs I (execPlausibilityWindowEnd p s) := by
  unfold execPlausibilityWindowEnd
  refine nextOk ?_
  with_reducible repeat' (first
      | assumption | refine ok_ite ?_ ?_ | refine modPod_ok ?_ | refine raisePod_ok ?_ | refine foldl_ok ?_ ?_
      | refine onPods_ok ?_ ?_ | intro _ | split)

theorem execReferenceLoss_ok {p : Fin 64} (ok : Ok cs I s) : NextOk cs I (execReferenceLoss p s) := by
  unfold execReferenceLoss
  refine nextOk ?_
  with_reducible repeat' (first
      | assumption | refine ok_ite ?_ ?_ | refine modPod_ok ?_)

theorem execEventRmsRefresh_ok {p : Fin 64} (ok : Ok cs I s) : NextOk cs I (execEventRmsRefresh p s) := by
  unfold execEventRmsRefresh
  refine nextOk ?_
  with_reducible repeat' (first
      | assumption | refine ok_ite ?_ ?_ | refine modPod_ok ?_)

theorem execEventBlockExpiry_ok {p : Fin 64} {kind : Nat} {input : Fin 7} (ok : Ok cs I s) :
    NextOk cs I (execEventBlockExpiry p kind input s) := nextOk ok

theorem execHalfCycleBooking_ok {p : Fin 64} (ok : Ok cs I s) : NextOk cs I (execHalfCycleBooking p s) := by
  unfold execHalfCycleBooking
  refine nextOk ?_
  with_reducible repeat' (first
      | assumption | refine ok_ite ?_ ?_ | refine modPod_ok ?_ | refine withBooking_ok ?_
      | (refine ok_mk rfl rfl rfl rfl rfl rfl rfl ?_; assumption))

theorem execHarmonicWindowEnd_ok {p : Fin 64} (ok : Ok cs I s) : NextOk cs I (execHarmonicWindowEnd p s) := by
  unfold execHarmonicWindowEnd
  refine nextOk ?_
  with_reducible repeat' (first
      | assumption | refine ok_ite ?_ ?_ | refine modPod_ok ?_)

theorem execHarmonicPublication_ok {p : Fin 64} {stop : Tick} (ok : Ok cs I s) :
    NextOk cs I (execHarmonicPublication p stop s) := by
  unfold execHarmonicPublication
  refine nextOk ?_
  with_reducible repeat' (first
      | assumption | refine ok_ite ?_ ?_ | refine modPod_ok ?_ | intro _)

theorem execPhasorPublication_ok {p : Fin 64} {instant : Tick} (ok : Ok cs I s) :
    NextOk cs I (execPhasorPublication p instant s) := by
  unfold execPhasorPublication
  refine nextOk ?_
  with_reducible repeat' (first
      | assumption | refine ok_ite ?_ ?_ | refine modPod_ok ?_)

theorem execSentinelArmed_ok {p : Fin 64} {testTicks : Nat} (ok : Ok cs I s) : NextOk cs I (execSentinelArmed p testTicks s) := by
  unfold execSentinelArmed
  refine nextOk ?_
  with_reducible repeat' (first
      | assumption | refine ok_ite ?_ ?_ | refine armPasses_ok ?_ | refine armFails_ok ?_)

theorem execArmingRetry_ok {p : Fin 64} (ok : Ok cs I s) : NextOk cs I (execArmingRetry p s) := by
  unfold execArmingRetry
  refine nextOk ?_
  with_reducible repeat' (first
      | assumption | refine ok_ite ?_ ?_ | refine modPod_ok ?_)

theorem execSentinelTrip_ok {p : Fin 64} {microvolts micros : Nat} (ok : Ok cs I s) :
    NextOk cs I (execSentinelTrip p microvolts micros s) := by
  unfold execSentinelTrip
  refine nextOk ?_
  with_reducible repeat' (first
      | assumption | refine ok_ite ?_ ?_ | refine latchTrip_ok ?_ | refine modPod_ok ?_)

theorem execWakePowerUpDone_ok {p : Fin 64} (ok : Ok cs I s) : NextOk cs I (execWakePowerUpDone p s) := by
  unfold execWakePowerUpDone
  refine nextOk ?_
  with_reducible repeat' (first
      | assumption | refine ok_ite ?_ ?_ | refine modPod_ok ?_ | refine setPodMux_ok ?_ | refine syncPulse_ok ?_
      | refine startSampling_ok ?_ | refine completeIf_ok ?_ | refine foldl_ok ?_ ?_ | refine onPods_ok ?_ ?_ | intro _
      | split)

theorem execDormantTransfer_ok {p : Fin 64} {ticks : Nat} {saturated : Bool} (ok : Ok cs I s) :
    NextOk cs I (execDormantTransfer p ticks saturated s) := by
  unfold execDormantTransfer
  refine nextOk ?_
  with_reducible repeat' (first
      | assumption | refine ok_ite ?_ ?_ | refine modPod_ok ?_ | refine laneDone_ok ?_ | refine laneFell_ok ?_ | intro _
      | (refine ok_mk rfl rfl rfl rfl rfl rfl rfl ?_; assumption))

theorem execPulseLeadingEdge_ok {p : Fin 64} (ok : Ok cs I s) : NextOk cs I (execPulseLeadingEdge p s) := by
  unfold execPulseLeadingEdge
  refine nextOk ?_
  with_reducible repeat' (first
      | assumption | refine ok_ite ?_ ?_ | refine modPod_ok ?_ | refine syncPulse_ok ?_)

theorem execPulseWidthEnd_ok {p : Fin 64} (ok : Ok cs I s) : NextOk cs I (execPulseWidthEnd p s) := by
  unfold execPulseWidthEnd
  refine nextOk ?_
  with_reducible repeat' (first
      | assumption | refine ok_ite ?_ ?_ | refine modPod_ok ?_ | refine syncPulse_ok ?_)

theorem execIsolationSwitchOpen_ok {p : Fin 64} {microamps nanos : Nat} (ok : Ok cs I s) :
    NextOk cs I (execIsolationSwitchOpen p microamps nanos s) := by
  unfold execIsolationSwitchOpen
  refine nextOk ?_
  with_reducible repeat' (first
      | assumption | refine ok_ite ?_ ?_ | refine modPod_ok ?_ | refine raisePod_ok ?_)

theorem execRegisterFileEccError_ok {p : Fin 64} {word : Nat} {double : Bool} (ok : Ok cs I s) :
    NextOk cs I (execRegisterFileEccError p word double s) := by
  unfold execRegisterFileEccError
  refine nextOk ?_
  with_reducible repeat' (first
      | assumption | refine ok_ite ?_ ?_ | refine modPod_ok ?_ | refine raisePod_ok ?_)

theorem execLaneTimeout_ok {p : Fin 64} (ok : Ok cs I s) : NextOk cs I (execLaneTimeout p s) := by
  unfold execLaneTimeout
  refine nextOk ?_
  with_reducible repeat' (first
      | assumption | refine ok_ite ?_ ?_ | refine modPod_ok ?_ | refine laneTimeout_ok ?_)

theorem execSupplyCurrentReport_ok {p : Fin 64} {microamps : Nat} (ok : Ok cs I s) :
    NextOk cs I (execSupplyCurrentReport p microamps s) := nextOk ok

theorem execQuietExit_ok {c : FaultClass} {p : Fin 64} (ok : Ok cs I s) : NextOk cs I (execQuietExit c p s) := by
  unfold execQuietExit
  refine nextOk ?_
  with_reducible repeat' (first
      | assumption | refine ok_ite ?_ ?_ | refine modPod_ok ?_ | refine quietExitOf_ok ?_ | refine reloadPod_ok ?_)

theorem execBandTick_ok (ok : Ok cs I s) : NextOk cs I (execBandTick s) := by
  unfold execBandTick
  lift_lets
  repeat (first | (intro x; have hx : Ok cs I x := (by
    with_reducible repeat' (first
      | assumption | refine ok_ite ?_ ?_ | refine autoTick_ok ?_ | refine showMode_ok ?_
      | (refine ok_mk rfl rfl rfl rfl rfl rfl rfl ?_; assumption))); clear_value x) | intro x)
  refine nextOk ?_
  with_reducible repeat' (first
      | assumption | refine ok_ite ?_ ?_ | refine autoTick_ok ?_ | refine showMode_ok ?_
      | (refine ok_mk rfl rfl rfl rfl rfl rfl rfl ?_; assumption))

theorem execPanelFrameBoundary_ok (ok : Ok cs I s) : NextOk cs I (execPanelFrameBoundary s) := by
  unfold execPanelFrameBoundary
  refine nextOk ?_
  with_reducible repeat' (first
      | assumption | refine ok_ite ?_ ?_ | refine showMode_ok ?_ | (refine ok_mk rfl rfl rfl rfl rfl rfl rfl ?_; assumption))

theorem execStripFrame_ok (ok : Ok cs I s) : NextOk cs I (execStripFrame s) := by
  unfold execStripFrame
  refine nextOk ?_
  with_reducible repeat' (first
      | assumption | refine ok_ite ?_ ?_ | (refine ok_mk rfl rfl rfl rfl rfl rfl rfl ?_; assumption))

theorem execCrackProbe_ok {onStrip : Bool} {loop ground : Nat} {ended : Bool} (ok : Ok cs I s) :
    NextOk cs I (execCrackProbe onStrip loop ground ended s) := by
  unfold execCrackProbe
  refine nextOk ?_
  with_reducible repeat' (first
      | assumption | refine ok_ite ?_ ?_ | refine crackTest_ok ?_ | refine foldl_ok ?_ ?_ | refine onPods_ok ?_ ?_ | intro _
      | split | (refine ok_mk rfl rfl rfl rfl rfl rfl rfl ?_; assumption))

theorem execPaneDischargeEnd_ok (ok : Ok cs I s) : NextOk cs I (execPaneDischargeEnd s) := by
  unfold execPaneDischargeEnd
  refine nextOk ?_
  with_reducible repeat' (first
      | assumption | refine ok_ite ?_ ?_ | refine holdStep_ok ?_ | refine dischargesEnd_ok ?_
      | (refine ok_mk rfl rfl rfl rfl rfl rfl rfl ?_; assumption))

theorem execStripDischargeEnd_ok (ok : Ok cs I s) : NextOk cs I (execStripDischargeEnd s) := by
  unfold execStripDischargeEnd
  refine nextOk ?_
  with_reducible repeat' (first
      | assumption | refine ok_ite ?_ ?_ | refine holdStep_ok ?_ | refine dischargesEnd_ok ?_ | refine stripDone_ok ?_
      | (refine ok_mk rfl rfl rfl rfl rfl rfl rfl ?_; assumption))

theorem execStart_ok {who : Who} {p : Fin 64} (ok : Ok cs I s) : NextOk cs I (execStart who p s) := nextOk (rowCommand_ok (ok))

theorem execStop_ok {who : Who} {p : Fin 64} (ok : Ok cs I s) : NextOk cs I (execStop who p s) := nextOk (rowCommand_ok (ok))

theorem execPodCmdReset_ok {who : Who} {p : Fin 64} {laneAnswers : Bool} (ok : Ok cs I s) :
    NextOk cs I (execPodCmdReset who p laneAnswers s) := nextOk (rowRun_ok (ok))

theorem execClockRc_ok {who : Who} {p : Fin 64} (ok : Ok cs I s) : NextOk cs I (execClockRc who p s) := nextOk (rowCommand_ok (ok))

theorem execClockSpine_ok {who : Who} {p : Fin 64} (ok : Ok cs I s) :
    NextOk cs I (execClockSpine who p s) := nextOk (rowCommand_ok (ok))

theorem execDoze_ok {who : Who} {p : Fin 64} (ok : Ok cs I s) : NextOk cs I (execDoze who p s) := nextOk (rowCommand_ok (ok))

theorem execAckDormant_ok {who : Who} {p : Fin 64} {arg : Nat} (ok : Ok cs I s) :
    NextOk cs I (execAckDormant who p arg s) := nextOk (rowCommand_ok (ok))

theorem execSealOpen_ok {who : Who} {p : Fin 64} (ok : Ok cs I s) :
    NextOk cs I (execSealOpen who p s) := nextOk (rowCommand_ok (ok))

theorem execSealClose_ok {who : Who} {p : Fin 64} (ok : Ok cs I s) :
    NextOk cs I (execSealClose who p s) := nextOk (rowCommand_ok (ok))

theorem execSliceRun_ok {who : Who} {p : Fin 64} (ok : Ok cs I s) : NextOk cs I (execSliceRun who p s) := nextOk (rowWrite_ok (ok))

theorem execSliceFreeze_ok {who : Who} {p : Fin 64} (ok : Ok cs I s) :
    NextOk cs I (execSliceFreeze who p s) := nextOk (rowWrite_ok (ok))

theorem execSliceFactory_ok {who : Who} {p : Fin 64} (ok : Ok cs I s) :
    NextOk cs I (execSliceFactory who p s) := nextOk (rowWrite_ok (ok))

theorem execPlsTestWrite_ok {who : Who} {p : Fin 64} {value : Nat} (ok : Ok cs I s) :
    NextOk cs I (execPlsTestWrite who p value s) := nextOk (rowWrite_ok (ok))

theorem execStandby_ok {who : Who} (ok : Ok cs I s) : NextOk cs I (execStandby who s) := nextOk (rowCommand_ok (ok))

theorem execRestoreDefaults_ok {who : Who} (ok : Ok cs I s) : NextOk cs I (execRestoreDefaults who s) := nextOk (rowCommand_ok (ok))

theorem execDiscardStaged_ok {who : Who} {arg : Nat} (ok : Ok cs I s) :
    NextOk cs I (execDiscardStaged who arg s) := nextOk (rowCommand_ok (ok))

theorem execStore_ok {who : Who} {arg : Nat} (ok : Ok cs I s) : NextOk cs I (execStore who arg s) := nextOk (rowCommand_ok (ok))

theorem execSwitchHusk_ok {who : Who} {arg : Nat} (ok : Ok cs I s) :
    NextOk cs I (execSwitchHusk who arg s) := nextOk (rowCommand_ok (ok))

theorem execSwitchCore_ok {who : Who} {arg : Nat} (ok : Ok cs I s) :
    NextOk cs I (execSwitchCore who arg s) := nextOk (rowCommand_ok (ok))

theorem execSwitchSpineref_ok {who : Who} {arg : Nat} (ok : Ok cs I s) :
    NextOk cs I (execSwitchSpineref who arg s) := nextOk (rowCommand_ok (ok))

theorem execSwitchTrace_ok {who : Who} {arg : Nat} (ok : Ok cs I s) :
    NextOk cs I (execSwitchTrace who arg s) := nextOk (rowCommand_ok (ok))

theorem execGuardAck_ok {who : Who} {code arg : Nat} (ok : Ok cs I s) :
    NextOk cs I (execGuardAck who code arg s) := nextOk (rowWrite_ok (ok))

theorem execAckAll_ok {who : Who} (ok : Ok cs I s) : NextOk cs I (execAckAll who s) := nextOk (rowCommand_ok (ok))

theorem execLfxoEnable_ok {who : Who} {value : Nat} (ok : Ok cs I s) :
    NextOk cs I (execLfxoEnable who value s) := nextOk (rowWrite_ok (ok))

theorem execPodRankWrite_ok {who : Who} {sub value : Nat} (ok : Ok cs I s) :
    NextOk cs I (execPodRankWrite who sub value s) := nextOk (rowWrite_ok (ok))

theorem execDimFloorWrite_ok {who : Who} {value : Nat} (ok : Ok cs I s) :
    NextOk cs I (execDimFloorWrite who value s) := nextOk (rowWrite_ok (ok))

theorem execPaneModeWrite_ok {who : Who} {value : Nat} (ok : Ok cs I s) :
    NextOk cs I (execPaneModeWrite who value s) := nextOk (rowWrite_ok (ok))

theorem execPaneLevelWrite_ok {who : Who} {value : Nat} (ok : Ok cs I s) :
    NextOk cs I (execPaneLevelWrite who value s) := nextOk (rowWrite_ok (ok))

theorem execStripEnableWrite_ok {who : Who} {value : Nat} (ok : Ok cs I s) :
    NextOk cs I (execStripEnableWrite who value s) := nextOk (rowWrite_ok (ok))

theorem execFbDataWrite_ok {who : Who} {sub value : Nat} (ok : Ok cs I s) :
    NextOk cs I (execFbDataWrite who sub value s) := nextOk (rowWrite_ok (ok))

theorem execGateEnableWrite_ok {who : Who} {value : Nat} (ok : Ok cs I s) :
    NextOk cs I (execGateEnableWrite who value s) := nextOk (rowWrite_ok (ok))

theorem execKeyWrite_ok {who : Who} {level value : Nat} (ok : Ok cs I s) :
    NextOk cs I (execKeyWrite who level value s) := nextOk (rowWrite_ok (ok))

theorem execTraceSelectWrite_ok {who : Who} {value : Nat} (ok : Ok cs I s) :
    NextOk cs I (execTraceSelectWrite who value s) := nextOk (rowWrite_ok (ok))

theorem execWrite_ok {who : Who} {index sub typeCode length value : Nat} (ok : Ok cs I s) :
    NextOk cs I (execWrite who index sub typeCode length value s) := nextOk (rowRun_ok (ok))

theorem execReadStaged_ok {who : Who} {index sub : Nat} (ok : Ok cs I s) :
    NextOk cs I (execReadStaged who index sub s) := nextOk (rowRun_ok (ok))

theorem execFilterSnapshotRead_ok {who : Who} {p : Fin 64} {sub : Nat} (ok : Ok cs I s) :
    NextOk cs I (execFilterSnapshotRead who p sub s) := nextOk (rowRun_ok (ok))

theorem execCommit_ok {who : Who} {device : Bool} {pods : BitVec 64} (ok : Ok cs I s) :
    NextOk cs I (execCommit who device pods s) := nextOk (rowRun_ok (ok))

theorem execCommitComplete_ok (ok : Ok cs I s) : NextOk cs I (execCommitComplete s) := by
  unfold execCommitComplete
  refine nextOk ?_
  with_reducible repeat' (first
      | assumption | refine ok_ite ?_ ?_ | refine commitEnds_ok ?_ | refine resume_ok ?_ | refine settle_ok ?_
      | refine foldl_ok ?_ ?_ | refine onPods_ok ?_ ?_ | intro _ | split)

theorem execGovernorEvaluation_ok (ok : Ok cs I s) : NextOk cs I (execGovernorEvaluation s) := by
  unfold execGovernorEvaluation
  refine nextOk ?_
  with_reducible repeat' (first
      | assumption | refine ok_ite ?_ ?_ | refine evaluate_ok ?_ | refine settle_ok ?_)

theorem execVerify_ok {good : Bool} (ok : Ok cs I s) : NextOk cs I (execVerify good s) := by
  unfold execVerify
  refine nextOk ?_
  with_reducible repeat' (first
      | assumption | refine ok_ite ?_ ?_ | refine startPending_ok ?_ | refine verifyEnds_ok ?_ | refine holdStep_ok ?_
      | refine settle_ok ?_ | refine releaseHeld_ok ?_)

theorem execFrameBoundary_ok {p : Fin 64} {codes : List Int} {cm : Nat} (ok : Ok cs I s) :
    NextOk cs I (execFrameBoundary p codes cm s) := by
  unfold execFrameBoundary
  refine nextOk ?_
  with_reducible repeat' (first
      | assumption | refine ok_ite ?_ ?_ | refine frameEnds_ok ?_ | refine boundaryActs_ok ?_ | refine settle_ok ?_
      | refine serveSnapshot_ok ?_)

theorem execSwitchComplete_ok {mux : MuxName} (ok : Ok cs I s) : NextOk cs I (execSwitchComplete mux s) := by
  unfold execSwitchComplete
  refine nextOk ?_
  with_reducible repeat' (first
      | assumption | refine ok_ite ?_ ?_ | refine switchCompletes_ok ?_ | refine resumeCore_ok ?_)

theorem execRescueRelease_ok {mux : MuxName} (ok : Ok cs I s) : NextOk cs I (execRescueRelease mux s) := by
  unfold execRescueRelease
  refine nextOk ?_
  with_reducible repeat' (first
      | assumption | refine ok_ite ?_ ?_ | refine rescueReleased_ok ?_ | refine latchHeldTrips_ok ?_ | refine resumeCore_ok ?_)

theorem execResetServiceChip_ok {who : Who} (ok : Ok cs I s) : NextOk cs I (execResetServiceChip who s) :=
  nextOk (whenCore_ok (fun _ h => serviceRow_ok h) ok)

theorem execResetServicePod_ok {who : Who} {pod : Nat} {laneAnswers : Bool} (ok : Ok cs I s) : NextOk cs I (execResetServicePod who pod laneAnswers s) :=
  nextOk (whenCore_ok (fun _ h => serviceRow_ok h) ok)

theorem execResetServiceDisplay_ok {who : Who} (ok : Ok cs I s) : NextOk cs I (execResetServiceDisplay who s) :=
  nextOk (whenCore_ok (fun _ h => serviceRow_ok h) ok)

theorem execSessionOpen_ok {slot : Fin 4} {level : Nat} (ok : Ok cs I s) : NextOk cs I (execSessionOpen slot level s) :=
  nextOk (whenCore_ok (fun _ h => serviceRow_ok h) ok)

theorem execSessionProof_ok {slot : Fin 4} {number proof : Nat} (ok : Ok cs I s) : NextOk cs I (execSessionProof slot number proof s) :=
  nextOk (whenCore_ok (fun _ h => serviceRow_ok h) ok)

theorem execSessionOpenExpiry_ok {slot : Fin 4} (ok : Ok cs I s) : NextOk cs I (execSessionOpenExpiry slot s) := by
  unfold execSessionOpenExpiry
  refine nextOk ?_
  with_reducible repeat' (first
      | assumption | refine ok_ite ?_ ?_ | refine modSlot_ok ?_ | refine foldl_ok ?_ ?_ | refine onPods_ok ?_ ?_ | intro _
      | split)

theorem execSessionIdleExpiry_ok {slot : Fin 4} (ok : Ok cs I s) : NextOk cs I (execSessionIdleExpiry slot s) := by
  unfold execSessionIdleExpiry
  refine nextOk ?_
  with_reducible repeat' (first
      | assumption | refine ok_ite ?_ ?_ | refine gezorCount_ok ?_ | refine modSlot_ok ?_ | refine foldl_ok ?_ ?_
      | refine onPods_ok ?_ ?_ | intro _ | split)

theorem execSubscribe_ok {who : Who} {b : SubBody} (ok : Ok cs I s) : NextOk cs I (execSubscribe who b s) :=
  nextOk (whenCore_ok (fun _ h => serviceRow_ok h) ok)

theorem execAck_ok {slot : Option (Fin 4)} {seq : Nat} (ok : Ok cs I s) : NextOk cs I (execAck slot seq s) :=
  nextOk (whenCore_ok (fun _ h => serviceRow_ok h) ok)

theorem execTime_ok {node epoch seq body : Nat} (ok : Ok cs I s) : NextOk cs I (execTime node epoch seq body s) :=
  nextOk (ok_ite (whenCore_ok (fun _ h => timeFrame_ok h) (latchSfd_ok ok)) ok)

theorem execEvent_ok (ok : Ok cs I s) : NextOk cs I (execEvent s) := nextOk (buildEvent_ok (ok))

theorem execEventRetry_ok {seq : Nat} (ok : Ok cs I s) : NextOk cs I (execEventRetry seq s) := by
  unfold execEventRetry
  refine nextOk ?_
  with_reducible repeat' (first
      | assumption | refine ok_ite ?_ ?_ | refine retryEvent_ok ?_)

theorem execStreamSample_ok {k : Fin 8} (ok : Ok cs I s) : NextOk cs I (execStreamSample k s) := by
  unfold execStreamSample
  refine nextOk ?_
  with_reducible repeat' (first
      | assumption | refine ok_ite ?_ ?_ | refine modSub_ok ?_ | refine settle_ok ?_)

theorem execWindowEnd_ok {p : Fin 64} (ok : Ok cs I s) : NextOk cs I (execWindowEnd p s) := by
  unfold execWindowEnd
  refine nextOk ?_
  with_reducible repeat' (first
      | assumption | refine ok_ite ?_ ?_ | refine modPod_ok ?_ | refine windowStreams_ok ?_)

theorem execFrameReceive_ok {f : RxFrame} (ok : Ok cs I s) : NextOk cs I (execFrameReceive f s) := by
  unfold execFrameReceive
  refine nextOk (ok_ite ok ?_)
  have h1 : Ok cs I (noteBrc f (latchSfd s).2) := noteBrc_ok (latchSfd_ok ok)
  dsimp only
  split
  · exact linkCount_ok h1
  · exact engineReceive_ok (linkCount_ok h1)

theorem execTransmitOpportunity_ok (ok : Ok cs I s) : NextOk cs I (execTransmitOpportunity s) := by
  unfold execTransmitOpportunity
  refine nextOk ?_
  with_reducible repeat' (first
      | assumption | refine ok_ite ?_ ?_ | refine discardQueue_ok ?_ | refine transmit_ok ?_
      | (refine ok_mk rfl rfl rfl rfl rfl rfl rfl ?_; assumption))

theorem execCsmaTransmit_ok (ok : Ok cs I s) : NextOk cs I (execCsmaTransmit s) := by
  unfold execCsmaTransmit
  refine nextOk ?_
  with_reducible repeat' (first
      | assumption | refine ok_ite ?_ ?_ | refine transmit_ok ?_)

theorem execOwnFrameCollision_ok (ok : Ok cs I s) : NextOk cs I (execOwnFrameCollision s) := by
  unfold execOwnFrameCollision
  refine nextOk ?_
  with_reducible repeat' (first
      | assumption | refine ok_ite ?_ ?_ | refine collide_ok ?_)

theorem execBeacon_ok (ok : Ok cs I s) : NextOk cs I (execBeacon s) := by
  unfold execBeacon
  lift_lets
  repeat (first | (intro x; have hx : Ok cs I x := (by
    with_reducible repeat' (first
      | assumption | refine ok_ite ?_ ?_ | refine setLink_ok ?_ | refine noteBeacon_ok ?_)); clear_value x) | intro x)
  refine nextOk ?_
  with_reducible repeat' (first
      | assumption | refine ok_ite ?_ ?_ | refine setLink_ok ?_ | refine noteBeacon_ok ?_ | refine enterSilent_ok ?_
      | refine foldl_ok ?_ ?_ | refine onPods_ok ?_ ?_ | intro _ | split
      | (refine ok_mk rfl rfl rfl rfl rfl rfl rfl ?_; assumption))

theorem execBeaconTimeout_ok (ok : Ok cs I s) : NextOk cs I (execBeaconTimeout s) := by
  unfold execBeaconTimeout
  refine nextOk ?_
  with_reducible repeat' (first
      | assumption | refine ok_ite ?_ ?_ | refine setLink_ok ?_)

theorem execCoordinatorListenEnd_ok (ok : Ok cs I s) : NextOk cs I (execCoordinatorListenEnd s) := by
  unfold execCoordinatorListenEnd
  refine nextOk ?_
  with_reducible repeat' (first
      | assumption | refine ok_ite ?_ ?_ | refine setLink_ok ?_ | refine clearCause_ok ?_
      | (refine ok_mk rfl rfl rfl rfl rfl rfl rfl ?_; assumption) | refine ok_mk rfl rfl rfl rfl rfl rfl rfl ?_)

theorem execForeignBeacon_ok (ok : Ok cs I s) : NextOk cs I (execForeignBeacon s) := by
  unfold execForeignBeacon
  refine nextOk ?_
  with_reducible repeat' (first
      | assumption | refine ok_ite ?_ ?_ | refine linkCount_ok ?_ | refine noteBeacon_ok ?_ | refine enterSilent_ok ?_)

theorem execSilentHoldOffEnd_ok (ok : Ok cs I s) : NextOk cs I (execSilentHoldOffEnd s) := by
  unfold execSilentHoldOffEnd
  refine nextOk ?_
  with_reducible repeat' (first
      | assumption | refine ok_ite ?_ ?_ | refine linkJoin_ok ?_)

theorem execIntrusion_ok {collision : Bool} (ok : Ok cs I s) : NextOk cs I (execIntrusion collision s) := by
  unfold execIntrusion
  refine nextOk ?_
  with_reducible repeat' (first
      | assumption | refine ok_ite ?_ ?_ | refine linkCount_ok ?_ | refine raise_ok ?_ | refine clearCause_ok ?_
      | refine collide_ok ?_ | (refine ok_mk rfl rfl rfl rfl rfl rfl rfl ?_; assumption))

theorem execOwnJabber_ok (ok : Ok cs I s) : NextOk cs I (execOwnJabber s) := by
  unfold execOwnJabber
  refine nextOk ?_
  with_reducible repeat' (first
      | assumption | refine ok_ite ?_ ?_ | refine linkCount_ok ?_ | refine raise_ok ?_ | refine dropHead_ok ?_)

theorem execRemoteJabber_ok (ok : Ok cs I s) : NextOk cs I (execRemoteJabber s) := by
  unfold execRemoteJabber
  refine nextOk ?_
  with_reducible repeat' (first
      | assumption | refine ok_ite ?_ ?_ | refine linkCount_ok ?_)

theorem execSymbolErrorInterval_ok {count : Nat} (ok : Ok cs I s) : NextOk cs I (execSymbolErrorInterval count s) := by
  unfold execSymbolErrorInterval
  refine nextOk ?_
  with_reducible repeat' (first
      | assumption | refine ok_ite ?_ ?_ | refine raise_ok ?_ | refine clearCause_ok ?_)

theorem execTraceRecord_ok (ok : Ok cs I s) : NextOk cs I (execTraceRecord s) := by
  unfold execTraceRecord
  refine nextOk ?_
  split
  · exact ok
  · rename_i r rest hq
    refine ok_ite (emitRecord_ok (emitMarkers_ok (ok_any ok rfl ?_))) ok
    rintro ⟨a, b, c⟩
    refine ⟨a, ?_, c⟩
    rw [hq, List.length_cons] at b
    dsimp only
    omega

theorem execTraceSync_ok (ok : Ok cs I s) : NextOk cs I (execTraceSync s) := by
  unfold execTraceSync
  refine nextOk ?_
  with_reducible repeat' (first
      | assumption | refine ok_ite ?_ ?_ | refine emitSync_ok ?_ | (refine ok_mk rfl rfl rfl rfl rfl rfl rfl ?_; assumption))

end Sys2Proof.Laws
end

