-- ==== Sys2Proof/Laws/State.lean ====
section
/-! SUPPORT. What each plain update of the state leaves as it is, field by field, and what a read of one Pod gives after a
change of one Pod; so that no proof unfolds a record update. -/

namespace Sys2Proof.Machine

@[simp] theorem modPod_chip (p : Nat) (f : Pod → Pod) (s : State) : (modPod p f s).chip = s.chip := rfl
@[simp] theorem modPod_power (p : Nat) (f : Pod → Pod) (s : State) : (modPod p f s).power = s.power := rfl
@[simp] theorem modPod_clocks (p : Nat) (f : Pod → Pod) (s : State) : (modPod p f s).clocks = s.clocks := rfl
@[simp] theorem modPod_time (p : Nat) (f : Pod → Pod) (s : State) : (modPod p f s).time = s.time := rfl
@[simp] theorem modPod_dict (p : Nat) (f : Pod → Pod) (s : State) : (modPod p f s).dict = s.dict := rfl
@[simp] theorem modPod_shell (p : Nat) (f : Pod → Pod) (s : State) : (modPod p f s).shell = s.shell := rfl
@[simp] theorem modPod_guard (p : Nat) (f : Pod → Pod) (s : State) : (modPod p f s).guard = s.guard := rfl
@[simp] theorem modPod_panel (p : Nat) (f : Pod → Pod) (s : State) : (modPod p f s).panel = s.panel := rfl
@[simp] theorem modPod_link (p : Nat) (f : Pod → Pod) (s : State) : (modPod p f s).link = s.link := rfl
@[simp] theorem modPod_engine (p : Nat) (f : Pod → Pod) (s : State) : (modPod p f s).engine = s.engine := rfl
@[simp] theorem modPod_obs (p : Nat) (f : Pod → Pod) (s : State) : (modPod p f s).obs = s.obs := rfl
@[simp] theorem modPod_fresh (p : Nat) (f : Pod → Pod) (s : State) : (modPod p f s).fresh = s.fresh := rfl
@[simp] theorem modPod_pending (p : Nat) (f : Pod → Pod) (s : State) : (modPod p f s).pending = s.pending := rfl

@[simp] theorem podCommand_chip (p code arg completion : Nat) (s : State) : (podCommand p code arg completion s).chip = s.chip := rfl
@[simp] theorem podCommand_power (p code arg completion : Nat) (s : State) : (podCommand p code arg completion s).power = s.power := rfl
@[simp] theorem podCommand_clocks (p code arg completion : Nat) (s : State) : (podCommand p code arg completion s).clocks = s.clocks := rfl
@[simp] theorem podCommand_time (p code arg completion : Nat) (s : State) : (podCommand p code arg completion s).time = s.time := rfl
@[simp] theorem podCommand_dict (p code arg completion : Nat) (s : State) : (podCommand p code arg completion s).dict = s.dict := rfl
@[simp] theorem podCommand_shell (p code arg completion : Nat) (s : State) : (podCommand p code arg completion s).shell = s.shell := rfl
@[simp] theorem podCommand_guard (p code arg completion : Nat) (s : State) : (podCommand p code arg completion s).guard = s.guard := rfl
@[simp] theorem podCommand_panel (p code arg completion : Nat) (s : State) : (podCommand p code arg completion s).panel = s.panel := rfl
@[simp] theorem podCommand_link (p code arg completion : Nat) (s : State) : (podCommand p code arg completion s).link = s.link := rfl
@[simp] theorem podCommand_engine (p code arg completion : Nat) (s : State) : (podCommand p code arg completion s).engine = s.engine := rfl
@[simp] theorem podCommand_obs (p code arg completion : Nat) (s : State) : (podCommand p code arg completion s).obs = s.obs := rfl
@[simp] theorem podCommand_fresh (p code arg completion : Nat) (s : State) : (podCommand p code arg completion s).fresh = s.fresh := rfl
@[simp] theorem podCommand_pending (p code arg completion : Nat) (s : State) : (podCommand p code arg completion s).pending = s.pending := rfl

@[simp] theorem podComplete_chip (p completion : Nat) (s : State) : (podComplete p completion s).chip = s.chip := rfl
@[simp] theorem podComplete_power (p completion : Nat) (s : State) : (podComplete p completion s).power = s.power := rfl
@[simp] theorem podComplete_clocks (p completion : Nat) (s : State) : (podComplete p completion s).clocks = s.clocks := rfl
@[simp] theorem podComplete_time (p completion : Nat) (s : State) : (podComplete p completion s).time = s.time := rfl
@[simp] theorem podComplete_dict (p completion : Nat) (s : State) : (podComplete p completion s).dict = s.dict := rfl
@[simp] theorem podComplete_shell (p completion : Nat) (s : State) : (podComplete p completion s).shell = s.shell := rfl
@[simp] theorem podComplete_guard (p completion : Nat) (s : State) : (podComplete p completion s).guard = s.guard := rfl
@[simp] theorem podComplete_panel (p completion : Nat) (s : State) : (podComplete p completion s).panel = s.panel := rfl
@[simp] theorem podComplete_link (p completion : Nat) (s : State) : (podComplete p completion s).link = s.link := rfl
@[simp] theorem podComplete_engine (p completion : Nat) (s : State) : (podComplete p completion s).engine = s.engine := rfl
@[simp] theorem podComplete_obs (p completion : Nat) (s : State) : (podComplete p completion s).obs = s.obs := rfl
@[simp] theorem podComplete_fresh (p completion : Nat) (s : State) : (podComplete p completion s).fresh = s.fresh := rfl
@[simp] theorem podComplete_pending (p completion : Nat) (s : State) : (podComplete p completion s).pending = s.pending := rfl

@[simp] theorem podCount_chip (p k n : Nat) (s : State) : (podCount p k n s).chip = s.chip := rfl
@[simp] theorem podCount_power (p k n : Nat) (s : State) : (podCount p k n s).power = s.power := rfl
@[simp] theorem podCount_clocks (p k n : Nat) (s : State) : (podCount p k n s).clocks = s.clocks := rfl
@[simp] theorem podCount_time (p k n : Nat) (s : State) : (podCount p k n s).time = s.time := rfl
@[simp] theorem podCount_dict (p k n : Nat) (s : State) : (podCount p k n s).dict = s.dict := rfl
@[simp] theorem podCount_shell (p k n : Nat) (s : State) : (podCount p k n s).shell = s.shell := rfl
@[simp] theorem podCount_guard (p k n : Nat) (s : State) : (podCount p k n s).guard = s.guard := rfl
@[simp] theorem podCount_panel (p k n : Nat) (s : State) : (podCount p k n s).panel = s.panel := rfl
@[simp] theorem podCount_link (p k n : Nat) (s : State) : (podCount p k n s).link = s.link := rfl
@[simp] theorem podCount_engine (p k n : Nat) (s : State) : (podCount p k n s).engine = s.engine := rfl
@[simp] theorem podCount_obs (p k n : Nat) (s : State) : (podCount p k n s).obs = s.obs := rfl
@[simp] theorem podCount_fresh (p k n : Nat) (s : State) : (podCount p k n s).fresh = s.fresh := rfl
@[simp] theorem podCount_pending (p k n : Nat) (s : State) : (podCount p k n s).pending = s.pending := rfl

@[simp] theorem setDev_chip (index sub v : Nat) (s : State) : (setDev index sub v s).chip = s.chip := rfl
@[simp] theorem setDev_power (index sub v : Nat) (s : State) : (setDev index sub v s).power = s.power := rfl
@[simp] theorem setDev_clocks (index sub v : Nat) (s : State) : (setDev index sub v s).clocks = s.clocks := rfl
@[simp] theorem setDev_time (index sub v : Nat) (s : State) : (setDev index sub v s).time = s.time := rfl
@[simp] theorem setDev_pods (index sub v : Nat) (s : State) : (setDev index sub v s).pods = s.pods := rfl
@[simp] theorem setDev_shell (index sub v : Nat) (s : State) : (setDev index sub v s).shell = s.shell := rfl
@[simp] theorem setDev_guard (index sub v : Nat) (s : State) : (setDev index sub v s).guard = s.guard := rfl
@[simp] theorem setDev_panel (index sub v : Nat) (s : State) : (setDev index sub v s).panel = s.panel := rfl
@[simp] theorem setDev_link (index sub v : Nat) (s : State) : (setDev index sub v s).link = s.link := rfl
@[simp] theorem setDev_engine (index sub v : Nat) (s : State) : (setDev index sub v s).engine = s.engine := rfl
@[simp] theorem setDev_obs (index sub v : Nat) (s : State) : (setDev index sub v s).obs = s.obs := rfl
@[simp] theorem setDev_fresh (index sub v : Nat) (s : State) : (setDev index sub v s).fresh = s.fresh := rfl
@[simp] theorem setDev_pending (index sub v : Nat) (s : State) : (setDev index sub v s).pending = s.pending := rfl

@[simp] theorem hubCount_chip (k : Nat) (s : State) : (hubCount k s).chip = s.chip := rfl
@[simp] theorem hubCount_power (k : Nat) (s : State) : (hubCount k s).power = s.power := rfl
@[simp] theorem hubCount_clocks (k : Nat) (s : State) : (hubCount k s).clocks = s.clocks := rfl
@[simp] theorem hubCount_time (k : Nat) (s : State) : (hubCount k s).time = s.time := rfl
@[simp] theorem hubCount_dict (k : Nat) (s : State) : (hubCount k s).dict = s.dict := rfl
@[simp] theorem hubCount_pods (k : Nat) (s : State) : (hubCount k s).pods = s.pods := rfl
@[simp] theorem hubCount_shell (k : Nat) (s : State) : (hubCount k s).shell = s.shell := rfl
@[simp] theorem hubCount_guard (k : Nat) (s : State) : (hubCount k s).guard = s.guard := rfl
@[simp] theorem hubCount_panel (k : Nat) (s : State) : (hubCount k s).panel = s.panel := rfl
@[simp] theorem hubCount_link (k : Nat) (s : State) : (hubCount k s).link = s.link := rfl
@[simp] theorem hubCount_engine (k : Nat) (s : State) : (hubCount k s).engine = s.engine := rfl
@[simp] theorem hubCount_fresh (k : Nat) (s : State) : (hubCount k s).fresh = s.fresh := rfl
@[simp] theorem hubCount_pending (k : Nat) (s : State) : (hubCount k s).pending = s.pending := rfl

@[simp] theorem linkCount_chip (k : Nat) (s : State) : (linkCount k s).chip = s.chip := rfl
@[simp] theorem linkCount_power (k : Nat) (s : State) : (linkCount k s).power = s.power := rfl
@[simp] theorem linkCount_clocks (k : Nat) (s : State) : (linkCount k s).clocks = s.clocks := rfl
@[simp] theorem linkCount_time (k : Nat) (s : State) : (linkCount k s).time = s.time := rfl
@[simp] theorem linkCount_dict (k : Nat) (s : State) : (linkCount k s).dict = s.dict := rfl
@[simp] theorem linkCount_pods (k : Nat) (s : State) : (linkCount k s).pods = s.pods := rfl
@[simp] theorem linkCount_shell (k : Nat) (s : State) : (linkCount k s).shell = s.shell := rfl
@[simp] theorem linkCount_guard (k : Nat) (s : State) : (linkCount k s).guard = s.guard := rfl
@[simp] theorem linkCount_panel (k : Nat) (s : State) : (linkCount k s).panel = s.panel := rfl
@[simp] theorem linkCount_engine (k : Nat) (s : State) : (linkCount k s).engine = s.engine := rfl
@[simp] theorem linkCount_obs (k : Nat) (s : State) : (linkCount k s).obs = s.obs := rfl
@[simp] theorem linkCount_fresh (k : Nat) (s : State) : (linkCount k s).fresh = s.fresh := rfl
@[simp] theorem linkCount_pending (k : Nat) (s : State) : (linkCount k s).pending = s.pending := rfl

@[simp] theorem gezorCount_chip (k : Nat) (s : State) : (gezorCount k s).chip = s.chip := rfl
@[simp] theorem gezorCount_power (k : Nat) (s : State) : (gezorCount k s).power = s.power := rfl
@[simp] theorem gezorCount_clocks (k : Nat) (s : State) : (gezorCount k s).clocks = s.clocks := rfl
@[simp] theorem gezorCount_time (k : Nat) (s : State) : (gezorCount k s).time = s.time := rfl
@[simp] theorem gezorCount_dict (k : Nat) (s : State) : (gezorCount k s).dict = s.dict := rfl
@[simp] theorem gezorCount_pods (k : Nat) (s : State) : (gezorCount k s).pods = s.pods := rfl
@[simp] theorem gezorCount_shell (k : Nat) (s : State) : (gezorCount k s).shell = s.shell := rfl
@[simp] theorem gezorCount_guard (k : Nat) (s : State) : (gezorCount k s).guard = s.guard := rfl
@[simp] theorem gezorCount_panel (k : Nat) (s : State) : (gezorCount k s).panel = s.panel := rfl
@[simp] theorem gezorCount_link (k : Nat) (s : State) : (gezorCount k s).link = s.link := rfl
@[simp] theorem gezorCount_obs (k : Nat) (s : State) : (gezorCount k s).obs = s.obs := rfl
@[simp] theorem gezorCount_fresh (k : Nat) (s : State) : (gezorCount k s).fresh = s.fresh := rfl
@[simp] theorem gezorCount_pending (k : Nat) (s : State) : (gezorCount k s).pending = s.pending := rfl

@[simp] theorem modSlot_chip (q : Nat) (f : Requester → Requester) (s : State) : (modSlot q f s).chip = s.chip := rfl
@[simp] theorem modSlot_power (q : Nat) (f : Requester → Requester) (s : State) : (modSlot q f s).power = s.power := rfl
@[simp] theorem modSlot_clocks (q : Nat) (f : Requester → Requester) (s : State) : (modSlot q f s).clocks = s.clocks := rfl
@[simp] theorem modSlot_time (q : Nat) (f : Requester → Requester) (s : State) : (modSlot q f s).time = s.time := rfl
@[simp] theorem modSlot_dict (q : Nat) (f : Requester → Requester) (s : State) : (modSlot q f s).dict = s.dict := rfl
@[simp] theorem modSlot_pods (q : Nat) (f : Requester → Requester) (s : State) : (modSlot q f s).pods = s.pods := rfl
@[simp] theorem modSlot_shell (q : Nat) (f : Requester → Requester) (s : State) : (modSlot q f s).shell = s.shell := rfl
@[simp] theorem modSlot_guard (q : Nat) (f : Requester → Requester) (s : State) : (modSlot q f s).guard = s.guard := rfl
@[simp] theorem modSlot_panel (q : Nat) (f : Requester → Requester) (s : State) : (modSlot q f s).panel = s.panel := rfl
@[simp] theorem modSlot_link (q : Nat) (f : Requester → Requester) (s : State) : (modSlot q f s).link = s.link := rfl
@[simp] theorem modSlot_obs (q : Nat) (f : Requester → Requester) (s : State) : (modSlot q f s).obs = s.obs := rfl
@[simp] theorem modSlot_fresh (q : Nat) (f : Requester → Requester) (s : State) : (modSlot q f s).fresh = s.fresh := rfl
@[simp] theorem modSlot_pending (q : Nat) (f : Requester → Requester) (s : State) : (modSlot q f s).pending = s.pending := rfl

@[simp] theorem modSub_chip (k : Nat) (f : Sub → Sub) (s : State) : (modSub k f s).chip = s.chip := rfl
@[simp] theorem modSub_power (k : Nat) (f : Sub → Sub) (s : State) : (modSub k f s).power = s.power := rfl
@[simp] theorem modSub_clocks (k : Nat) (f : Sub → Sub) (s : State) : (modSub k f s).clocks = s.clocks := rfl
@[simp] theorem modSub_time (k : Nat) (f : Sub → Sub) (s : State) : (modSub k f s).time = s.time := rfl
@[simp] theorem modSub_dict (k : Nat) (f : Sub → Sub) (s : State) : (modSub k f s).dict = s.dict := rfl
@[simp] theorem modSub_pods (k : Nat) (f : Sub → Sub) (s : State) : (modSub k f s).pods = s.pods := rfl
@[simp] theorem modSub_shell (k : Nat) (f : Sub → Sub) (s : State) : (modSub k f s).shell = s.shell := rfl
@[simp] theorem modSub_guard (k : Nat) (f : Sub → Sub) (s : State) : (modSub k f s).guard = s.guard := rfl
@[simp] theorem modSub_panel (k : Nat) (f : Sub → Sub) (s : State) : (modSub k f s).panel = s.panel := rfl
@[simp] theorem modSub_link (k : Nat) (f : Sub → Sub) (s : State) : (modSub k f s).link = s.link := rfl
@[simp] theorem modSub_obs (k : Nat) (f : Sub → Sub) (s : State) : (modSub k f s).obs = s.obs := rfl
@[simp] theorem modSub_fresh (k : Nat) (f : Sub → Sub) (s : State) : (modSub k f s).fresh = s.fresh := rfl
@[simp] theorem modSub_pending (k : Nat) (f : Sub → Sub) (s : State) : (modSub k f s).pending = s.pending := rfl

@[simp] theorem putRunning_chip (r : Running) (s : State) : (putRunning r s).chip = s.chip := rfl
@[simp] theorem putRunning_power (r : Running) (s : State) : (putRunning r s).power = s.power := rfl
@[simp] theorem putRunning_clocks (r : Running) (s : State) : (putRunning r s).clocks = s.clocks := rfl
@[simp] theorem putRunning_time (r : Running) (s : State) : (putRunning r s).time = s.time := rfl
@[simp] theorem putRunning_dict (r : Running) (s : State) : (putRunning r s).dict = s.dict := rfl
@[simp] theorem putRunning_pods (r : Running) (s : State) : (putRunning r s).pods = s.pods := rfl
@[simp] theorem putRunning_shell (r : Running) (s : State) : (putRunning r s).shell = s.shell := rfl
@[simp] theorem putRunning_guard (r : Running) (s : State) : (putRunning r s).guard = s.guard := rfl
@[simp] theorem putRunning_panel (r : Running) (s : State) : (putRunning r s).panel = s.panel := rfl
@[simp] theorem putRunning_link (r : Running) (s : State) : (putRunning r s).link = s.link := rfl
@[simp] theorem putRunning_obs (r : Running) (s : State) : (putRunning r s).obs = s.obs := rfl
@[simp] theorem putRunning_fresh (r : Running) (s : State) : (putRunning r s).fresh = s.fresh := rfl
@[simp] theorem putRunning_pending (r : Running) (s : State) : (putRunning r s).pending = s.pending := rfl

@[simp] theorem modInst_chip (k : Nat) (f : Inst → Inst) (s : State) : (modInst k f s).chip = s.chip := rfl
@[simp] theorem modInst_power (k : Nat) (f : Inst → Inst) (s : State) : (modInst k f s).power = s.power := rfl
@[simp] theorem modInst_clocks (k : Nat) (f : Inst → Inst) (s : State) : (modInst k f s).clocks = s.clocks := rfl
@[simp] theorem modInst_time (k : Nat) (f : Inst → Inst) (s : State) : (modInst k f s).time = s.time := rfl
@[simp] theorem modInst_dict (k : Nat) (f : Inst → Inst) (s : State) : (modInst k f s).dict = s.dict := rfl
@[simp] theorem modInst_pods (k : Nat) (f : Inst → Inst) (s : State) : (modInst k f s).pods = s.pods := rfl
@[simp] theorem modInst_shell (k : Nat) (f : Inst → Inst) (s : State) : (modInst k f s).shell = s.shell := rfl
@[simp] theorem modInst_panel (k : Nat) (f : Inst → Inst) (s : State) : (modInst k f s).panel = s.panel := rfl
@[simp] theorem modInst_link (k : Nat) (f : Inst → Inst) (s : State) : (modInst k f s).link = s.link := rfl
@[simp] theorem modInst_engine (k : Nat) (f : Inst → Inst) (s : State) : (modInst k f s).engine = s.engine := rfl
@[simp] theorem modInst_obs (k : Nat) (f : Inst → Inst) (s : State) : (modInst k f s).obs = s.obs := rfl
@[simp] theorem modInst_fresh (k : Nat) (f : Inst → Inst) (s : State) : (modInst k f s).fresh = s.fresh := rfl
@[simp] theorem modInst_pending (k : Nat) (f : Inst → Inst) (s : State) : (modInst k f s).pending = s.pending := rfl

@[simp] theorem trigger_chip (code pod : Nat) (s : State) : (trigger code pod s).chip = s.chip := rfl
@[simp] theorem trigger_clocks (code pod : Nat) (s : State) : (trigger code pod s).clocks = s.clocks := rfl
@[simp] theorem trigger_time (code pod : Nat) (s : State) : (trigger code pod s).time = s.time := rfl
@[simp] theorem trigger_dict (code pod : Nat) (s : State) : (trigger code pod s).dict = s.dict := rfl
@[simp] theorem trigger_pods (code pod : Nat) (s : State) : (trigger code pod s).pods = s.pods := rfl
@[simp] theorem trigger_shell (code pod : Nat) (s : State) : (trigger code pod s).shell = s.shell := rfl
@[simp] theorem trigger_guard (code pod : Nat) (s : State) : (trigger code pod s).guard = s.guard := rfl
@[simp] theorem trigger_panel (code pod : Nat) (s : State) : (trigger code pod s).panel = s.panel := rfl
@[simp] theorem trigger_link (code pod : Nat) (s : State) : (trigger code pod s).link = s.link := rfl
@[simp] theorem trigger_engine (code pod : Nat) (s : State) : (trigger code pod s).engine = s.engine := rfl
@[simp] theorem trigger_obs (code pod : Nat) (s : State) : (trigger code pod s).obs = s.obs := rfl
@[simp] theorem trigger_fresh (code pod : Nat) (s : State) : (trigger code pod s).fresh = s.fresh := rfl
@[simp] theorem trigger_pending (code pod : Nat) (s : State) : (trigger code pod s).pending = s.pending := rfl

@[simp] theorem setChip_power (c : ChipState) (s : State) : (setChip c s).power = s.power := rfl
@[simp] theorem setChip_clocks (c : ChipState) (s : State) : (setChip c s).clocks = s.clocks := rfl
@[simp] theorem setChip_time (c : ChipState) (s : State) : (setChip c s).time = s.time := rfl
@[simp] theorem setChip_dict (c : ChipState) (s : State) : (setChip c s).dict = s.dict := rfl
@[simp] theorem setChip_pods (c : ChipState) (s : State) : (setChip c s).pods = s.pods := rfl
@[simp] theorem setChip_shell (c : ChipState) (s : State) : (setChip c s).shell = s.shell := rfl
@[simp] theorem setChip_guard (c : ChipState) (s : State) : (setChip c s).guard = s.guard := rfl
@[simp] theorem setChip_panel (c : ChipState) (s : State) : (setChip c s).panel = s.panel := rfl
@[simp] theorem setChip_link (c : ChipState) (s : State) : (setChip c s).link = s.link := rfl
@[simp] theorem setChip_engine (c : ChipState) (s : State) : (setChip c s).engine = s.engine := rfl
@[simp] theorem setChip_obs (c : ChipState) (s : State) : (setChip c s).obs = s.obs := rfl
@[simp] theorem setChip_fresh (c : ChipState) (s : State) : (setChip c s).fresh = s.fresh := rfl
@[simp] theorem setChip_pending (c : ChipState) (s : State) : (setChip c s).pending = s.pending := rfl

@[simp] theorem chipCommand_power (code arg completion : Nat) (s : State) : (chipCommand code arg completion s).power = s.power := rfl
@[simp] theorem chipCommand_clocks (code arg completion : Nat) (s : State) : (chipCommand code arg completion s).clocks = s.clocks := rfl
@[simp] theorem chipCommand_time (code arg completion : Nat) (s : State) : (chipCommand code arg completion s).time = s.time := rfl
@[simp] theorem chipCommand_dict (code arg completion : Nat) (s : State) : (chipCommand code arg completion s).dict = s.dict := rfl
@[simp] theorem chipCommand_pods (code arg completion : Nat) (s : State) : (chipCommand code arg completion s).pods = s.pods := rfl
@[simp] theorem chipCommand_shell (code arg completion : Nat) (s : State) : (chipCommand code arg completion s).shell = s.shell := rfl
@[simp] theorem chipCommand_guard (code arg completion : Nat) (s : State) : (chipCommand code arg completion s).guard = s.guard := rfl
@[simp] theorem chipCommand_panel (code arg completion : Nat) (s : State) : (chipCommand code arg completion s).panel = s.panel := rfl
@[simp] theorem chipCommand_link (code arg completion : Nat) (s : State) : (chipCommand code arg completion s).link = s.link := rfl
@[simp] theorem chipCommand_engine (code arg completion : Nat) (s : State) : (chipCommand code arg completion s).engine = s.engine := rfl
@[simp] theorem chipCommand_obs (code arg completion : Nat) (s : State) : (chipCommand code arg completion s).obs = s.obs := rfl
@[simp] theorem chipCommand_fresh (code arg completion : Nat) (s : State) : (chipCommand code arg completion s).fresh = s.fresh := rfl
@[simp] theorem chipCommand_pending (code arg completion : Nat) (s : State) : (chipCommand code arg completion s).pending = s.pending := rfl

@[simp] theorem laneDone_chip (p : Nat) (s : State) : (laneDone p s).chip = s.chip := rfl
@[simp] theorem laneDone_power (p : Nat) (s : State) : (laneDone p s).power = s.power := rfl
@[simp] theorem laneDone_clocks (p : Nat) (s : State) : (laneDone p s).clocks = s.clocks := rfl
@[simp] theorem laneDone_time (p : Nat) (s : State) : (laneDone p s).time = s.time := rfl
@[simp] theorem laneDone_dict (p : Nat) (s : State) : (laneDone p s).dict = s.dict := rfl
@[simp] theorem laneDone_shell (p : Nat) (s : State) : (laneDone p s).shell = s.shell := rfl
@[simp] theorem laneDone_guard (p : Nat) (s : State) : (laneDone p s).guard = s.guard := rfl
@[simp] theorem laneDone_panel (p : Nat) (s : State) : (laneDone p s).panel = s.panel := rfl
@[simp] theorem laneDone_link (p : Nat) (s : State) : (laneDone p s).link = s.link := rfl
@[simp] theorem laneDone_engine (p : Nat) (s : State) : (laneDone p s).engine = s.engine := rfl
@[simp] theorem laneDone_pending (p : Nat) (s : State) : (laneDone p s).pending = s.pending := rfl

@[simp] theorem podAt_modPod {p : Nat} (h : p < 64) (f : Pod → Pod) (s : State) : podAt (modPod p f s) p = f (podAt s p) := by
  simp [podAt, modPod, putAt, Vector.getD, h]

@[simp] theorem podAt_modPod_ne {p r : Nat} (h : r ≠ p) (f : Pod → Pod) (s : State) : podAt (modPod p f s) r = podAt s r := by
  simp only [podAt, modPod, putAt, Vector.getD]
  simp only [Array.getD, Vector.size_toArray, Vector.toArray_setIfInBounds, Array.size_setIfInBounds]
  split
  · exact (Array.getElem_setIfInBounds_ne (by simpa) h.symm).trans (by simp)
  · rfl

/-- Two changes of one Pod are one. -/
@[simp] theorem modPod_modPod (p : Nat) (f g : Pod → Pod) (s : State) : modPod p f (modPod p g s) = modPod p (fun d => f (g d)) s := by
  by_cases h : p < 64
  · have e : podAt (modPod p g s) p = g (podAt s p) := podAt_modPod h g s
    unfold modPod at *
    rw [e]
    simp [putAt]
  · have e : ∀ (v : Vector Pod 64) x, putAt v p x = v := fun v x => by
      apply Vector.toArray_inj.mp
      simp [putAt, Array.setIfInBounds, h]
    simp [modPod, e]

@[simp] theorem podAt_podCommand {p : Nat} (h : p < 64) (code arg completion : Nat) (s : State) :
    podAt (podCommand p code arg completion s) p = { podAt s p with command := commandWord code arg completion } := podAt_modPod h _ s

@[simp] theorem slotOf_modSlot {q : Nat} (h : q < 4) (f : Requester → Requester) (s : State) : slotOf (modSlot q f s) q = f (slotOf s q) := by
  simp [slotOf, modSlot, putAt, Vector.getD, h]

@[simp] theorem subAt_modSub {k : Nat} (h : k < 8) (f : Sub → Sub) (s : State) : subAt (modSub k f s) k = f (subAt s k) := by
  simp [subAt, modSub, putAt, Vector.getD, h]

@[simp] theorem instAt_modInst {k : Nat} (h : k < 72) (f : Inst → Inst) (s : State) : instAt (modInst k f s) k = f (instAt s k) := by
  simp [instAt, modInst, putAt, Vector.getD, h]

@[simp] theorem instAt_modInst_ne {k j : Nat} (h : j ≠ k) (f : Inst → Inst) (s : State) : instAt (modInst k f s) j = instAt s j := by
  simp only [instAt, modInst, putAt, Vector.getD]
  simp only [Array.getD, Vector.size_toArray, Vector.toArray_setIfInBounds, Array.size_setIfInBounds]
  split
  · exact (Array.getElem_setIfInBounds_ne (by simpa) h.symm).trans (by simp)
  · rfl

end Sys2Proof.Machine
end

