-- ==== Sys2Proof/Machine/Rom.lean ====
section
/-! DEFINITION. What the filter ROM of every device keeps (R305, R307-R309, R313): the coefficients are constants without a body, and
`RomSound` says which ones the spec allows (log 11). Frequencies are in Hz. -/

namespace Sys2Proof.Machine

/-- Coefficient i of ROM r as a number. -/
def tapValue (r i : Nat) : ℚ := (Config.romTap r i).toInt / 2 ^ Config.romFraction r

/-- `g` is the frequency response of n taps at a sample rate. -/
def FirResponse (taps : Nat → ℚ) (n : Nat) (rate : ℝ) (g : ℝ → ℂ) : Prop :=
  ∀ f, g f = ∑ k ∈ Finset.range n, (taps k : ℂ) * Complex.exp ((-(2 * Real.pi * f * k / rate) : ℝ) * Complex.I)

/-- `c` is the gain of the CIC decimator (R302, R305), 1 at 0 Hz. -/
def CicGain (c : ℝ → ℝ) : Prop :=
  c 0 = 1 ∧ ∀ f, 0 < f → f ≤ 4000 → c f = (Real.sin (Real.pi * f / 8000) / (16 * Real.sin (Real.pi * f / 128000))) ^ 4

/-- `h` is the response of the leaky integrator of F5 (R309). -/
def IntegratorResponse (h : ℝ → ℂ) : Prop :=
  ∀ f z, z = Complex.exp ((-(2 * Real.pi * f / 8000) : ℝ) * Complex.I) → h f * (1 - 1023 / 1024 * z) = (1 + z) / 2

/-- From lo to hi the gain stays within 20 / n dB of 1: 1/4000 of 20 dB is 0.005 dB, 1/10000 is 0.002 dB (R307). -/
def FlatBand (gain : ℝ → ℝ) (lo hi : ℝ) (n : Nat) : Prop := ∀ f, lo ≤ f → f ≤ hi → gain f ^ n ≤ 10 ∧ 1 ≤ 10 * gain f ^ n

/-- From lo to hi the gain is at most -10 a dB (R307). -/
def StopBand (gain : ℝ → ℝ) (lo hi : ℝ) (a : Nat) : Prop := ∀ f, lo ≤ f → f ≤ hi → 10 ^ a * gain f ^ 2 ≤ 1

/-- Between a passband edge and a stopband edge: never above the ripple limit, and monotone (R307). -/
def TransitionBand (gain : ℝ → ℝ) (lo hi : ℝ) (n : Nat) : Prop :=
  (∀ f, lo ≤ f → f ≤ hi → gain f ^ n ≤ 10) ∧ (AntitoneOn gain (Set.Icc lo hi) ∨ MonotoneOn gain (Set.Icc lo hi))

/-- A low-pass row of R307: passband to p with its ripple, stopband from q to 4 kHz with its attenuation. -/
def LowPass (gain : ℝ → ℝ) (p q : ℝ) (n a : Nat) : Prop := FlatBand gain 0 p n ∧ StopBand gain q 4000 a ∧ TransitionBand gain p q n

/-- The rows of F0 and F2, which correct the droop of the CIC (R305), and of F1; F7 uses the taps of F0 (R310). -/
def FlatRows (tap : Nat → Nat → ℚ) : Prop :=
  ∀ c g0 g1 g2, CicGain c → FirResponse (tap 0) 63 8000 g0 → FirResponse (tap 1) 127 8000 g1 → FirResponse (tap 2) 63 8000 g2 →
    LowPass (fun f => c f * ‖g0 f‖) 3200 3800 4000 7 ∧ LowPass (fun f => ‖g1 f‖) 1000 1400 4000 9 ∧
    LowPass (fun f => c f * ‖g2 f‖) 1600 2400 4000 9

/-- The rows of F3 and F4, behind the prefilter and its decimation (R307, R308): band-pass about the mains frequencies. -/
def BandPass (gain : ℝ → ℝ) : Prop :=
  FlatBand gain 42 68 10000 ∧ StopBand gain 0 25 8 ∧ StopBand gain 90 500 8 ∧ TransitionBand gain 25 42 10000 ∧ TransitionBand gain 68 90 10000

/-- F3 and F4, and the two outputs of F3 over 45-65 Hz: amplitudes within 0.005 %, the quadrature output 90 degrees behind within
0.005 degrees (R308). -/
def FundamentalRows (tap : Nat → Nat → ℚ) : Prop :=
  ∀ p i q, FirResponse (tap 8) 127 8000 p → FirResponse (tap 4) 255 1000 i → FirResponse (tap 9) 255 1000 q →
    BandPass (fun f => ‖p f‖ * ‖i f‖) ∧ BandPass (fun f => ‖p f‖ * ‖q f‖) ∧
    ∀ f, 45 ≤ f → f ≤ 65 →
      |‖q f‖ - ‖i f‖| ≤ 0.00005 * ‖i f‖ ∧ (q f * star (i f)).im < 0 ∧
      |(q f * star (i f)).re| ≤ Real.tan (Real.pi / 36000) * |(q f * star (i f)).im|

/-- F5 behind the CIC and its integrator (R307, R309): gain 50 Hz / f; over 40-3200 Hz the phase is -90 degrees within 0.005 against the
delay of 31.5 CIC outputs; the gain at 0 Hz at most 41 times that at 50 Hz. -/
def RogowskiRow (tap : Nat → Nat → ℚ) : Prop :=
  ∀ c h g, CicGain c → IntegratorResponse h → FirResponse (tap 5) 63 8000 g →
    FlatBand (fun f => f / 50 * (c f * ‖h f * g f‖)) 5 3200 4000 ∧ StopBand (fun f => c f * ‖h f * g f‖) 3800 4000 7 ∧
    TransitionBand (fun f => c f * ‖h f * g f‖) 3200 3800 4000 ∧
    (∀ f w, 40 ≤ f → f ≤ 3200 → w = h f * g f * Complex.exp ((2 * Real.pi * f * 31.5 / 8000 : ℝ) * Complex.I) →
      w.im < 0 ∧ |w.re| ≤ Real.tan (Real.pi / 36000) * |w.im|) ∧
    ‖h 0 * g 0‖ ≤ 41 * (c 50 * ‖h 50 * g 50‖)

/-- The factor of the pip path of F5 makes its gain at 50 Hz that of the fine output (R313), to half a step. -/
def PipScaleRow (tap : Nat → Nat → ℚ) (scale : ℚ) : Prop :=
  ∀ g, FirResponse (tap 5) 63 8000 g → |(scale : ℝ) - ‖g 50‖| ≤ 1 / 2 ^ 21

/-- The ROM rows of the spec. -/
def RomSound (tap : Nat → Nat → ℚ) (pipScale : ℚ) : Prop :=
  FlatRows tap ∧ FundamentalRows tap ∧ RogowskiRow tap ∧ PipScaleRow tap pipScale

/-- This device's ROM keeps them (R307). -/
def DeviceRom : Prop := RomSound tapValue (Config.pipScaleF5 / 2 ^ 20)

end Sys2Proof.Machine
end

