-- ==== Sys2Proof/WellFormed.lean ====
section
/-! DEFINITION. Well-formed commands: the operand ranges that an agent can send (log 8). `exec` is total on every
command; a statement that needs a range asks for it through this file. -/

namespace Sys2Proof

/-- A number that n octets hold. -/
def fitsOctets (n v : Nat) : Bool := decide (v < 256 ^ n)

def Solve.wf (v : Solve) : Bool :=
  (v.offset.elim true (fun l => l.length == 4)) && (v.gain.elim true (fun l => l.length == 4)) &&
    (v.skew.elim true (fun l => l.length == 4))

def Damage.wf (d : Damage) : Bool :=
  d.headers.all (· < 8) && d.images.all (· < 8) && d.banks.all (· < 2) && d.records.all (fun r => r.1 < 2 && r.2 < 64)

def SubBody.wf (b : SubBody) : Bool :=
  b.number < 256 && b.kind < 256 && b.flags < 256 && b.pod < 256 && fitsOctets 2 b.period && b.addrs.all (fun a => a.1 < 65536 && a.2 < 256)

def Monitor.wf (_ : Monitor) (e : Evidence) : Bool :=
  match e with
  | .gates a b => fitsOctets 4 a && fitsOctets 4 b
  | .stall => true

/-- The codes of one frame: 16 of converter A, 16 of converter B, each 16 bits, and the five monitor bits of R231. -/
def wfCodes (codes : List Int) (cm : Nat) : Bool := codes.length == 32 && codes.all (fun c => -32768 ≤ c && c ≤ 32767) && cm < 32

/-- The operands of a command are in range. -/
def Instr.wf : Instr → Bool
  | .write _ index sub typeCode length value => fitsOctets 2 index && sub < 256 && typeCode < 256 && length < 1024 && fitsOctets length value
  | .readStaged _ index sub => fitsOctets 2 index && sub < 256
  | .frameBoundary _ codes cm => wfCodes codes cm
  | .sliceSolve _ _ v => v.wf
  | .recall d => d.wf
  | .logScan ds => ds.all (· < 1024)
  | .podRestart ps => ps.all (· < 64)
  | .capture ps => ps.all (· < 64)
  | .subscribe _ b => b.wf
  | .monitorTrip m e => m.wf e
  | .sessionProof _ number proof => fitsOctets 4 number && fitsOctets 16 proof
  | .frameReceive f => f.length < 65536
  | .keyWrite _ level value => (1 ≤ level && level ≤ 3) && fitsOctets 16 value
  | .resetServicePod _ pod _ => pod < 256
  | _ => true

end Sys2Proof
end

