-- ==== Sys2Proof/Tests/Slice0.lean ====
section
/-! SUPPORT. The model's own tests: ill-formed operands, values that the spec gives, single steps, and for every statement
a state that meets the hypotheses of each of its clauses. -/

open Sys2Proof Sys2Proof.Machine Sys2Proof.Laws

namespace Sys2Proof.Tests

/-! ### Small states -/

def wChip (f : Chip → Chip) (s : State) : State := { s with chip := f s.chip }
def wPower (f : Power → Power) (s : State) : State := { s with power := f s.power }
def wClocks (f : Clocks → Clocks) (s : State) : State := { s with clocks := f s.clocks }
def wTime (f : TimeBase → TimeBase) (s : State) : State := { s with time := f s.time }
def wShell (f : Shell → Shell) (s : State) : State := { s with shell := f s.shell }
def wGuard (f : Guard → Guard) (s : State) : State := { s with guard := f s.guard }
def wPanel (f : Panel → Panel) (s : State) : State := { s with panel := f s.panel }
def wLink (f : Link → Link) (s : State) : State := { s with link := f s.link }
def wEngine (f : Engine → Engine) (s : State) : State := { s with engine := f s.engine }
def wObs (f : Observe → Observe) (s : State) : State := { s with obs := f s.obs }
def inState (c : ChipState) (s : State) : State := wChip (fun x => { x with state := c }) s
def inLink (c : LinkCode) (s : State) : State := wLink (fun x => { x with code := c }) s
def wOsc (k : Nat) (o : Osc) (s : State) : State := wClocks (fun x => { x with oscs := putAt x.oscs k o }) s
def wMux (k : Nat) (c : MuxCode) (s : State) : State := wClocks (fun x => { x with muxes := putAt x.muxes k { muxAt s k with code := c } }) s

/-- A device in ACTIVE: sources qualified, SPINE locked on HFXO, link FOLLOWER, engine open with one requester. -/
def act : State :=
  { State.reset with
    chip := { State.reset.chip with state := .active, phases := [0, 1, 2, 3, 4, 5, 6, 7, 8] }
    power := { State.reset.power with phase := .released, trunk := 20000, level := 20000, rails := 127, ready := true }
    clocks := { State.reset.clocks with
      oscs := .replicate 6 ⟨.qualified, 1, true, 0, true⟩, muxes := .replicate 6 ⟨.primary, false, false, 0, false, 0⟩
      spineOn := true, spineLocked := true, corePll := true, phytx := true }
    time := { State.reset.time with elapsed := 10 ^ 12, stamp := 10 ^ 12 }
    shell := { Shell.reset with logReady := true }
    guard := { Guard.reset with armed := true }
    link := { Link.reset with code := .follower }
    engine := { Engine.reset with opened := true, slots := putAt (.replicate 4 .empty) 0 ⟨true, 5, 1, 0, 1, [], none, none⟩ } }

/-- The same device in HOLD, in which the power-fail warning has frozen the Pods. -/
def held : State :=
  { act with
    chip := { act.chip with state := .hold }
    power := { act.power with hold := some ⟨0, 16700, 1, 0⟩, holdSnap := true } }

/-- The same device in the sequence of a PIN reset. -/
def resetting (r : ResetRun) : State := { act with chip := { act.chip with state := .boot, reset := some r } }

/-- The same device with Pod 3 changed. -/
def on (f : Pod → Pod) : State := modPod 3 f act

/-- A BOOT whose phases up to one have ended. -/
def bootTo (n : Nat) : State := wChip (fun c => { c with state := .boot, phases := List.range (n + 1) }) act

def runs (d : Pod) : Pod := { d with mode := .run, mux := .primary }
/-- The values of a Pod whose sequences are empty. -/
def bare (d : Pod) : Store := storePutAll podDefault d.values ((List.range 16).map (fun k => (keyOf 0x20 (k + 1), 0)))
def live (d : Pod) : Pod := { d with chans := putAt d.chans 0 { Channel.reset with live := true, outputs := 10000 } }
def place (index : Nat) : Place :=
  (findPlace index).getD ⟨none, ⟨0, .simple .u32, 0, none, .none, .each 0, .any, none, false, false, false⟩⟩
def who (n : Fin 4) : Who := ⟨n, some 0⟩

/-- Whether the engine is free, as `EngineFree` says. -/
def isFree (s : State) : Bool :=
  s.engine.opened && s.chip.state == .active && s.engine.running.isNone && s.engine.waiting.isNone && s.engine.frames.isEmpty &&
    s.engine.afterReply.isNone && s.engine.resetsDue.isEmpty && coreRuns s && !s.chip.standbyWanted && s.shell.run.isNone && s.engine.subs.toList.all (fun x => !x.due)

theorem all_toList {n : Nat} (v : Vector Sub n) (h : v.toList.all (fun x => !x.due) = true) : v.all (fun x => !x.due) = true := by
  rw [← Vector.all_toList]; exact h

theorem free_of {s : State} (h : isFree s = true) : EngineFree s := by
  simp only [isFree, Bool.and_eq_true, beq_iff_eq, Option.isNone_iff_eq_none, List.isEmpty_iff, Bool.not_eq_true'] at h
  obtain ⟨⟨⟨⟨⟨⟨⟨⟨⟨⟨h1, h2⟩, h3⟩, h4⟩, h5⟩, h6⟩, h7⟩, h8⟩, h9⟩, h10⟩, h11⟩ := h
  exact ⟨h1, h2, h3, h4, h5, h6, h7, h8, h9, h10, all_toList _ h11⟩

/-- A broadcast frame of no known source. -/
def broadcast (src : Octet) : RxFrame := ⟨List.replicate 6 255 ++ List.replicate 6 src ++ [0x88, 0xB5], false, 64, true, some 1, true⟩

theorem noteBrc_engine (f : RxFrame) (s : State) : (noteBrc f s).engine = s.engine := by
  unfold noteBrc; dsimp only; split <;> rfl

theorem broadcast_passes (src : Octet) (h : beValue (List.replicate 6 src.toNat) ≠ ownMac) :
    receiveFault (broadcast src) (noteBrc (broadcast src) (latchSfd act).2) = none := by
  have e : (((broadcast src).octets.map (·.toNat)).drop 6).take 6 = List.replicate 6 src.toNat := rfl
  simp only [receiveFault]
  rw [e, if_neg (show ¬ (broadcast src).symbolError = true from Bool.false_ne_true),
    if_neg (show ¬ (broadcast src).length < 64 from Nat.lt_irrefl 64), if_neg (show ¬ 1518 < (broadcast src).length from Nat.not_lt.2 (show 64 ≤ 1518 by decide)),
    if_neg (show ¬ (!(broadcast src).fcsGood) = true from Bool.false_ne_true), if_neg (fun k => k.2.1 rfl), if_neg h,
    if_neg (fun k => k rfl), if_neg (by rw [noteBrc_engine]; rintro (h | h); exacts [Bool.false_ne_true h, absurd h (by decide)])]

theorem frame_passes : ∃ (f : RxFrame) (s : State), phyOn s.link.code = true ∧ receiveFault f (noteBrc f (latchSfd s).2) = none := by
  by_cases h : beValue (List.replicate 6 0) = ownMac
  · exact ⟨broadcast 1, act, by decide, broadcast_passes 1 (h ▸ by decide)⟩
  · exact ⟨broadcast 0, act, by decide, broadcast_passes 0 h⟩

theorem bits_three : ∀ q, (8#64).getLsbD q = decide (q = (3 : Fin 64).val) := by
  intro q
  have h : (8#64 : BitVec 64) = BitVec.twoPow 64 3 := by decide
  rw [h, BitVec.getLsbD_twoPow]
  by_cases e : q = 3
  · subst e; rfl
  · simp [e, Ne.symm e]

/-- The proof that the device itself forms is the right one. -/
theorem provenOpen_own {q : Fin 4} {s : State} {o : PendingOpen} (h : (slotOf s q.val).opening = some o)
    (t : s.time.elapsed ≤ o.at_ + 65536000) :
    provenOpen q o.number (beValue ((hmac256 (keyOctets s o.level) (1 :: proofMessage (slotOf s q.val) o)).take 16)) s = some o := by
  simp only [provenOpen, h]
  exact if_pos ⟨trivial, t, trivial⟩

/-! ### Well-formedness: a term that each check refuses -/

theorem test_wf_write : (Instr.write (who 1) 0x10000 0 3 2 5).wf = false ∧ (Instr.write (who 1) 0x1104 256 3 2 5).wf = false ∧
    (Instr.write (who 1) 0x1104 0 256 2 5).wf = false ∧ (Instr.write (who 1) 0x1104 0 3 1024 5).wf = false ∧
    (Instr.write (who 1) 0x1104 0 3 1 256).wf = false ∧ (Instr.write (who 1) 0x1104 0 3 1 255).wf = true := by decide

theorem test_wf_read : (Instr.readStaged (who 1) 0x10000 0).wf = false ∧ (Instr.readStaged (who 1) 0x1104 256).wf = false := by decide

theorem test_wf_codes : (Instr.frameBoundary 3 [] 0).wf = false ∧ (Instr.frameBoundary 3 (List.replicate 32 32768) 0).wf = false ∧
    (Instr.frameBoundary 3 (List.replicate 32 (-32769)) 0).wf = false ∧ (Instr.frameBoundary 3 (List.replicate 32 0) 32).wf = false ∧
    (Instr.frameBoundary 3 (List.replicate 32 (-32768)) 31).wf = true := by decide

theorem test_wf_solve : (Instr.sliceSolve 3 false ⟨some [1], none, none, 0, false⟩).wf = false ∧
    (Instr.sliceSolve 3 false ⟨none, some [1], none, 0, false⟩).wf = false ∧
    (Instr.sliceSolve 3 false ⟨none, none, some [1], 0, false⟩).wf = false := by decide

theorem test_wf_damage : (Instr.recall ⟨[8], [], [], []⟩).wf = false ∧ (Instr.recall ⟨[], [8], [], []⟩).wf = false ∧
    (Instr.recall ⟨[], [], [2], []⟩).wf = false ∧ (Instr.recall ⟨[], [], [], [(2, 0)]⟩).wf = false ∧
    (Instr.recall ⟨[], [], [], [(1, 64)]⟩).wf = false := by decide

theorem test_wf_lists : (Instr.logScan [1024]).wf = false ∧ (Instr.podRestart [64]).wf = false ∧ (Instr.capture [64]).wf = false := by decide

theorem test_wf_body : (Instr.subscribe (who 1) ⟨256, 0, 0, 0, 0, 0, []⟩).wf = false ∧
    (Instr.subscribe (who 1) ⟨0, 256, 0, 0, 0, 0, []⟩).wf = false ∧ (Instr.subscribe (who 1) ⟨0, 0, 256, 0, 0, 0, []⟩).wf = false ∧
    (Instr.subscribe (who 1) ⟨0, 0, 0, 256, 0, 0, []⟩).wf = false ∧ (Instr.subscribe (who 1) ⟨0, 0, 0, 0, 65536, 0, []⟩).wf = false ∧
    (Instr.subscribe (who 1) ⟨0, 0, 0, 0, 0, 0, [(65536, 0)]⟩).wf = false := by decide

theorem test_wf_monitor : (Instr.monitorTrip .hfxo (.gates (2 ^ 32) 0)).wf = false ∧ (Instr.monitorTrip .hfxo (.gates 0 (2 ^ 32))).wf = false := by
  decide

theorem test_wf_services : (Instr.sessionProof 0 (2 ^ 32) 0).wf = false ∧ (Instr.sessionProof 0 0 (2 ^ 128)).wf = false ∧
    (Instr.keyWrite (who 2) 0 5).wf = false ∧ (Instr.keyWrite (who 2) 4 5).wf = false ∧ (Instr.keyWrite (who 2) 1 (2 ^ 128)).wf = false ∧
    (Instr.resetServicePod (who 2) 256 true).wf = false ∧
    (Instr.frameReceive ⟨[], false, 65536, true, none, true⟩).wf = false := by decide

/-! ### Values that the spec or its checks' definitions give -/

/-- The check value of CRC-32C. -/
theorem test_crc32c : crc32c [0x31, 0x32, 0x33, 0x34, 0x35, 0x36, 0x37, 0x38, 0x39] = 0xE3069283 := by decide +kernel

/-- The check value of CRC-16 with polynomial 0x1021 and initial value 0xFFFF. -/
theorem test_crc16 : crc16 [0x31, 0x32, 0x33, 0x34, 0x35, 0x36, 0x37, 0x38, 0x39] = 0x29B1 := by decide +kernel

/-- The digest of "abc" begins 0xBA7816BF. -/
theorem test_sha256 : (sha256 [0x61, 0x62, 0x63]).take 4 = [0xBA, 0x78, 0x16, 0xBF] := by decide +kernel

/-- The worked case of the Strip frame limiter (15_panels.md). -/
theorem test_strip_limiter : stepLength 200 4608 = 112 ∧ stepLength 200 11520 = 86 := by decide

/-- The worked case of 08_filter_chain.md: a moving average of eight. -/
theorem test_group_delay : groupDelay { Pod.reset with values := [(keyOf 0x42 1, 8)] } 0 = 297984 := by decide

/-- Pod 22 of the worked case of 07_sequence_frame.md: converter A, converter B, its shared entry. -/
def seqA22 : List Nat := [0x06F0, 0x06F1, 0x06F2, 0x0433, 0x0A84, 0x0A85, 0x0A86, 0x0F08, 0x0600, 0, 0, 0, 0, 0, 0, 0]
def seqB22 (b0 : Nat) : List Nat := [b0, 0x0F08, 0x020A, 0, 0x0A04, 0, 0, 0, 0, 0, 0, 0, 0, 0, 0, 0]

theorem test_sequence_a : (List.range 9).map (fun k => (startA seqA22 k, instantA seqA22 k)) =
    [(0, 6), (0, 6), (0, 6), (0, 4), (23, 33), (23, 33), (23, 33), (21, 36), (50, 56)] ∧ sharedIndex seqA22 2 0 = some 0 := by decide

theorem test_sequence_b : layoutB seqA22 (seqB22 0) (some 0) = some [(0, 0, 6), (4, 23, 10), (1, 0, 15), (2, 0, 2)] := by decide

/-- With VA shared, B0 with 15 cycles does not fit, with 6 it does. -/
theorem test_sequence_shared : layoutB seqA22 (seqB22 0x0F02) (sharedIndex seqA22 2 4) = none ∧
    (layoutB seqA22 (seqB22 0x0602) (sharedIndex seqA22 2 4)).isSome = true := by decide

/-! ### Single steps -/

/-- What a command leaves, and the status of the item executed last. -/
def left (c : Instr) (s : State) : State := match exec c s with | .next t => t | _ => s
def status (c : Instr) (s : State) : Nat := (left c s).engine.last.status

/-- R107: inrush at the start threshold. -/
theorem test_trunkStart : (left (.trunkStart 11700) State.reset).power.phase = .inrush ∧
    (left (.trunkStart 11699) State.reset).power.phase = .idle := by decide

/-- R56: the test mode needs METROLOGIST, then the seal open. -/
theorem test_plsTest_order : status (.plsTestWrite (who 2) 3 1) act = stDenied ∧ status (.plsTestWrite (who 3) 3 1) act = stSealed := by
  decide +kernel

/-- R725: an unknown index comes before the level, the level before the type. -/
theorem test_check_order : status (.write (who 0) 0x1 0 3 2 5) act = stNoObject ∧ status (.write (who 0) 0x1104 0 3 9 5) act = stDenied ∧
    status (.write (who 2) 0x1104 0 3 9 5) act = stBadType := by decide +kernel

/-- R30 comes before R580. -/
theorem test_standby_order : status (.standby (who 1)) (inLink .coordinator (on runs)) = stNeedsStop ∧
    status (.standby (who 1)) (inLink .coordinator act) = stWrongState := by decide +kernel

/-- R184: HUSK adds 2000 to STAMP at each of its cycles while SPINE is not locked. -/
theorem test_idle_husk : (match step (wClocks (fun x => { x with spineLocked := false }) (wTime (fun x => { x with huskTicks := 1999 }) act)) with
    | .next t => t.time.stamp | _ => 0) = 10 ^ 12 + 2000 := by decide +kernel

/-- R688: place 56 takes a FAULT record alone. -/
theorem test_trace_places :
    let s := wObs (fun x => { x with queue := List.replicate 56 ⟨2, 5, []⟩ }) (setDev 0x8100 0 510 (setDev 0x2602 0 127 act))
    (traceAdd 2 5 [] s).obs.lost = 1 ∧ (traceAdd 1 5 [] s).obs.queue.length = 57 := by decide +kernel

/-! ### A state that meets the hypotheses of each clause of each statement -/

/-- A slot with sequence 7 whose header verifies. -/
def slot7 : Slot := ⟨slotHeader 7 1 0 5 1 0, none, false, Image.blank, .replicate 64 noEnergy⟩

/-- A STORE in slot 2 in one of its phases. -/
def store (phase : Nat) : StoreRun := ⟨phase, 2, 2, false, 5, 9, 5, 0, 0, Image.blank, .replicate 64 noEnergy⟩
def storing (phase : Nat) (s : State) : State := wShell (fun x => { x with run := some (store phase) }) s

theorem witness_StepRunsFrontCommand :
    ∃ (c : Instr) (rest : List Instr) (s : State), s.pending = c :: rest :=
  ⟨.brcPause, [], { act with pending := [.brcPause] }, by decide⟩

theorem witness_EmptyQueuePassesOneTick :
    ∃ (s : State), s.pending = [] :=
  ⟨act, by decide⟩

theorem witness_StepKeepsBounds :
    ∃ (s : State) (t : State), Bounded s ∧ step s = .next t :=
  ⟨State.reset, _, ⟨rfl, by decide, by decide, by decide, by decide, by decide⟩, rfl⟩

theorem witness_StoreWritesAreReadBack :
    ∃ (dflt : Nat → Nat) (st : Store), storeWf dflt st = true :=
  ⟨blackRow, [(3, 1)], by decide⟩

theorem witness_PowerDieActs :
    (∃ (s : State), s.chip.state = .unpowered ∧ s.power.phase = .idle) ∧
    (∃ (s : State), s.chip.state = .unpowered ∧ s.power.phase = .inrush) ∧
    (∃ (s : State), s.chip.state = .unpowered ∧ s.power.phase ≠ .idle) ∧
    (∃ (s : State), s.chip.state ≠ .unpowered) ∧
    (∃ (s : State), s.chip.state ≠ .unpowered ∧ s.power.readyFault = false) ∧
    (∃ (s : State), s.chip.state ≠ .unpowered) ∧
    (∃ (rail : Fin 7) (s : State), railOn s rail.val = true ∧ bit s.power.rails rail.val = true) :=
  ⟨⟨State.reset, by decide⟩,
    ⟨(wPower (fun x => { x with phase := .inrush }) State.reset), by decide⟩,
    ⟨(wPower (fun x => { x with phase := .bucks }) State.reset), by decide⟩,
    ⟨act, by decide⟩,
    ⟨(wPower (fun x => { x with ready := false }) act), by decide⟩,
    ⟨(wPower (fun x => { x with lowRun := 2 }) act), by decide⟩,
    ⟨2, act, by decide⟩⟩

theorem witness_PowerOnResetReleases :
    (∃ (mv : Nat) (s : State), s.chip.state = .unpowered ∧ s.power.phase = .bucks ∧ railsGood s = true ∧ 17000 ≤ mv) ∧
    (∃ (mv : Nat), mv < 17000) :=
  ⟨⟨17000, (wPower (fun x => { x with phase := .bucks, rails := 15 }) State.reset), by decide⟩,
    ⟨16999, by decide⟩⟩

theorem witness_PowerFailWarningEntersHold :
    (∃ (mv : Nat) (us : Nat) (s : State), 10 ≤ us ∧ mv ≤ 16700 ∧ (s.chip.state = .boot ∨ s.chip.state = .active ∨ s.chip.state = .standby ∨
      s.chip.state = .safe)) ∧
    (∃ (us : Nat), us < 10) ∧
    (∃ (s : State), (s.chip.state = .hold ∨ s.chip.state = .unpowered)) :=
  ⟨⟨16700, 10, act, by decide⟩,
    ⟨9, by decide⟩,
    ⟨(inState .hold act), by decide⟩⟩

theorem witness_SnapshotsAreWritten :
    (∃ (h : HoldRec) (s : State), s.chip.state = .hold ∧ s.power.hold = some h ∧ s.power.holdSnap = true ∧ bit h.steps 0 = true ∧
      s.power.holdStore = true ∧ nextSlot s ≠ none) ∧
    (∃ (h : HoldRec) (s : State), s.chip.state = .hold ∧ s.power.hold = some h ∧ s.power.holdSnap = true ∧ bit h.steps 0 = true ∧
      s.power.holdStore = false) ∧
    (∃ (r : ResetRun) (s : State), s.power.hold = none ∧ s.chip.reset = some r ∧ r.snapshotDone = false ∧ allFrozen s = true ∧
      r.storeDone = false ∧ nextSlot s ≠ none) ∧
    (∃ (r : ResetRun) (s : State), s.power.hold = none ∧ s.chip.reset = some r ∧ r.snapshotDone = false ∧ allFrozen s = true ∧ r.storeDone = true) ∧
    (∃ (r : ResetRun) (s : State), s.power.hold = none ∧ s.chip.reset = some r ∧ (r.snapshotDone = true ∨ allFrozen s = false)) ∧
    (∃ (s : State), s.power.hold = none ∧ s.chip.reset = none) ∧
    (∃ (trig : Nat), trig < 256) :=
  ⟨⟨⟨0, 16700, 1, 0⟩, wPower (fun x => { x with holdStore := true }) held, by decide⟩,
    ⟨⟨0, 16700, 1, 0⟩, wPower (fun x => { x with holdStore := false }) held, by decide⟩,
    ⟨⟨.pin, 0, false, false⟩, resetting ⟨.pin, 0, false, false⟩, by decide⟩,
    ⟨⟨.pin, 0, false, true⟩, resetting ⟨.pin, 0, false, true⟩, by decide⟩,
    ⟨⟨.pin, 0, true, false⟩, resetting ⟨.pin, 0, true, false⟩, by decide⟩,
    ⟨act, by decide⟩,
    ⟨255, by decide⟩⟩

theorem witness_HoldEndsOrFails :
    (∃ (mv : Nat) (s : State), s.chip.state = .hold ∧ stepThreeBegun s = true ∧ s.shell.run = none ∧ s.panel.paneDone = true ∧
      s.panel.stripDone = true ∧ mv < 17000) ∧
    (∃ (mv : Nat) (s : State), s.chip.state = .hold ∧ stepThreeBegun s = true ∧ s.shell.run = none ∧ s.panel.paneDone = true ∧
      s.panel.stripDone = true ∧ 17000 ≤ mv) ∧
    (∃ (s : State), (s.chip.state ≠ .hold ∨ stepThreeBegun s = false ∨ s.shell.run.isSome = true ∨ s.panel.paneDone = false ∨
      s.panel.stripDone = false)) ∧
    (∃ (vhold : Nat) (s : State), s.chip.state = .hold ∧ vhold ≤ 7200) ∧
    (∃ (vhold : Nat), 7200 < vhold) :=
  ⟨⟨16999, wPanel (fun x => { x with paneDone := true, stripDone := true }) (wPower (fun x => { x with holdSnap := false }) held), by decide⟩,
    ⟨17000, wPanel (fun x => { x with paneDone := true, stripDone := true }) (wPower (fun x => { x with holdSnap := false }) held), by decide⟩,
    ⟨held, by decide⟩,
    ⟨7200, held, by decide⟩,
    ⟨7201, by decide⟩⟩

theorem witness_GovernorConsumesTriggers :
    (∃ (tr : Trigger) (rest : List Trigger) (s : State), EngineFree s ∧ s.power.triggers = tr :: rest ∧ ∀ x ∈ tr :: rest, x.code ≠ 8) ∧
    (∃ (s : State), s.power.triggers = []) ∧
    (∃ (p : Fin 64) (s : State), (podAt s p.val).mode = .lean ∧ (podAt s p.val).leanAt + devVal s 0x2012 0 * 65536000 ≤ s.time.elapsed ∧
      governorActs s = true) :=
  ⟨⟨⟨2, 3, 0⟩, [⟨4, 255, 0⟩], wPower (fun x => { x with triggers := [⟨2, 3, 0⟩, ⟨4, 255, 0⟩] }) (on fun d => { d with wake := some 2 }), free_of (by decide), by decide⟩,
    ⟨act, by decide⟩,
    ⟨3, on fun d => { d with mode := .lean, leanAt := 0 }, by decide⟩⟩

theorem witness_GovernorWalksOnePod :
    (∃ (w : Walk) (p : Nat) (s : State), p < 64 ∧ walkRuns (podAt s p) = false ∧ (podAt s p).wake.isSome = true ∧ 14 ≤ w.avail ∧ contained s 1 =
      false) ∧
    (∃ (w : Walk) (p : Nat) (s : State), p < 64 ∧ walkRuns (podAt s p) = false ∧ (podAt s p).wake.isSome = true ∧ (w.avail < 14 ∨ contained s 1 =
      true)) ∧
    (∃ (p : Nat) (s : State), p < 64 ∧ walkRuns (podAt s p) = false ∧ (podAt s p).wake = none) ∧
    (∃ (p : Nat) (r : Nat), p < 64 ∧ r < 64 ∧ r ≠ p) :=
  ⟨⟨⟨14, 0, 0, 0, 0⟩, 3, (on fun d => { d with wake := some 2 }), by decide⟩,
    ⟨⟨13, 0, 0, 0, 0⟩, 3, (on fun d => { d with wake := some 2 }), by decide⟩,
    ⟨3, act, by decide⟩,
    ⟨63, 0, by decide⟩⟩

theorem witness_SourcesQualifyOrFail :
    (∃ (k : Fin 6) (s : State), (oscAt s k.val).driven = true ∧ (oscAt s k.val).oscillating = false) ∧
    (∃ (k : Fin 6) (s : State), (oscAt s k.val).oscillating = true) ∧
    (∃ (k : Fin 6) (s : State), ((oscAt s k.val).driven = false ∨ (oscAt s k.val).oscillating = true)) ∧
    (∃ (k : Fin 6) (s : State), (oscAt s k.val).oscillating = false) ∧
    (∃ (s : State), (oscAt s 5).code ≠ .qualified ∧ (oscAt s 5).oscillating = true ∧ s.power.holdWait = true) ∧
    (∃ (k : Fin 6) (s : State), (oscAt s k.val).code ≠ .qualified ∧ (oscAt s k.val).oscillating = true ∧ (k.val = 5 → s.power.holdWait = false)) ∧
    (∃ (k : Fin 6) (s : State), (k.val = 0 ∨ k.val = 2) ∧ (oscAt s k.val).code = .qualifying) ∧
    (∃ (s : State), huskOnLfxo s = true ∧ devVal s 0x2115 0 = 1 ∧ (oscAt s 1).code ≠ .failed) ∧
    (∃ (s : State), huskOnLfxo s = true ∧ devVal s 0x2115 0 = 1 ∧ (oscAt s 1).code = .failed) :=
  ⟨⟨2, wOsc 2 ⟨.qualifying, 5, false, 0, true⟩ act, by decide⟩,
    ⟨2, act, by decide⟩,
    ⟨2, act, by decide⟩,
    ⟨2, wOsc 2 ⟨.off, 0, false, 0, false⟩ act, by decide⟩,
    ⟨wPower (fun x => { x with holdWait := true }) (wOsc 5 ⟨.qualifying, 63, true, 0, true⟩ held), by decide⟩,
    ⟨5, wOsc 5 ⟨.qualifying, 63, true, 0, true⟩ held, by decide⟩,
    ⟨2, wOsc 2 ⟨.qualifying, 0, true, 0, true⟩ act, by decide⟩,
    ⟨setDev 0x2115 0 1 act, by decide⟩,
    ⟨wOsc 1 ⟨.failed, 0, false, 0, true⟩ (setDev 0x2115 0 1 act), by decide⟩⟩

theorem witness_SpineLocksAndUnlocks :
    (∃ (s : State), s.clocks.spineOn = true ∧ s.clocks.spineLocked = false ∧ qualified s (if s.clocks.spineHfrc then 3 else 2) = true ∧ ((muxAt s
      2).code = .primary ∨ (muxAt s 2).code = .alternate)) ∧
    (∃ (s : State), s.clocks.spineLocked = true) ∧
    (∃ (s : State), s.clocks.relock.isSome = true ∧ s.clocks.spineLocked = false ∧ ((muxAt s 2).code = .primary ∨ (muxAt s 2).code = .alternate)) :=
  ⟨⟨(wClocks (fun x => { x with spineLocked := false }) act), by decide⟩,
    ⟨act, by decide⟩,
    ⟨(wClocks (fun x => { x with spineLocked := false, relock := some 0 }) act), by decide⟩⟩

theorem witness_MonitorsTripOnEvidence :
    (∃ (m : Monitor) (e : Evidence) (s : State), s.chip.state ≠ .unpowered ∧ trips m e = true) ∧
    (∃ (m : Monitor) (e : Evidence), trips m e = false) ∧
    (∃ (s : State), s.chip.state ≠ .unpowered ∧ s.chip.state ≠ .hold ∧ qualified s 4 = true) ∧
    (∃ (s : State), s.chip.state = .hold ∧ qualified s 4 = true) :=
  ⟨⟨.hfxo, .stall, act, by decide⟩,
    ⟨.hfxo, .gates 900 100, by decide⟩,
    ⟨act, by decide⟩,
    ⟨(inState .hold act), by decide⟩⟩

theorem witness_RescuesEnd :
    (∃ (p : Fin 64) (s : State), (podAt s p.val).mux = .rescueRelease) ∧
    (∃ (s : State), (muxAt s 0).code = .rescueRelease ∧ s.clocks.spineLocked = true ∧ s.time.frozenLost = 0) ∧
    (∃ (s : State), EngineQuiet s ∧ (muxAt s 1).code = .rescueRelease) ∧
    (∃ (s : State), (muxAt s 2).code = .rescueRelease) ∧
    (∃ (m : MuxName) (s : State), m = .ampix ∨ m = .strip ∨ m = .trace ∨ (m = .spineRef ∧ (muxAt s 2).code ≠ .rescueRelease) ∨
      (∃ p, m = .pod p ∧ (podAt s p.val).mux ≠ .rescueRelease)) ∧
    (∃ (m : MuxName) (k : Nat) (s : State), muxNumber m = some k ∧ (muxAt s k).code = .rescueWait ∧ (s.chip.state = .active ∨ s.chip.state = .boot)) ∧
    (∃ (m : MuxName) (k : Nat) (s : State), muxNumber m = some k ∧ (muxAt s k).code = .rescueWait ∧ s.chip.state = .standby) ∧
    (∃ (m : MuxName) (k : Nat) (s : State), muxNumber m = some k ∧ (muxAt s k).code = .rescueWait ∧ s.chip.state = .hold) ∧
    (∃ (m : MuxName) (k : Nat) (s : State), muxNumber m = some k ∧ (muxAt s k).code ≠ .rescueWait) :=
  ⟨⟨3, on fun d => { d with mux := .rescueRelease }, by decide⟩,
    ⟨wMux 0 .rescueRelease (wTime (fun x => { x with huskFrozen := true }) act), by decide⟩,
    ⟨wMux 1 .rescueRelease act, ⟨by decide, by decide, by decide, by decide, by decide, all_toList _ (by decide)⟩, by decide⟩,
    ⟨wMux 2 .rescueRelease act, by decide⟩,
    ⟨.spineRef, act, by decide⟩,
    ⟨.core, 1, wMux 1 .rescueWait act, by decide⟩,
    ⟨.core, 1, wMux 1 .rescueWait (inState .standby act), by decide⟩,
    ⟨.core, 1, wMux 1 .rescueWait held, by decide⟩,
    ⟨.core, 1, act, by decide⟩⟩

theorem witness_MuxesSwitch :
    (∃ (m : MuxName) (k : Nat) (alt : Bool) (s : State), s.clocks.waiting.find? (fun w => w.1 == m) = some (m, alt) ∧ muxNumber m = some k ∧
      s.chip.state ≠ .hold ∧ repliesLeft s = true ∧ (muxAt s k).code = (if alt = true then .primary else .alternate) ∧
      switchTargetReady k alt s = true) ∧
    (∃ (m : MuxName) (k : Nat) (alt : Bool) (s : State), s.clocks.waiting.find? (fun w => w.1 == m) = some (m, alt) ∧ muxNumber m = some k ∧
      s.chip.state ≠ .hold ∧ repliesLeft s = true ∧ ((muxAt s k).code ≠ (if alt = true then .primary else .alternate) ∨
      switchTargetReady k alt s = false)) ∧
    (∃ (m : MuxName) (s : State), (s.chip.state = .hold ∨ repliesLeft s = false ∨ s.clocks.waiting.find? (fun w => w.1 == m) = none)) ∧
    (∃ (m : MuxName) (k : Nat) (s : State), ((m = .husk ∧ k = 0) ∨ (m = .spineRef ∧ k = 2)) ∧ (muxAt s k).code = .switching) ∧
    (∃ (s : State), (muxAt s 1).code = .switching) ∧
    (∃ (p : Fin 64) (s : State), (podAt s p.val).mux = .switching ∧ (podAt s p.val).muxToRc = true) ∧
    (∃ (p : Fin 64) (s : State), (podAt s p.val).mux = .switching ∧ (podAt s p.val).muxToRc = false) ∧
    (∃ (s : State), (muxAt s 5).code = .switching) ∧
    (∃ (s : State), devVal s 0x2105 0 ≠ 0 ∧ s.chip.state ≠ .hold ∧ s.chip.state ≠ .unpowered ∧ contained s 0 = false ∧ (muxAt s 0).code = .alternate ∧
      qualified s 0 = true) ∧
    (∃ (s : State), devVal s 0x2105 0 ≠ 0 ∧ s.chip.state ≠ .hold ∧ s.chip.state ≠ .unpowered ∧ contained s 0 = false ∧ (muxAt s 1).code = .alternate ∧
      qualified s 2 = true) ∧
    (∃ (p : Fin 64) (s : State), devVal s 0x2105 0 ≠ 0 ∧ s.chip.state ≠ .hold ∧ s.chip.state ≠ .unpowered ∧ contained s 0 = false ∧ (podAt s
      p.val).mux = .alternate ∧ s.clocks.spineLocked = true ∧ (podAt s p.val).rcByCommand = false) ∧
    (∃ (s : State), contained s 0 = true) :=
  ⟨⟨.core, 1, true, wClocks (fun x => { x with waiting := [(.husk, false), (.core, true)] }) act, by decide⟩,
    ⟨.core, 1, true, wMux 1 .rescueWait (wClocks (fun x => { x with waiting := [(.core, true)] }) act), by decide⟩,
    ⟨.core, act, by decide⟩,
    ⟨.spineRef, 2, wMux 2 .switching act, by decide⟩,
    ⟨wMux 1 .switching act, by decide⟩,
    ⟨3, on fun d => { d with mux := .switching, muxToRc := true }, by decide⟩,
    ⟨3, on fun d => { d with mux := .switching, muxToRc := false }, by decide⟩,
    ⟨wMux 5 .switching act, by decide⟩,
    ⟨wMux 0 .alternate act, by decide⟩,
    ⟨wMux 1 .alternate act, by decide⟩,
    ⟨3, on fun d => { d with mux := .alternate }, by decide⟩,
    ⟨wGuard (fun x => { x with insts := putAt x.insts 0 ⟨[], some ⟨true, 10, 0⟩, 0, 0⟩ }) act, by decide⟩⟩

theorem witness_FrequencyIsDisciplined :
    (∃ (s : State), s.clocks.spineLocked = true ∧ s.clocks.spineHfrc = false ∧ qualified s 3 = true) ∧
    (∃ (s : State), devVal s 0x2108 0 ≠ 0xFF ∧ s.clocks.spineLocked = true ∧ (s.link.code = .follower ∨ s.link.code = .coordinator)) ∧
    (∃ (v : Nat) (s : State), v ≠ devVal s 0x2108 0) ∧
    (∃ (s : State), s.clocks.spineLocked = true ∧ s.clocks.spineHfrc = true ∧ huskOnLfxo s = true ∧ timeFresh s = false ∧ s.clocks.brc = false) ∧
    (∃ (s : State), timeFresh s = false) ∧
    (∃ (p : Fin 64) (s : State), rcTimed (podAt s p.val) = true ∧ 1024 ≤ (podAt s p.val).periodFrames) ∧
    (∃ (p : Fin 64) (hz : Nat) (silent : Nat) (s : State), rcTimed (podAt s p.val) = true ∧ (hz < 14000000 ∨ 18000000 < hz ∨ 64 ≤ silent)) ∧
    (∃ (hz : Nat) (silent : Nat), 14000000 ≤ hz ∧ hz ≤ 18000000 ∧ silent < 64) :=
  ⟨⟨act, by decide⟩,
    ⟨(setDev 0x2108 0 1 act), by decide⟩,
    ⟨0xFF, setDev 0x2108 0 1 act, by decide⟩,
    ⟨(wClocks (fun x => { x with spineHfrc := true }) act), by decide⟩,
    ⟨act, by decide⟩,
    ⟨3, (on fun d => { d with mux := .alternate, periodFrames := 1024, marker := 524288 }), by decide⟩,
    ⟨3, 13999999, 0, (on fun d => { d with mux := .alternate }), by decide⟩,
    ⟨14000000, 63, by decide⟩⟩

theorem witness_RecallTakesTheNewestImage :
    (∃ (s : State), s.chip.state = .boot ∧ s.chip.reset = none ∧ booted s 0 = true ∧ booted s 2 = false ∧ qualified s 3 = true ∧ s.chip.resetLow =
      false ∧ s.guard.armed = false) ∧
    (∃ (s : State), (s.chip.state ≠ .boot ∨ booted s 2 = true ∨ s.chip.resetLow = true)) ∧
    (∃ (s : State), s.chip.state = .boot ∧ s.chip.reset = none ∧ booted s 2 = true ∧ booted s 3 = false) :=
  ⟨⟨(wGuard (fun x => { x with armed := false }) (bootTo 1)), by decide⟩,
    ⟨act, by decide⟩,
    ⟨bootTo 2, by decide⟩⟩

theorem witness_SlotsAreChosenBySequence :
    (∃ (ok : Slot → Bool) (s : State) (k : Nat) (j : Nat), newestOf ok s = some k ∧ j < 8 ∧ ok (slotAt s j) = true) ∧
    (∃ (ok : Slot → Bool) (s : State) (j : Nat), newestOf ok s = none ∧ j < 8) ∧
    (∃ (s : State) (k : Nat), nextSlot s = some k) ∧
    (∃ (s : State), nextSlot s = none) :=
  ⟨⟨headerVerifies, (wShell (fun x => { x with slots := putAt x.slots 3 slot7 }) act), 3, 3, by decide +kernel⟩,
    ⟨headerVerifies, act, 7, by decide⟩,
    ⟨(wShell (fun x => { x with slots := putAt x.slots 3 slot7 }) act), 4, by decide +kernel⟩,
    ⟨(wShell (fun x => { x with slots := .replicate 8 { Slot.blank with retired := true } }) act), by decide⟩⟩

theorem witness_GuardArmsAtB4 :
    (∃ (s : State), s.chip.state = .boot ∧ s.chip.reset = none ∧ booted s 3 = true ∧ booted s 4 = false ∧ qualified s 4 = true ∧ s.guard.held = []) ∧
    (∃ (s : State) (h : HeldFault), s.chip.state = .boot ∧ s.chip.reset = none ∧ booted s 3 = true ∧ booted s 4 = false ∧ qualified s 4 = true ∧
      s.guard.held = [h] ∧ (instAt s (instIndex h.cls h.pod)).occs = [] ∧ instIndex h.cls h.pod < 72 ∧ h.least = 0 ∧
      ((sourceOf h.cls h.source).2 = 1 ∨ (sourceOf h.cls h.source).2 = 2)) ∧
    (∃ (s : State) (h : HeldFault), s.chip.state = .boot ∧ s.chip.reset = none ∧ booted s 3 = true ∧ booted s 4 = false ∧ qualified s 4 = true ∧
      s.guard.held = [h] ∧ (instAt s (instIndex h.cls h.pod)).occs = [] ∧ instIndex h.cls h.pod < 72 ∧
      max (sourceOf h.cls h.source).2 h.least = 4) ∧
    (∃ (s : State), (s.chip.state ≠ .boot ∨ booted s 3 = false ∨ booted s 4 = true ∨ qualified s 4 = false)) ∧
    (∃ (c : FaultClass) (p : Nat) (source : Nat) (s : State), s.guard.armed = false ∧ ((sourceOf c source).1 = false ∨ staysRaised c p source s =
      false)) ∧
    (∃ (c : FaultClass) (p : Nat) (source : Nat) (s : State), (sourceOf c source).1 = true ∧ staysRaised c p source s = true) :=
  ⟨⟨bootTo 3, by decide⟩,
    ⟨wGuard (fun x => { x with armed := false, held := [⟨.pod, 63, 5, 0, 7, true, 0, false⟩] }) (bootTo 3), ⟨.pod, 63, 5, 0, 7, true, 0, false⟩, by decide⟩,
    ⟨wGuard (fun x => { x with armed := false, held := [⟨.clk, 0, 11, 0, 7, false, 0, false⟩] }) (bootTo 3), ⟨.clk, 0, 11, 0, 7, false, 0, false⟩, by decide⟩,
    ⟨act, by decide⟩,
    ⟨.clk, 0, 5, wGuard (fun x => { x with armed := false }) act, by decide⟩,
    ⟨.shell, 0, 3, wGuard (fun x => { x with armed := false, held := [⟨.shell, 0, 3, 0, 0, true, 0, false⟩] }) act, by decide⟩⟩

theorem witness_BootPhasesEnd :
    (∃ (s : State), booting s = true ∧ booted s 4 = true ∧ booted s 5 = false ∧ qualified s 3 = true ∧ s.chip.resetLow = false ∧ s.guard.pendingSafe =
      false) ∧
    (∃ (s : State), booting s = true ∧ booted s 5 = true ∧ booted s 6 = false ∧ qualified s 2 = true ∧ s.chip.tstHeld = false ∧ s.link.code = .off ∧
      s.link.causes = 0 ∧ s.clocks.spineOn = true) ∧
    (∃ (s : State), s.chip.state = .boot ∧ s.chip.reset = none ∧ s.clocks.spineLocked = true ∧ booted s 5 = true ∧ booted s 7 = false ∧ s.chip.tstHeld
      = false ∧ s.chip.fromStandby = false) ∧
    (∃ (s : State), s.chip.state = .boot ∧ s.chip.reset = none ∧ s.clocks.spineLocked = true ∧ booted s 5 = true ∧ booted s 7 = false ∧ s.chip.tstHeld
      = false ∧ s.chip.fromStandby = true ∧ (∀ p, p < 64 → (podAt s p).doze.sentinel ≠ .tripped ∧ takesTransfer (podAt s p) = false)) ∧
    (∃ (s : State), booting s = true ∧ s.chip.state = .boot ∧ booted s 6 = true ∧ s.engine.opened = false ∧ linkOpens s.link.code = true) :=
  ⟨⟨(bootTo 4), by decide⟩,
    ⟨(inLink .off (bootTo 5)), by decide⟩,
    ⟨(wChip (fun x => { x with fromStandby := false }) (bootTo 6)), by decide⟩,
    ⟨(wChip (fun x => { x with fromStandby := true }) (bootTo 6)), by decide +kernel⟩,
    ⟨(wEngine (fun x => { x with opened := false }) (bootTo 7)), by decide⟩⟩

theorem witness_PodsRestartAsStored :
    (∃ (p : Nat) (s : State) (r : Nat), p < 64 ∧ (podAt s p).sealRec.code = .closed ∧ (podAt s p).mode = .stopped ∧ r < 64 ∧ r ≠ p) ∧
    (∃ (p : Nat) (s : State), p < 64 ∧ (podAt s p).sealRec.code = .closed ∧ (podAt s p).mode = .fault) :=
  ⟨⟨3, act, 63, by decide⟩, ⟨3, on fun d => { d with mode := .fault }, by decide⟩⟩

theorem witness_ResetsBeginAndEnd :
    (∃ (n : Nat), n < 1000) ∧
    (∃ (n : Nat) (s : State), 10000 ≤ n ∧ (s.chip.state = .active ∨ s.chip.state = .safe) ∧ s.chip.reset = none) ∧
    (∃ (r : ResetRun) (s : State), s.chip.reset = some r ∧ r.snapshotDone = true ∧ r.storeDone = true ∧ s.shell.run = none ∧ s.panel.paneDischarge =
      false ∧ s.panel.stripDischarge = false ∧ storeWf deviceDefault s.dict.values = true) ∧
    (∃ (s : State), s.chip.reset = none) :=
  ⟨⟨999, by decide⟩,
    ⟨10000, act, by decide⟩,
    ⟨⟨.pin, 0, true, true⟩, (wChip (fun x => { x with state := .boot, reset := some ⟨.pin, 0, true, true⟩ }) act), by decide⟩,
    ⟨act, by decide⟩⟩

theorem witness_StandbyIsEnteredAndLeft :
    (∃ (who : Who) (s : State), EngineFree s ∧ 1 ≤ who.level.val ∧ (∀ p, p < 64 → (podAt s p).mode = .stopped ∨ (podAt s p).mode = .doze) ∧
      s.link.code ≠ .coordinator ∧ s.link.code ≠ .silent ∧ (s.link.queue.all (fun f => f.cls != 3) = true)) ∧
    (∃ (who : Who) (p : Nat) (s : State), EngineFree s ∧ 1 ≤ who.level.val ∧ p < 64 ∧ (podAt s p).mode ≠ .stopped ∧ (podAt s p).mode ≠ .doze) ∧
    (∃ (who : Who) (s : State), EngineFree s ∧ 1 ≤ who.level.val ∧ (∀ p, p < 64 → (podAt s p).mode = .stopped ∨ (podAt s p).mode = .doze) ∧
      (s.link.code = .coordinator ∨ s.link.code = .silent)) ∧
    (∃ (who : Who) (s : State), EngineFree s ∧ who.level.val = 0) ∧
    (∃ (us : Nat) (s : State), s.chip.state = .standby ∧ s.link.code = .wakeListen ∧ huskRuns s = true ∧ devVal s 0x1106 0 ≤ us) ∧
    (∃ (us : Nat) (s : State), us < devVal s 0x1106 0) :=
  ⟨⟨(who 1), act, free_of (by decide), by decide⟩,
    ⟨(who 1), 3, (on runs), free_of (by decide), by decide⟩,
    ⟨(who 1), (inLink .coordinator act), free_of (by decide), by decide⟩,
    ⟨(who 0), act, free_of (by decide), by decide⟩,
    ⟨1000, (inLink .wakeListen (inState .standby act)), by decide⟩,
    ⟨0, (inLink .wakeListen (inState .standby act)), by decide⟩⟩

theorem witness_DefaultsAndDiscards :
    (∃ (who : Who) (s : State), EngineFree s ∧ 2 ≤ who.level.val ∧ (∀ p, p < 64 → (podAt s p).mode = .stopped) ∧ (∀ p, p < 64 → (podAt s
      p).sealRec.code = .closed) ∧ nextSlot s ≠ none) ∧
    (∃ (who : Who) (p : Nat) (s : State), EngineFree s ∧ 2 ≤ who.level.val ∧ p < 64 ∧ (podAt s p).mode ≠ .stopped) ∧
    (∃ (who : Who) (s : State), EngineFree s ∧ who.level.val < 2) ∧
    (∃ (who : Who) (p : Nat) (s : State), EngineFree s ∧ 1 ≤ who.level.val ∧ p < 64) ∧
    (∃ (who : Who) (s : State), EngineFree s ∧ 1 ≤ who.level.val) ∧
    (∃ (who : Who) (arg : Nat) (s : State), EngineFree s ∧ 1 ≤ who.level.val ∧ 64 ≤ arg ∧ arg < 0xFE) ∧
    (∃ (who : Who) (arg : Nat) (s : State), EngineFree s ∧ who.level.val = 0 ∧ arg < 256) :=
  ⟨⟨(who 2), act, free_of (by decide), by decide⟩,
    ⟨(who 2), 3, (on runs), free_of (by decide), by decide⟩,
    ⟨(who 1), act, free_of (by decide), by decide⟩,
    ⟨(who 1), 63, (on fun d => { d with staged := [(keyOf 0x20 1, 5)] }), free_of (by decide), by decide⟩,
    ⟨(who 1), act, free_of (by decide), by decide⟩,
    ⟨(who 1), 64, act, free_of (by decide), by decide⟩,
    ⟨(who 0), 255, act, free_of (by decide), by decide⟩⟩

theorem witness_FramesEndAtTheirBoundary :
    (∃ (p : Fin 64) (s : State), frameRuns (podAt s p.val) = true) ∧
    (∃ (p : Fin 64) (s : State), frameRuns (podAt s p.val) = false) ∧
    (∃ (p : Nat) (r : Nat) (s : State), p < 64 ∧ r < 64 ∧ r ≠ p ∧ s.clocks.spineLocked = true) ∧
    (∃ (p : Nat) (s : State), p < 64 ∧ s.clocks.spineLocked = false) ∧
    (∃ (d : Pod) (k : Nat) (n : Nat), k < 16 ∧ (d.conv.ranges.getD k ⟨0, none, 0, 0⟩).next = some n) ∧
    (∃ (k : Nat), k / 256 ≠ 0x12 ∧ k ≠ keyOf 0x36 0 ∧ k ≠ keyOf 0xC4 0 ∧ k ≠ keyOf 0x72 0 ∧ k ≠ keyOf 0xB2 0 ∧ k ≠ keyOf 0xB4 0) :=
  ⟨⟨3, (on runs), by decide⟩,
    ⟨3, act, by decide⟩,
    ⟨3, 63, act, by decide⟩,
    ⟨63, wClocks (fun x => { x with spineLocked := false }) act, by decide⟩,
    ⟨{ Pod.reset with conv := { Converters.reset with ranges := .replicate 16 ⟨2, some 3, 0, 0⟩ } }, 15, 3, by decide⟩,
    ⟨keyOf 0x27 1, by decide⟩⟩

theorem witness_ChannelsSettleAndRange :
    (∃ (p : Fin 64) (c : Fin 32) (s : State), runsFrames (podAt s p.val) = true ∧ ((podAt s p.val).chans.getD c.val .reset).live = true ∧ settleCount
      (podAt s p.val) c.val ≤ ((podAt s p.val).chans.getD c.val .reset).outputs ∧ (podAt s p.val).mode ≠ .waking) ∧
    (∃ (p : Fin 64) (c : Fin 32) (s : State), runsFrames (podAt s p.val) = true ∧ ((podAt s p.val).chans.getD c.val .reset).live = true ∧ settleCount
      (podAt s p.val) c.val ≤ ((podAt s p.val).chans.getD c.val .reset).outputs ∧ (podAt s p.val).mode = .waking ∧ (∀ k, k < 32 → k ≠ c.val → ((podAt
      s p.val).chans.getD k .reset).live = true → ((podAt s p.val).chans.getD k .reset).settled = true)) ∧
    (∃ (p : Fin 64) (c : Fin 32) (s : State), ((podAt s p.val).chans.getD c.val .reset).outputs < settleCount (podAt s p.val) c.val) ∧
    (∃ (p : Fin 64) (i : Fin 7) (c : Nat) (s : State), meterChan (podAt s p.val) i.val = some c ∧ runsFrames (podAt s p.val) = true ∧ ((podAt s
      p.val).chans.getD c .reset).live = true ∧ 2176 ≤ ((podAt s p.val).chans.getD c .reset).outputs) ∧
    (∃ (p : Fin 64) (k : Fin 16) (s : State), runsFrames (podAt s p.val) = true ∧ isAuto ((podAt s p.val).seqA.getD k.val 0) = true ∧ activeA (podAt s
      p.val) k.val = true ∧ ((podAt s p.val).conv.ranges.getD k.val ⟨0, none, 0, 0⟩).next = none ∧ rangeFrames (podAt s p.val) ≤ ((podAt s
      p.val).conv.ranges.getD k.val ⟨0, none, 0, 0⟩).frames) ∧
    (∃ (p : Fin 64) (m : Fin 5) (s : State), runsFrames (podAt s p.val) = true ∧ 65536000 * 65536 ≤ (podAt s p.val).conv.cmFrames.getD m.val 0 *
      (podAt s p.val).framePeriod) ∧
    (∃ (p : Fin 64) (m : Fin 5) (s : State), (podAt s p.val).conv.cmFrames.getD m.val 0 * (podAt s p.val).framePeriod < 65536000 * 65536) :=
  ⟨⟨3, 0, (on fun d => live (runs d)), by decide⟩,
    ⟨3, 0, (on fun d => { live (runs d) with mode := .waking }), by decide⟩,
    ⟨3, 0, (on runs), by decide⟩,
    ⟨3, 0, 0, (on fun d => live (runs d)), by decide⟩,
    ⟨3, 0, (on fun d => { runs d with conv := { d.conv with ranges := .replicate 16 ⟨2, none, 3072, 5120⟩ } }), by decide⟩,
    ⟨3, 4, (on fun d => { runs d with conv := { d.conv with cmFrames := .replicate 5 128000 } }), by decide⟩,
    ⟨3, 4, (on fun d => { runs d with conv := { d.conv with cmFrames := .replicate 5 127999 } }), by decide⟩⟩

theorem witness_SlicesAreCorrected :
    (∃ (p : Fin 64) (s : State), (podAt s p.val).val 0x36 0 ≠ 1) ∧
    (∃ (p : Fin 64) (onB : Bool) (s : State), (podAt s p.val).conv.estReady.getD (if onB then 1 else 0) none = none) ∧
    (∃ (p : Fin 64) (x : Solve) (any : Bool × Bool) (s : State), runsFrames (podAt s p.val) = true ∧ (podAt s p.val).mode ≠ .lean ∧
      (podAt s p.val).val 0x36 0 = 1 ∧ (podAt s p.val).conv.estReady.getD 0 none = some any ∧ x.late = true) ∧
    (∃ (p : Fin 64) (onB ao ag : Bool) (x : Solve) (s : State), runsFrames (podAt s p.val) = true ∧ (podAt s p.val).mode ≠ .lean ∧ (podAt s p.val).val
      0x36 0 = 1 ∧ (onB = true → bOff (podAt s p.val) = false) ∧
      (podAt s p.val).conv.estReady.getD (if onB then 1 else 0) none = some (ao, ag) ∧ x.late = false ∧ (podAt s p.val).conv.clamped = true ∧
      ao = true ∧ ag = false ∧ (∃ l, x.offset = some l) ∧ x.skew = none) ∧
    (∃ (lim : Int) (xs : List Int) (ys : List Int) (b : Bool), 0 ≤ lim ∧ clampSolve lim (some xs) = (some ys, b) ∧ b = false) :=
  ⟨⟨3, on fun d => { runs d with values := [(keyOf 0x36 0, 0)] }, by decide⟩,
    ⟨3, true, on runs, by decide⟩,
    ⟨3, ⟨some [9000, 0, 0, 0], none, none, 0, true⟩, (true, false), on fun d => { runs d with conv := { d.conv with estReady := .replicate 2 (some (true, false)) } }, by decide⟩,
    ⟨3, false, true, false, ⟨some [9000, 0, 0, 0], none, none, 0, false⟩,
      on fun d => { runs d with conv := { d.conv with clamped := true, estReady := .replicate 2 (some (true, false)) } },
      by decide, by decide, by decide, by decide, by decide, by decide, by decide, rfl, rfl, ⟨_, rfl⟩, rfl⟩,
    ⟨4096, [4096], [4096], false, by decide⟩⟩

theorem witness_ReferencesAreChecked :
    (∃ (p : Fin 64) (s : State), (podAt s p.val).conv.refDue = false) ∧
    (∃ (p : Fin 64) (s : State), runsFrames (podAt s p.val) = true ∧ bOff (podAt s p.val) = false ∧ (podAt s p.val).conv.refDue = true ∧
      injectionPlace (podAt s p.val) = none ∧ (podAt s p.val).conv.refDefer < 60) ∧
    (∃ (p : Fin 64) (g : Nat) (e : Option Nat) (s : State), runsFrames (podAt s p.val) = true ∧ bOff (podAt s p.val) = false ∧
      (podAt s p.val).conv.refDue = true ∧ injectionPlace (podAt s p.val) = some (g, e) ∧
      (g + (podAt s p.val).conv.frameB) % 4 ≠ (if (podAt s p.val).conv.refFirst then 0 else ((podAt s p.val).conv.refSlice + 1) % 4)) ∧
    (∃ (p : Fin 64) (ratio : Nat) (g : Nat) (e : Option Nat) (s : State), runsFrames (podAt s p.val) = true ∧ bOff (podAt s p.val) = false ∧
      (podAt s p.val).conv.refDue = true ∧ injectionPlace (podAt s p.val) = some (g, e) ∧ (g + (podAt s p.val).conv.frameB) % 4 = (if (podAt s
      p.val).conv.refFirst then 0 else ((podAt s p.val).conv.refSlice + 1) % 4) ∧ 1000 * ((ratio : Int) - Config.factoryRatio p.val).natAbs ≤
      Config.factoryRatio p.val) ∧
    (∃ (p : Fin 64) (k : Nat) (s : State), bOff (podAt s p.val) = false ∧ (podAt s p.val).shared = some k ∧ runsFrames (podAt s p.val) = true ∧ 2560 /
      respFrames (chanResp (podAt s p.val) k) ≤ (podAt s p.val).conv.plausPairs.length ∧ (((podAt s p.val).conv.plausPairs.take (2560 / respFrames
      (chanResp (podAt s p.val) k))).all (fun x => x.2.2) = true) ∧ (podAt s p.val).conv.plausCount < 2) ∧
    (∃ (p : Fin 64) (s : State), (podAt s p.val).shared = none) :=
  ⟨⟨3, on runs, by decide⟩,
    ⟨3, on fun d => { runs d with values := (List.range 16).map (fun k => (keyOf 0x21 (k + 1), 0x0F80)) ++ [(keyOf 0x24 0, 1)], conv := { d.conv with refDue := true } }, by decide +kernel⟩,
    ⟨3, 0, none, on fun d => { runs d with values := [(keyOf 0x24 0, 1)], conv := { d.conv with refDue := true, frameB := 1 } }, by decide⟩,
    ⟨3, Config.factoryRatio 3, 0, none, on fun d => { runs d with values := [(keyOf 0x24 0, 1)], conv := { d.conv with refDue := true } }, by decide, by decide, by decide, by decide, by decide, by simp⟩,
    ⟨3, 0, on fun d => { runs d with values := [(keyOf 0x24 0, 2)], conv := { d.conv with plausPairs := List.replicate 160 (7, 5, true) } }, by decide +kernel⟩,
    ⟨3, on runs, by decide⟩⟩

/-- Ten rising crossings of VA, one each 20 ms, newest first. -/
def tenRises : List Crossing := [13107200, 11796480, 10485760, 9175040, 7864320, 6553600, 5242880, 3932160, 2621440, 1310720].map (⟨·, true⟩)

theorem witness_MetersActOnTheirEvents :
    (∃ (p : Fin 64) (iv : Interval) (rest : List Interval) (r : Nat) (s : State), runsFrames (podAt s p.val) = true ∧
      (podAt s p.val).meter.halfQueue = iv :: rest ∧ reached (podAt s p.val) iv.stop = true ∧ (podAt s p.val).meter.source = 0 ∧ r < 64 ∧ r ≠ p.val) ∧
    (∃ (p : Fin 64) (iv : Interval) (rest : List Interval) (s : State), runsFrames (podAt s p.val) = true ∧
      (podAt s p.val).meter.winQueue = iv :: rest ∧ reached (podAt s p.val) iv.stop = true ∧ iv.stop ≤ (podAt s p.val).meter.boundary ∧
      streamsRun s = false) ∧
    (∃ (p : Fin 64) (s : State), runsFrames (podAt s p.val) = true ∧ harmEnd (podAt s p.val) = none) ∧
    (∃ (p : Fin 64) (rises : List Tick) (s : State), runsFrames (podAt s p.val) = true ∧ harmEnd (podAt s p.val) = some rises ∧ rises ≠ [] ∧
      (podAt s p.val).harm.due = none) ∧
    (∃ (p : Fin 64) (rises : List Tick) (w : HarmDue) (s : State), runsFrames (podAt s p.val) = true ∧ harmEnd (podAt s p.val) = some rises ∧
      rises ≠ [] ∧ (podAt s p.val).harm.due = some w) ∧
    (∃ (p : Fin 64) (stop : Tick) (s : State), runsFrames (podAt s p.val) = true ∧ ∀ w, (podAt s p.val).harm.due = some w → w.stop ≠ stop) ∧
    (∃ (p : Fin 64) (instant : Tick) (quality : Nat) (s : State), runsFrames (podAt s p.val) = true ∧
      ((podAt s p.val).harm.phasorDue.find? (fun x => x.1 == instant) = some (instant, quality)) ∧ instant ≤ stampBehind (podAt s p.val) 34588) ∧
    (∃ (p : Fin 64) (instant : Tick) (s : State), runsFrames (podAt s p.val) = true ∧ ∀ x ∈ (podAt s p.val).harm.phasorDue, x.1 ≠ instant) ∧
    (∃ (p : Fin 64) (s : State), runsFrames (podAt s p.val) = true ∧ refreshDue (podAt s p.val) = true ∧ 2 ≤ (podAt s p.val).events.gridCycle ∧
      idleDecision (nextRefresh (podAt s p.val)) (refreshRun (podAt s p.val)) = false) ∧
    (∃ (p : Fin 64) (s : State), runsFrames (podAt s p.val) = true ∧ (podAt s p.val).meter.source = 0) ∧
    (∃ (p : Fin 64) (c : Crossing) (s : State), runsFrames (podAt s p.val) = true ∧ (podAt s p.val).meter.source ≠ 0 ∧
      (((podAt s p.val).meter.crossings.getD ((podAt s p.val).meter.source - 1) []).head? = some c) ∧
      42 * (stampBehind (podAt s p.val) 34588 - c.stamp) < 65536000) ∧
    (∃ (p : Fin 64) (c : Crossing) (s : State), runsFrames (podAt s p.val) = true ∧ (podAt s p.val).meter.source ≠ 0 ∧
      (((podAt s p.val).meter.crossings.getD ((podAt s p.val).meter.source - 1) []).head? = some c) ∧
      65536000 ≤ 42 * (stampBehind (podAt s p.val) 34588 - c.stamp)) ∧
    (∃ (p : Fin 64) (s : State), halfDue (podAt s p.val) = false) ∧
    (∃ (p : Fin 64) (s : State), windowDue (podAt s p.val) = false) ∧
    (∃ (p : Fin 64) (s : State), refreshDue (podAt s p.val) = false) ∧
    (∃ (p : Fin 64) (s : State), runsFrames (podAt s p.val) = false) :=
  ⟨⟨3, ⟨0, 655360, 1, 1, false, [], 0⟩, [], 63, on fun d => { runs d with meter := { d.meter with halfQueue := [⟨0, 655360, 1, 1, false, [], 0⟩] }, values := bare d }, by decide⟩,
    ⟨3, ⟨0, 655360, 0, 1, false, [], 0⟩, [], setDev 0x2602 0 0 (on fun d => { runs d with meter := { d.meter with boundary := 655360, winQueue := [⟨0, 655360, 0, 1, false, [], 0⟩] }, values := bare d }), by decide⟩,
    ⟨3, on runs, by decide⟩,
    ⟨3, 0 :: (tenRises.map (·.stamp)).reverse, on fun d => { runs d with meter := { d.meter with source := 1, crossings := .replicate 3 tenRises } }, by decide, by decide +kernel, by decide, by decide⟩,
    ⟨3, 0 :: (tenRises.map (·.stamp)).reverse, ⟨0, 5, 10, [], false, 1, 1⟩, on fun d => { runs d with meter := { d.meter with source := 1, crossings := .replicate 3 tenRises }, harm := { d.harm with due := some ⟨0, 5, 10, [], false, 1, 1⟩ } }, by decide, by decide +kernel, by decide, by decide⟩,
    ⟨3, 6, on fun d => { runs d with harm := { d.harm with due := some ⟨0, 5, 10, [], false, 1, 1⟩ } }, by decide, fun w h => by cases h; decide⟩,
    ⟨3, 6553600, 2, on fun d => { runs d with marker := 10 ^ 9, harm := { d.harm with phasorDue := [(0, 1), (6553600, 2)] } }, by decide⟩,
    ⟨3, 6553600, on fun d => { runs d with marker := 10 ^ 9, harm := { d.harm with phasorDue := [(0, 1)] } }, by decide⟩,
    ⟨3, on fun d => { runs d with marker := 10 ^ 9, events := { d.events with gridCycle := 1310720 } }, by decide, by decide +kernel, by decide, by decide +kernel⟩,
    ⟨3, on runs, by decide⟩,
    ⟨3, ⟨10 ^ 9, true⟩, on fun d => { runs d with marker := 10 ^ 9, meter := { d.meter with source := 1, crossings := .replicate 3 [⟨10 ^ 9, true⟩] } }, by decide⟩,
    ⟨3, ⟨0, true⟩, on fun d => { runs d with marker := 10 ^ 9, meter := { d.meter with source := 1, crossings := .replicate 3 [⟨0, true⟩] } }, by decide⟩,
    ⟨3, on runs, by decide⟩,
    ⟨3, on runs, by decide⟩,
    ⟨3, on runs, by decide⟩,
    ⟨3, act, by decide⟩⟩

/-- An idle decision falls: the timer of `Pod.IdleTime` has run with every current input below the level. -/
theorem witness_idleDecision :
    ∃ (x : Tick) (d : Pod), idleDecision x d = true :=
  ⟨10 ^ 12, { Pod.reset with events := { Events.reset with idleFrom := some 0 } }, by decide⟩

theorem witness_RegistersNeverFall :
    (∃ (d : Pod), d.meter.halfQueue = []) ∧
    (∃ (d : Pod) (iv : Interval) (rest : List Interval), d.meter.halfQueue = iv :: rest) :=
  ⟨⟨Pod.reset, by decide⟩,
    ⟨{ Pod.reset with meter := { Meter.reset with halfQueue := [⟨0, 655360, 0, 1, false, [], 0⟩] } }, ⟨0, 655360, 0, 1, false, [], 0⟩, [], by decide⟩⟩

theorem witness_SentinelsArmAndTrip :
    (∃ (p : Fin 64) (n : Nat) (s : State), (podAt s p.val).doze.sentinel = .arming ∧ 950 ≤ n ∧ n ≤ 1050 ∧ (podAt s p.val).mode = .stopped ∧ (podAt s
      p.val).doze.idleEntry = false ∧ (podAt s p.val).doze.restart = false) ∧
    (∃ (p : Fin 64) (n : Nat) (s : State), (podAt s p.val).doze.sentinel = .arming ∧ (n < 950 ∨ 1050 < n)) ∧
    (∃ (p : Fin 64) (s : State), (podAt s p.val).doze.sentinel ≠ .arming) ∧
    (∃ (p : Fin 64) (s : State), (podAt s p.val).doze.sentinel = .arming ∧ (podAt s p.val).doze.restart = true) ∧
    (∃ (p : Fin 64) (uv : Nat) (us : Nat) (s : State), (podAt s p.val).val 0xB3 0 < uv ∧ 20 ≤ us ∧ huskRuns s = true ∧ s.chip.state = .active
      ∧ (podAt s p.val).doze.sentinel = .armed ∧ (podAt s p.val).doze.idleEntry = false) ∧
    (∃ (p : Fin 64) (uv : Nat) (us : Nat) (s : State), (podAt s p.val).val 0xB3 0 < uv ∧ 20 ≤ us ∧ huskRuns s = true ∧ s.chip.state ≠
      .unpowered ∧ ((podAt s p.val).doze.sentinel = .arming ∨ (podAt s p.val).doze.sentinel = .tripped ∨ (podAt s p.val).doze.sentinel = .pending)) ∧
    (∃ (p : Fin 64) (uv : Nat) (us : Nat) (s : State), (podAt s p.val).val 0xB3 0 < uv ∧ 20 ≤ us ∧ huskRuns s = false ∧ s.chip.state ≠
      .unpowered ∧ (podAt s p.val).doze.sentinel ≠ .off) ∧
    (∃ (p : Fin 64) (uv : Nat) (us : Nat) (s : State), (uv ≤ (podAt s p.val).val 0xB3 0 ∨ us < 20)) :=
  ⟨⟨3, 950, (on fun d => { d with doze := { d.doze with sentinel := .arming } }), by decide⟩,
    ⟨3, 949, (on fun d => { d with doze := { d.doze with sentinel := .arming } }), by decide⟩,
    ⟨3, act, by decide⟩,
    ⟨3, (on fun d => { d with doze := { d.doze with sentinel := .arming, restart := true } }), by decide⟩,
    ⟨3, 10 ^ 6, 20, (on fun d => { d with doze := { d.doze with sentinel := .armed } }), by decide⟩,
    ⟨3, 10 ^ 6, 20, (on fun d => { d with doze := { d.doze with sentinel := .tripped } }), by decide⟩,
    ⟨3, 10 ^ 6, 20, (wTime (fun t => { t with huskFrozen := true }) (on fun d => { d with doze := { d.doze with sentinel := .armed } })), by decide⟩,
    ⟨3, 10 ^ 6, 19, act, by decide⟩⟩

theorem witness_DozingPodsWakeAndTransfer :
    (∃ (p : Fin 64) (src : Nat) (s : State), (podAt s p.val).powering = some src ∧ governorActs s = true ∧ (podAt s p.val).frozen = false ∧
      (podAt s p.val).powerWait = false) ∧
    (∃ (p : Fin 64) (s : State), ((podAt s p.val).powering = none ∨ (podAt s p.val).powerWait = true)) ∧
    (∃ (p : Fin 64) (s : State), sentinelCounts (podAt s p.val) = true ∧ s.chip.state = .active ∧ laneSilent s p.val = false ∧ (podAt s
      p.val).doze.idleEntry = false) ∧
    (∃ (p : Fin 64) (s : State), sentinelCounts (podAt s p.val) = true ∧ s.chip.state = .standby) ∧
    (∃ (d : Pod) (k : Nat), takesTransfer d = true ∧ k ≠ 12) :=
  ⟨⟨3, 2, on fun d => { d with powering := some 2 }, by decide⟩,
    ⟨3, on fun d => { d with powering := some 2, powerWait := true }, by decide⟩,
    ⟨3, on fun d => { d with mode := .doze, doze := { d.doze with sentinel := .armed } }, by decide⟩,
    ⟨3, inState .standby (on fun d => { d with mode := .doze, doze := { d.doze with sentinel := .armed } }), by decide⟩,
    ⟨{ Pod.reset with doze := { Doze.reset with untransferred := 1 } }, 13, by decide⟩⟩

theorem witness_PulsesAreDriven :
    (∃ (p : Fin 64) (s : State), pulseRuns s = true ∧ gateOn s 3 = true ∧ edgeAllowed (podAt (syncPulse p.val s) p.val) s.time.elapsed = true) ∧
    (∃ (p : Fin 64) (s : State), (pulseRuns s = false ∨ gateOn s 3 = false ∨ edgeAllowed (podAt (syncPulse p.val s) p.val) s.time.elapsed = false)) ∧
    (∃ (p : Fin 64) (s : State), s.clocks.spineLocked = true ∧
      (podAt (syncPulse p.val s) p.val).pulse.edgeTicks + 16 * (podAt (syncPulse p.val s) p.val).pulse.width ≤ s.time.elapsed) ∧
    (∃ (p : Fin 64) (s : State), s.clocks.spineLocked = true ∧
      s.time.elapsed < (podAt (syncPulse p.val s) p.val).pulse.edgeTicks + 16 * (podAt (syncPulse p.val s) p.val).pulse.width) ∧
    (∃ (now : Tick) (d : Pod), edgeAllowed d now = true ∧ d.pulse.test = false) :=
  ⟨⟨3, (on fun d => { d with pulse := { d.pulse with owed := 2 } }), by decide⟩,
    ⟨3, act, by decide⟩,
    ⟨3, act, by decide⟩,
    ⟨3, on fun d => { d with pulse := { d.pulse with driving := true, edgeTicks := 10 ^ 12, width := 2, ran := 10 ^ 12 } }, by decide⟩,
    ⟨7, { Pod.reset with pulse := { Pulse.reset with owed := 1 } }, by decide⟩⟩

theorem witness_PodLanesFail :
    (∃ (p : Fin 64) (ua : Nat) (ns : Nat) (s : State), s.chip.state ≠ .unpowered ∧ 12000 < ua ∧ 10000 < ns ∧ (podAt s p.val).faults.isoOpen = false) ∧
    (∃ (p : Fin 64) (ua : Nat) (ns : Nat) (s : State), (ua ≤ 12000 ∨ ns ≤ 10000 ∨ (podAt s p.val).faults.isoOpen = true)) ∧
    (∃ (s : State), s.chip.state ≠ .unpowered) ∧
    (∃ (p : Fin 64) (s : State), s.chip.state ≠ .unpowered ∧ (podAt s p.val).faults.isoOpen = false) :=
  ⟨⟨3, 12001, 10001, act, by decide⟩,
    ⟨3, 12000, 10001, act, by decide⟩,
    ⟨act, by decide⟩,
    ⟨3, act, by decide⟩⟩

theorem witness_PodsStartAndStop :
    (∃ (who : Who) (p : Fin 64) (s : State), EngineFree s ∧ 1 ≤ who.level.val ∧ laneSilent s p.val = false ∧ ((podAt s p.val).mode = .stopped ∨ (podAt s
      p.val).mode = .doze) ∧ (podAt s p.val).powering = none ∧ (podAt s p.val).seqA.any entryUsed = true) ∧
    (∃ (who : Who) (p : Fin 64) (s : State), EngineFree s ∧ 1 ≤ who.level.val ∧ laneSilent s p.val = false ∧ ((podAt s p.val).mode = .fault ∨ (podAt s
      p.val).seqA.any entryUsed = false)) ∧
    (∃ (who : Who) (p : Fin 64) (s : State), EngineFree s ∧ 1 ≤ who.level.val ∧ laneSilent s p.val = false ∧ runsFrames (podAt s p.val) = true) ∧
    (∃ (who : Who) (p : Fin 64) (s : State), EngineFree s ∧ 1 ≤ who.level.val ∧ laneSilent s p.val = false ∧ (podAt s p.val).mode = .doze) ∧
    (∃ (who : Who) (p : Fin 64) (s : State), EngineFree s ∧ 1 ≤ who.level.val ∧ laneSilent s p.val = false ∧ (podAt s p.val).mode = .fault) ∧
    (∃ (who : Who) (p : Fin 64) (s : State), EngineFree s ∧ 1 ≤ who.level.val ∧ laneSilent s p.val = true) ∧
    (∃ (who : Who) (s : State), EngineFree s ∧ who.level.val = 0) :=
  ⟨⟨(who 1), 3, act, free_of (by decide), by decide⟩,
    ⟨(who 1), 3, (on fun d => { d with values := (List.range 7).map (fun k => (keyOf 0x20 (k + 1), 0)) }), free_of (by decide), by decide⟩,
    ⟨(who 1), 3, (on runs), free_of (by decide), by decide⟩,
    ⟨(who 1), 3, (on fun d => { d with mode := .doze, doze := { d.doze with sentinel := .armed } }), free_of (by decide), by decide⟩,
    ⟨(who 1), 3, (on fun d => { d with mode := .fault }), free_of (by decide), by decide⟩,
    ⟨(who 1), 3, (on fun d => { d with faults := { d.faults with isoOpen := true } }), free_of (by decide), by decide⟩,
    ⟨(who 0), act, free_of (by decide), by decide⟩⟩

theorem witness_PodCommandsAct :
    (∃ (who : Who) (p : Fin 64) (s : State), EngineFree s ∧ 1 ≤ who.level.val ∧ laneSilent s p.val = false ∧ (podAt s p.val).mode = .stopped ∧ (podAt s
      p.val).powering = none) ∧
    (∃ (who : Who) (p : Fin 64) (s : State), EngineFree s ∧ 1 ≤ who.level.val ∧ laneSilent s p.val = false ∧ (podAt s p.val).mode = .doze) ∧
    (∃ (who : Who) (p : Fin 64) (s : State), EngineFree s ∧ 1 ≤ who.level.val ∧ laneSilent s p.val = false ∧ (podAt s p.val).mode ≠ .doze ∧ (podAt s
      p.val).mode ≠ .stopped) ∧
    (∃ (who : Who) (p : Fin 64) (s : State) (arg : Nat), EngineFree s ∧ 1 ≤ who.level.val ∧ laneSilent s p.val = false ∧ (podAt s p.val).doze.transfers
      % 256 = arg % 256) ∧
    (∃ (who : Who) (p : Fin 64) (s : State) (arg : Nat), EngineFree s ∧ 1 ≤ who.level.val ∧ laneSilent s p.val = false ∧ (podAt s p.val).doze.transfers
      % 256 ≠ arg % 256) ∧
    (∃ (who : Who) (p : Fin 64) (s : State), EngineFree s ∧ 2 ≤ who.level.val ∧ laneSilent s p.val = false ∧ sampling (podAt s p.val).mode = true ∧
      (podAt s p.val).mux = .primary) ∧
    (∃ (who : Who) (p : Fin 64) (s : State), EngineFree s ∧ 2 ≤ who.level.val ∧ laneSilent s p.val = false ∧ sampling (podAt s p.val).mode = true ∧
      (podAt s p.val).mux = .alternate ∧ s.clocks.spineLocked = true ∧ contained s 0 = false) ∧
    (∃ (who : Who) (p : Fin 64) (s : State), EngineFree s ∧ 2 ≤ who.level.val ∧ laneSilent s p.val = false ∧ sampling (podAt s p.val).mode = false) ∧
    (∃ (who : Who) (s : State), EngineFree s ∧ who.level.val < 2) ∧
    (∃ (who : Who) (p : Fin 64) (v : Nat) (s : State), EngineFree s ∧ who.level.val = 3 ∧ laneSilent s p.val = false ∧ gateOn s 3 = true ∧ v ≤ 1 ∧ (v =
      0 ∨ (podAt s p.val).sealRec.code = .opened)) ∧
    (∃ (who : Who) (p : Fin 64) (v : Nat) (s : State), EngineFree s ∧ who.level.val = 3 ∧ laneSilent s p.val = false ∧ gateOn s 3 = true ∧ v ≤ 1 ∧ v = 1
      ∧ (podAt s p.val).sealRec.code ≠ .opened) :=
  ⟨⟨(who 1), 3, act, free_of (by decide), by decide⟩,
    ⟨(who 1), 3, (on fun d => { d with mode := .doze, doze := { d.doze with sentinel := .armed } }), free_of (by decide), by decide⟩,
    ⟨(who 1), 3, (on runs), free_of (by decide), by decide⟩,
    ⟨(who 1), 3, act, 256, free_of (by decide), by decide⟩,
    ⟨(who 1), 3, act, 255, free_of (by decide), by decide⟩,
    ⟨(who 2), 3, (on runs), free_of (by decide), by decide⟩,
    ⟨(who 2), 3, (on fun d => { runs d with mux := .alternate }), free_of (by decide), by decide⟩,
    ⟨(who 2), 3, act, free_of (by decide), by decide⟩,
    ⟨(who 1), act, free_of (by decide), by decide⟩,
    ⟨(who 3), 3, 1, (on fun d => { d with sealRec := { d.sealRec with code := .opened } }), free_of (by decide), by decide⟩,
    ⟨(who 3), 3, 1, act, free_of (by decide), by decide⟩⟩

theorem witness_PodResetIsSoftOrHard :
    (∃ (who : Who) (p : Fin 64) (s : State), EngineFree s ∧ 2 ≤ who.level.val ∧ laneSilent s p.val = false) ∧
    (∃ (who : Who) (p : Fin 64) (s : State), EngineFree s ∧ 2 ≤ who.level.val ∧ (podAt s p.val).faults.isoOpen = true) ∧
    (∃ (who : Who) (s : State), EngineFree s ∧ who.level.val < 2) ∧
    (∃ (p : Nat) (s : State), (podAt s p).faults.isoOpen = false ∧ runsFrames (podAt s p) = true) ∧
    (∃ (p : Nat) (s : State), (podAt s p).faults.isoOpen = false ∧ runsFrames (podAt s p) = false) ∧
    (∃ (p : Nat) (s : State), (podAt s p).faults.isoOpen = true) ∧
    (∃ (p : Nat) (s : State), (podAt s p).faults.isoOpen = false) :=
  ⟨⟨(who 2), 3, act, free_of (by decide), by decide⟩,
    ⟨(who 2), 3, (on fun d => { d with faults := { d.faults with isoOpen := true } }), free_of (by decide), by decide⟩,
    ⟨(who 1), act, free_of (by decide), by decide⟩,
    ⟨3, (on runs), by decide⟩,
    ⟨3, act, by decide⟩,
    ⟨3, (on fun d => { d with faults := { d.faults with isoOpen := true } }), by decide⟩,
    ⟨3, act, by decide⟩⟩

theorem witness_SealsOpenAndClose :
    (∃ (who : Who) (p : Fin 64) (s : State), EngineFree s ∧ who.level.val = 3 ∧ laneSilent s p.val = false ∧ (podAt s p.val).sealRec.code = .closed ∧
      contained s 2 = false ∧ auditFree s ≠ 0) ∧
    (∃ (who : Who) (p : Fin 64) (s : State), EngineFree s ∧ who.level.val = 3 ∧ laneSilent s p.val = false ∧ (podAt s p.val).sealRec.code = .closed ∧
      contained s 2 = false ∧ auditFree s = 0) ∧
    (∃ (who : Who) (p : Fin 64) (s : State), EngineFree s ∧ who.level.val = 3 ∧ laneSilent s p.val = false ∧ (podAt s p.val).sealRec.code = .opened ∧
      ((podAt s p.val).staged.any (fun e => sealedLoc e.1) = false) ∧ nextSlot s ≠ none) ∧
    (∃ (who : Who) (p : Fin 64) (s : State), EngineFree s ∧ who.level.val = 3 ∧ laneSilent s p.val = false ∧ (podAt s p.val).sealRec.code = .opened ∧
      ((podAt s p.val).staged.any (fun e => sealedLoc e.1) = true)) ∧
    (∃ (who : Who) (s : State), EngineFree s ∧ who.level.val < 3) ∧
    (∃ (p : Fin 64) (s : State), podsHoldEnergy s = true ∧ (podAt s p.val).sealRec.code = .opened ∧ (podAt s p.val).sealRec.openStamp + (podAt s
      p.val).val 0xCA 0 * 65536000 ≤ s.time.stamp) ∧
    (∃ (p : Fin 64) (s : State), ((podAt s p.val).sealRec.code ≠ .opened ∨ s.time.stamp < (podAt s p.val).sealRec.openStamp + (podAt s p.val).val 0xCA
      0 * 65536000)) :=
  ⟨⟨(who 3), 3, act, free_of (by decide), by decide⟩,
    ⟨(who 3), 3, (wShell (fun x => { x with audit := List.replicate 256 ⟨[], false⟩ }) act), free_of (by decide +kernel), by decide +kernel⟩,
    ⟨(who 3), 3, (on fun d => { d with sealRec := { d.sealRec with code := .opened } }), free_of (by decide), by decide⟩,
    ⟨(who 3), 3, (on fun d => { d with sealRec := { d.sealRec with code := .opened }, staged := [(keyOf 0x50 1, 5)] }), free_of (by decide), by decide⟩,
    ⟨(who 2), act, free_of (by decide), by decide⟩,
    ⟨3, (on fun d => { d with sealRec := { d.sealRec with code := .opened } }), by decide⟩,
    ⟨3, act, by decide⟩⟩

theorem witness_StoresRun :
    (∃ (who : Who) (s : State), EngineFree s ∧ 1 ≤ who.level.val ∧ contained s 2 = false ∧ s.shell.lastCommandEnd = none ∧ nextSlot s ≠ none) ∧
    (∃ (who : Who) (t0 : Tick) (s : State), EngineFree s ∧ 1 ≤ who.level.val ∧ s.shell.lastCommandEnd = some t0 ∧ s.time.elapsed < t0 + 60 * 65536000) ∧
    (∃ (s : State), (s.chip.state = .active ∨ s.chip.state = .standby ∨ s.chip.state = .safe) ∧ contained s 2 = false ∧ s.shell.lastEnd + devVal s
      0x2201 0 * 60 * 65536000 ≤ s.time.elapsed) ∧
    (∃ (s : State), (contained s 2 = true ∨ s.time.elapsed < s.shell.lastEnd + devVal s 0x2201 0 * 60 * 65536000)) ∧
    (∃ (k : Nat) (s : State), s.shell.run = none ∧ nextSlot s = some k) ∧
    (∃ (r : StoreRun) (s : State), s.shell.run = some r ∧ r.phase = 1 ∧ nvsRuns s = true) ∧
    (∃ (r : StoreRun) (s : State), s.shell.run = some r ∧ r.phase = 2 ∧ r.slot < 8 ∧ nvsRuns s = true) ∧
    (∃ (s : State), nvsRuns s = false) ∧
    (∃ (r : StoreRun) (s : State), s.shell.run = some r ∧ r.phase = 3 ∧ s.shell.pending = 0 ∧ s.chip.state = .active ∧ s.chip.standbyWanted = false ∧
      s.engine.running = none ∧ s.engine.waiting = none ∧ s.engine.frames = [] ∧ (s.engine.subs.all (fun x => !x.due) = true)) :=
  ⟨⟨(who 1), act, free_of (by decide), by decide⟩,
    ⟨(who 1), 10 ^ 12, (wShell (fun x => { x with lastCommandEnd := some (10 ^ 12) }) act), free_of (by decide), by decide⟩,
    ⟨act, by decide⟩,
    ⟨(wTime (fun x => { x with elapsed := 0 }) act), by decide⟩,
    ⟨0, act, by decide⟩,
    ⟨store 1, storing 1 act, by decide⟩,
    ⟨store 2, storing 2 act, by decide⟩,
    ⟨wOsc 3 ⟨.qualifying, 0, true, 0, true⟩ act, by decide⟩,
    ⟨store 3, storing 3 act, by decide, by decide, by decide, by decide, by decide, by decide, by decide, by decide, all_toList _ (by decide)⟩⟩

theorem witness_ProgrammedImageIsRecalled :
    ∃ (r : StoreRun) (s : State) (b : State), s.shell.run = some r ∧ r.phase = 2 ∧ r.slot < 8 ∧ r.seq < 2 ^ 32 ∧ (∀ k, k < 8 → k ≠ r.slot →
      headerVerifies (slotAt s k) = true → (slotAt s k).seq < r.seq) ∧ b.shell.slots = (programEnds s).shell.slots ∧ b.chip.state = .boot ∧
      b.chip.reset = none ∧ booted b 0 = true ∧ booted b 2 = false ∧ qualified b 3 = true ∧ b.chip.resetLow = false ∧ b.guard.armed = false :=
  ⟨store 2, storing 2 act,
    { wGuard (fun x => { x with armed := false }) (bootTo 1) with shell := (programEnds (storing 2 act)).shell },
    by decide, by decide, by decide, by decide, by decide +kernel, rfl, by decide, by decide, by decide, by decide, by decide, by decide, by decide⟩

theorem witness_LogAppendsInOrder :
    (∃ (x : LogRec) (rest : List LogRec) (s : State), s.shell.logReady = true ∧ s.shell.queue = x :: rest) ∧
    (∃ (s : State), (s.shell.queue = [] ∨ s.shell.logReady = false)) ∧
    (∃ (s : State), s.shell.drops = 0 ∧ s.shell.queue.length < 16) ∧
    (∃ (s : State), 16 ≤ s.shell.queue.length) :=
  ⟨⟨⟨0, 3, 0, 0, 5, [], false⟩, [], (wShell (fun x => { x with queue := [⟨0, 3, 0, 0, 5, [], false⟩] }) act), by decide⟩,
    ⟨act, by decide⟩,
    ⟨act, by decide⟩,
    ⟨(wShell (fun x => { x with queue := List.replicate 16 ⟨0, 3, 0, 0, 5, [], false⟩ }) act), by decide⟩⟩

theorem witness_GuardLevelsMove :
    (∃ (c : FaultClass) (p : Fin 64) (source : Nat) (s : State), s.guard.armed = true ∧ ((sourceOf c source).2 = 1 ∨ (sourceOf c source).2 = 2) ∧
      (instAt s (instIndex c p.val)).occs = [] ∧ s.guard.held = []) ∧
    (∃ (s : State), s.chip.state ≠ .active) ∧
    (∃ (s : State), s.chip.state = .active) ∧
    (∃ (c : FaultClass) (source : Nat) (s : State), (c ≠ .pwr ∨ (source ≠ 4 ∧ source ≠ 8)) ∧ causeMayClear c source s = true) ∧
    (∃ (c : FaultClass) (source : Nat) (s : State), (c ≠ .pwr ∨ (source ≠ 4 ∧ source ≠ 8)) ∧ causeMayClear c source s = false) ∧
    (∃ (p : Fin 64) (s : State), p.val < 7 ∧ ∃ j, j < 7 ∧ j ≠ p.val ∧ railOn s j = true ∧ bit s.power.rails j = false) ∧
    (∃ (c : FaultClass) (p : Fin 64) (x : Contain) (s : State), (instAt s (instIndex c p.val)).contain = some x ∧ x.quiet = true ∧ ((instAt s
      (instIndex c p.val)).occs.all (fun o => o.causes.isEmpty && o.level != 4) = true)) ∧
    (∃ (c : FaultClass) (p : Fin 64) (s : State), (instAt s (instIndex c p.val)).contain = none) ∧
    (∃ (s : State), s.chip.state ≠ .unpowered) ∧
    (∃ (f : SelfFault) (n : Nat) (s : State), ((f = .lockstep ∧ n = 1) ∨ (f = .ecc ∧ n = 2) ∨ (f = .supply ∧ n = 3)) ∧ s.chip.state = .active ∧
      s.guard.armed = true ∧ (instAt s 7).occs = []) :=
  ⟨⟨.clk, 0, 5, act, by decide⟩,
    ⟨(inState .safe act), by decide⟩,
    ⟨(raise .clk 0 5 0 act), by decide⟩,
    ⟨.pwr, 2, act, by decide⟩,
    ⟨.pwr, 2, wPower (fun x => { x with trunk := 0 }) act, by decide⟩,
    ⟨2, wPower (fun x => { x with rails := 0 }) act, by decide, 3, by decide⟩,
    ⟨.pod, 3, ⟨true, 10, 0⟩, (wGuard (fun x => { x with insts := putAt x.insts 11 ⟨[⟨1, 3, true, [], 0, none, false, true⟩], some ⟨true, 10, 0⟩, 0, 1⟩ }) act), by decide⟩,
    ⟨.pod, 3, act, by decide⟩,
    ⟨act, by decide⟩,
    ⟨.lockstep, 1, act, by decide⟩⟩

theorem witness_GuardIsAcknowledged :
    (∃ (who : Who) (s : State), EngineFree s ∧ 1 ≤ who.level.val) ∧
    (∃ (who : Who) (k : Nat) (arg : Nat) (c : FaultClass) (s : State), EngineFree s ∧ 1 ≤ who.level.val ∧ 1 ≤ k ∧ classOfCode k = some c ∧ arg < 256 ∧
      arg < (if c = .pod then 64 else 1)) ∧
    (∃ (who : Who) (k : Nat) (arg : Nat) (c : FaultClass) (s : State), EngineFree s ∧ 1 ≤ who.level.val ∧ 1 ≤ k ∧ classOfCode k = some c ∧ arg < 256 ∧
      (if c = .pod then 64 else 1) ≤ arg) ∧
    (∃ (who : Who) (code : Nat) (s : State), EngineFree s ∧ 1 ≤ who.level.val ∧ ((code ≤ 0x0100 ∧ code ≠ 0x0010) ∨ 0x0109 ≤ code) ∧ code < 65536) ∧
    (∃ (who : Who) (s : State), EngineFree s ∧ who.level.val = 0) ∧
    (∃ (c : FaultClass) (p : Fin 64) (k : Nat), k < 72 ∧ k ≠ instIndex c p.val) :=
  ⟨⟨(who 1), (raise .pod 3 1 0 act), free_of (by decide), by decide⟩,
    ⟨(who 1), 7, 63, .pod, (raise .pod 3 1 0 act), free_of (by decide), by decide⟩,
    ⟨(who 1), 7, 64, .pod, act, free_of (by decide), by decide⟩,
    ⟨(who 1), 0x0109, act, free_of (by decide), by decide⟩,
    ⟨(who 0), act, free_of (by decide), by decide⟩,
    ⟨.pod, 3, 71, by decide⟩⟩

theorem witness_PanelsShow :
    (∃ (s : State), s.panel.mode = 2 ∧ scanRuns s = true ∧ s.panel.paneDone = false) ∧
    (∃ (s : State), (s.panel.mode ≠ 2 ∨ scanRuns s = false)) ∧
    (∃ (s : State), s.chip.state ≠ .unpowered ∧ huskRuns s = true ∧ s.panel.mode ≠ 2 ∧ paneEffective s ≠ 2 ∧ paneEffective s ≠ 3 ∧
      bit s.power.rails 4 = true ∧ bit s.power.rails 5 = true ∧ (s.chip.state ≠ .boot ∨ booted s 5 = true)) ∧
    (∃ (s : State), huskRuns s = false) ∧
    (∃ (s : State), coreRuns s = true ∧ stripMay s = true ∧ s.panel.wantLit = true) ∧
    (∃ (s : State), coreRuns s = true ∧ (stripMay s = false ∨ s.panel.wantLit = false)) ∧
    (∃ (s : State), coreRuns s = false) ∧
    (∃ (x y colour : Nat) (s : State), fullRow s y = true ∧ x < 128 ∧ colour < 3) :=
  ⟨⟨wPanel (fun x => { x with mode := 2 }) act, by decide⟩,
    ⟨act, by decide⟩,
    ⟨act, by decide⟩,
    ⟨wTime (fun x => { x with huskFrozen := true }) act, by decide⟩,
    ⟨wPanel (fun x => { x with wantLit := true }) (setDev 0x2480 0 1 act), by decide⟩,
    ⟨act, by decide⟩,
    ⟨wMux 1 .rescueWait act, by decide⟩,
    ⟨127, 63, 2, wPanel (fun x => { x with mode := 2, bandAt := (0, 16) }) act, by decide⟩⟩

theorem witness_PanelsAreProbedAndDischarged :
    (∃ (s : State), probesRun s = true) ∧
    (∃ (s : State), probesRun s = true) ∧
    (∃ (s : State), probesRun s = false) ∧
    (∃ (s : State), s.panel.paneDischarge = true ∧ s.chip.state ≠ .hold ∧ s.panel.displayReset = false) ∧
    (∃ (s : State), s.panel.paneDischarge = true ∧ s.chip.state = .hold) ∧
    (∃ (s : State), s.panel.stripDischarge = true ∧ s.chip.state ≠ .hold ∧ s.panel.displayReset = false) ∧
    (∃ (who : Who) (s : State), EngineFree s ∧ 1 ≤ who.level.val) ∧
    (∃ (who : Who) (s : State), EngineFree s ∧ who.level.val = 0) :=
  ⟨⟨act, by decide⟩,
    ⟨act, by decide⟩,
    ⟨(inState .hold act), by decide⟩,
    ⟨(wPanel (fun x => { x with paneDischarge := true }) act), by decide⟩,
    ⟨(wPanel (fun x => { x with paneDischarge := true }) held), by decide⟩,
    ⟨(wPanel (fun x => { x with stripDischarge := true }) act), by decide⟩,
    ⟨(who 1), act, free_of (by decide), by decide⟩,
    ⟨(who 0), act, free_of (by decide), by decide⟩⟩

theorem witness_PanelWritesTakeEffect :
    (∃ (who : Who) (s : State) (v : Nat), EngineFree s ∧ 1 ≤ who.level.val ∧ gateOn s 0 = true ∧ v ≤ 2) ∧
    (∃ (who : Who) (s : State) (v : Nat), EngineFree s ∧ 1 ≤ who.level.val ∧ gateOn s 0 = true ∧ 2 < v ∧ v < 256) ∧
    (∃ (who : Who) (s : State) (v : Nat), EngineFree s ∧ 1 ≤ who.level.val ∧ gateOn s 0 = true ∧ v < 256) ∧
    (∃ (who : Who) (s : State) (k : Nat) (v : Nat), EngineFree s ∧ 1 ≤ who.level.val ∧ gateOn s 0 = true ∧ k < 4 ∧ v < 256 ^ 144 ∧ devVal s 0x2406 0 +
      k ≤ 127) ∧
    (∃ (who : Who) (s : State) (k : Nat) (v : Nat), EngineFree s ∧ 1 ≤ who.level.val ∧ gateOn s 0 = true ∧ k < 4 ∧ v < 256 ^ 144 ∧ 127 < devVal s
      0x2406 0 + k) ∧
    (∃ (s : State) (k : Nat), k ≤ 127 ∧ FrameBufferWf s) ∧
    (∃ (who : Who) (s : State), EngineFree s ∧ 1 ≤ who.level.val ∧ gateOn s 1 = true ∧ s.panel.wantLit = false) ∧
    (∃ (who : Who) (v : Nat) (s : State), EngineFree s ∧ 2 ≤ who.level.val ∧ v < 2 ^ 32) ∧
    (∃ (s : State), storeWf deviceDefault s.dict.values = true) :=
  ⟨⟨(who 1), act, 2, free_of (by decide), by decide⟩,
    ⟨(who 1), act, 3, free_of (by decide), by decide⟩,
    ⟨(who 1), act, 255, free_of (by decide), by decide⟩,
    ⟨(who 1), act, 3, 5, free_of (by decide), by decide⟩,
    ⟨(who 1), (setDev 0x2406 0 125 act), 3, 5, free_of (by decide), by decide⟩,
    ⟨act, 127, by decide, rfl⟩,
    ⟨(who 1), act, free_of (by decide), by decide⟩,
    ⟨(who 2), 127, act, free_of (by decide), by decide⟩,
    ⟨act, by decide⟩⟩

theorem witness_ClockCommandsSwitch :
    (∃ (who : Who) (s : State), EngineFree s ∧ 2 ≤ who.level.val ∧ contained s 0 = false ∧ (muxAt s 0).code = .alternate ∧ qualified s 0 = true) ∧
    (∃ (who : Who) (s : State), EngineFree s ∧ 2 ≤ who.level.val ∧ contained s 0 = false ∧ (muxAt s 1).code = .primary ∧ qualified s 3 = true) ∧
    (∃ (who : Who) (s : State), EngineFree s ∧ 2 ≤ who.level.val ∧ contained s 0 = false ∧ (muxAt s 2).code = .primary ∧ qualified s 3 = true) ∧
    (∃ (who : Who) (s : State), EngineFree s ∧ 2 ≤ who.level.val ∧ contained s 0 = false ∧ (muxAt s 5).code = .primary) ∧
    (∃ (who : Who) (s : State), EngineFree s ∧ 2 ≤ who.level.val ∧ ((muxAt s 0).code = .primary ∨ (muxAt s 0).code = .switching)) ∧
    (∃ (who : Who) (s : State), EngineFree s ∧ 2 ≤ who.level.val ∧ (muxAt s 5).code = .off) ∧
    (∃ (who : Who) (arg : Nat) (s : State), EngineFree s ∧ 2 ≤ who.level.val ∧ 2 ≤ arg ∧ arg < 256) ∧
    (∃ (who : Who) (s : State), EngineFree s ∧ who.level.val < 2) ∧
    (∃ (who : Who) (s : State), EngineFree s ∧ 2 ≤ who.level.val) :=
  ⟨⟨(who 2), (wMux 0 .alternate act), free_of (by decide), by decide⟩,
    ⟨(who 2), act, free_of (by decide), by decide⟩,
    ⟨(who 2), act, free_of (by decide), by decide⟩,
    ⟨(who 2), act, free_of (by decide), by decide⟩,
    ⟨(who 2), act, free_of (by decide), by decide⟩,
    ⟨(who 2), (wMux 5 .off act), free_of (by decide), by decide⟩,
    ⟨(who 2), 2, act, free_of (by decide), by decide⟩,
    ⟨(who 1), act, free_of (by decide), by decide⟩,
    ⟨(who 2), act, free_of (by decide), by decide⟩⟩

theorem witness_DeviceObjectsAreWritten :
    (∃ (who : Who) (v : Nat) (s : State) (sub : Nat), EngineFree s ∧ 2 ≤ who.level.val ∧ v < 256 ∧ 1 ≤ sub ∧ sub ≤ 64) ∧
    (∃ (who : Who) (s : State), EngineFree s ∧ who.level.val < 2) ∧
    (∃ (who : Who) (v : Nat) (s : State), EngineFree s ∧ v < 256 ^ 16 ∧ 2 ≤ who.level.val) ∧
    (∃ (who : Who) (v : Nat) (s : State), EngineFree s ∧ v < 256 ^ 16 ∧ who.level.val = 3) ∧
    (∃ (who : Who) (v : Nat) (s : State), EngineFree s ∧ v < 256 ^ 16 ∧ who.level.val < 2) ∧
    (∃ (who : Who) (v : Nat) (s : State), EngineFree s ∧ v < 256 ^ 16 ∧ who.level.val < 3) ∧
    (∃ (who : Who) (v : Nat) (s : State), EngineFree s ∧ 2 ≤ who.level.val ∧ gateOn s 2 = true ∧ v % 2 = 0 ∧ v < 512) ∧
    (∃ (who : Who) (v : Nat) (s : State), EngineFree s ∧ 2 ≤ who.level.val ∧ gateOn s 2 = true ∧ (v % 2 = 1 ∨ 512 ≤ v) ∧ v < 2 ^ 32) ∧
    (∃ (s : State), storeWf deviceDefault s.dict.values = true) :=
  ⟨⟨(who 2), 255, act, 64, free_of (by decide), by decide⟩,
    ⟨(who 1), act, free_of (by decide), by decide⟩,
    ⟨(who 2), 256 ^ 16 - 1, act, free_of (by decide), by decide⟩,
    ⟨(who 3), 256 ^ 16 - 1, act, free_of (by decide), by decide⟩,
    ⟨(who 1), 256 ^ 16 - 1, act, free_of (by decide), by decide⟩,
    ⟨(who 2), 256 ^ 16 - 1, act, free_of (by decide), by decide⟩,
    ⟨(who 2), 510, (setDev 0x2602 0 127 act), free_of (by decide), by decide⟩,
    ⟨(who 2), 512, (setDev 0x2602 0 127 act), free_of (by decide), by decide⟩,
    ⟨act, by decide⟩⟩

theorem witness_ItemsAreChecked :
    (∃ (index : Nat) (s : State), EngineFree s ∧ findPlace index = none) ∧
    (∃ (index : Nat) (sub : Nat) (s : State) (x : Place) (t : Ty), EngineFree s ∧ findPlace index = some x ∧ x.obj.tyAt sub = some t ∧ x.obj.write =
      none) ∧
    (∃ (who : Who) (index : Nat) (sub : Nat) (s : State) (x : Place) (t : Ty) (level : Nat), EngineFree s ∧ findPlace index = some x ∧ x.obj.tyAt sub
      = some t ∧ x.obj.write = some level ∧ (x.obj.isSimple = true ∨ sub ≠ 0) ∧ who.level.val < level) ∧
    (∃ (who : Who) (index : Nat) (sub : Nat) (code : Nat) (len : Nat) (s : State) (x : Place) (t : Ty) (level : Nat), EngineFree s ∧ findPlace index =
      some x ∧ x.obj.tyAt sub = some t ∧ x.obj.write = some level ∧ (x.obj.isSimple = true ∨ sub ≠ 0) ∧ level ≤ who.level.val ∧ (code ≠ t.code ∨ len ≠
      t.size)) ∧
    (∃ (who : Who) (index : Nat) (sub : Nat) (code : Nat) (len : Nat) (v : Nat) (s : State) (x : Place) (t : Ty) (level : Nat), EngineFree s ∧
      findPlace index = some x ∧ x.obj.tyAt sub = some t ∧ x.obj.write = some level ∧ (x.obj.isSimple = true ∨ sub ≠ 0) ∧ level ≤ who.level.val ∧ code
      = t.code ∧ len = t.size ∧ x.pod = none ∧ x.obj.apply = .warm ∧ x.isCommand = false ∧ devValueOk s x.obj t sub (maskReserved false x.obj.index (v
      % 256 ^ len)) = true) ∧
    (∃ (who : Who) (index : Nat) (sub : Nat) (code : Nat) (len : Nat) (v : Nat) (s : State) (x : Place) (t : Ty) (level : Nat), EngineFree s ∧
      findPlace index = some x ∧ x.obj.tyAt sub = some t ∧ x.obj.write = some level ∧ (x.obj.isSimple = true ∨ sub ≠ 0) ∧ level ≤ who.level.val ∧ code
      = t.code ∧ len = t.size ∧ x.pod = none ∧ x.obj.apply = .warm ∧ x.isCommand = false ∧ devValueOk s x.obj t sub (maskReserved false x.obj.index (v
      % 256 ^ len)) = false) ∧
    (∃ (who : Who) (index : Nat) (sub : Nat) (code : Nat) (size : Nat) (x : Place) (s : State), EngineFree s ∧ findPlace index = some x ∧ readType
      x.obj sub = some (code, size) ∧ x.obj.read ≤ who.level.val ∧ windowDenied who x sub s = false ∧ gatedBit s x = none ∧ x.unreachable s =
      false ∧ snapshotWait x sub s = none) ∧
    (∃ (who : Who) (index : Nat) (sub : Nat) (x : Place) (s : State), EngineFree s ∧ findPlace index = some x ∧ (readType x.obj sub).isSome = true ∧
      who.level.val < x.obj.read) ∧
    (∃ (who : Who) (p : Fin 64) (sub : Nat) (s : State), EngineFree s ∧ 1 ≤ who.level.val ∧ 1 ≤ sub ∧ sub ≤ 11 ∧ laneSilent s p.val = false ∧ runsFrames
      (podAt s p.val) = true) ∧
    (∃ (who : Who) (p : Fin 64) (sub : Nat) (s : State), EngineFree s ∧ 1 ≤ who.level.val ∧ 1 ≤ sub ∧ sub ≤ 11 ∧ laneSilent s p.val = false ∧ runsFrames
      (podAt s p.val) = false) :=
  ⟨⟨0x1, act, free_of (by decide), by decide⟩,
    ⟨0x1000, 0, act, (place 0x1000), .u32, free_of (by decide), by decide⟩,
    ⟨(who 1), 0x1102, 0, act, (place 0x1102), .u8, 2, free_of (by decide), by decide⟩,
    ⟨(who 2), 0x1102, 0, 3, 1, act, (place 0x1102), .u8, 2, free_of (by decide), by decide⟩,
    ⟨(who 2), 0x1102, 0, 2, 1, 1, act, (place 0x1102), .u8, 2, free_of (by decide), by decide⟩,
    ⟨(who 2), 0x1102, 0, 2, 1, 0, act, (place 0x1102), .u8, 2, free_of (by decide), by decide⟩,
    ⟨(who 0), 0x1000, 0, 4, 4, (place 0x1000), act, free_of (by decide), by decide⟩,
    ⟨(who 0), 0x1101, 0, (place 0x1101), act, free_of (by decide), by decide⟩,
    ⟨(who 1), 3, 11, (on runs), free_of (by decide), by decide⟩,
    ⟨(who 1), 3, 1, act, free_of (by decide), by decide⟩⟩

theorem witness_StagedValuesCommit :
    (∃ (who : Who) (device : Bool) (pods : BitVec 64) (s : State), EngineFree s ∧ who.level.val < scopeLevel device pods s) ∧
    (∃ (who : Who) (s : State), EngineFree s ∧ scopeLevel true 0 s ≤ who.level.val) ∧
    (∃ (s : State), s.dict.staged ≠ []) ∧
    (∃ (who : Who) (p : Fin 64) (pods : BitVec 64) (s : State), EngineFree s ∧ (∀ q, pods.getLsbD q = decide (q = p.val)) ∧ scopeLevel false pods s ≤
      who.level.val ∧ runsFrames (podAt s p.val) = false ∧ (podAt s p.val).mode ≠ .fault ∧ laneSilent s p.val = false ∧ (podAt s
      p.val).hot = [] ∧ ((podAt s p.val).staged.all (fun e => !sealedLoc e.1) = true)) ∧
    (∃ (c : CommitRun) (s : State), serving s = true ∧ s.engine.commit = some c ∧ (c.waiting = 0 ∨ c.since + 3277 ≤ s.time.elapsed)) ∧
    (∃ (s : State), s.engine.commit = none) :=
  ⟨⟨(who 1), true, 0, { act with dict := { act.dict with staged := [(keyOf 0x1104 0, 3)] } }, free_of (by decide), by decide⟩,
    ⟨(who 2), { act with dict := { act.dict with staged := [(keyOf 0x1104 0, 3)] } }, free_of (by decide), by decide⟩,
    ⟨{ act with dict := { act.dict with staged := [(keyOf 0x1104 0, 3)] } }, by decide⟩,
    ⟨(who 2), 3, 8, (on fun d => { d with staged := [(keyOf 0x20 1, 0x0114)], stagedGen := 1 }), free_of (by decide), bits_three, by decide⟩,
    ⟨⟨8, 0, 0, 0⟩, (wEngine (fun x => { x with commit := some ⟨8, 0, 0, 0⟩, waiting := some .commit, running := some (rowFrame (who 2) []) }) act), by decide⟩,
    ⟨act, by decide⟩⟩

theorem witness_SessionsAndResets :
    (∃ (who : Who) (s : State), EngineFree s ∧ 2 ≤ who.level.val) ∧
    (∃ (who : Who) (s : State), EngineFree s ∧ who.level.val < 2) ∧
    (∃ (who : Who) (pod : Nat) (s : State), EngineFree s ∧ 2 ≤ who.level.val ∧ pod < 64) ∧
    (∃ (who : Who) (pod : Nat) (s : State), EngineFree s ∧ 2 ≤ who.level.val ∧ 63 < pod) ∧
    (∃ (q : Fin 4) (level : Nat) (s : State), EngineFree s ∧ (slotOf s q.val).used = true ∧ openBusy s = false ∧ 1 ≤ level ∧ level ≤ 3) ∧
    (∃ (q : Fin 4) (s : State), EngineFree s ∧ (slotOf s q.val).used = true ∧ openBusy s = true) ∧
    (∃ (q : Fin 4) (number : Nat) (proof : Nat) (o : PendingOpen) (s : State), EngineFree s ∧ (slotOf s q.val).used = true ∧ provenOpen q number proof
      s = some o) ∧
    (∃ (q : Fin 4) (number : Nat) (proof : Nat) (s : State), EngineFree s ∧ (slotOf s q.val).used = true ∧ provenOpen q number proof s = none) ∧
    (∃ (q : Fin 4) (o : PendingOpen) (s : State), (slotOf s q.val).opening = some o ∧ o.at_ + 65536000 ≤ s.time.elapsed) ∧
    (∃ (q : Fin 4) (x : Session) (s : State), (slotOf s q.val).session = some x ∧ x.lastAt + devVal s 0x1202 0 * 65536000 ≤ s.time.elapsed) :=
  ⟨⟨(who 2), act, free_of (by decide), by decide⟩,
    ⟨(who 1), act, free_of (by decide), by decide⟩,
    ⟨(who 2), 63, act, free_of (by decide), by decide⟩,
    ⟨(who 2), 64, act, free_of (by decide), by decide⟩,
    ⟨0, 3, act, free_of (by decide), by decide⟩,
    ⟨0, (wEngine (fun x => { x with badProof := some (10 ^ 12) }) act), free_of (by decide), by decide⟩,
    ⟨0, 7, _, ⟨2, 7, 9, 10 ^ 12⟩, (wEngine (fun x => { x with slots := putAt x.slots 0 ⟨true, 5, 1, 0, 1, [], none, some ⟨2, 7, 9, 10 ^ 12⟩⟩ }) act), free_of (by decide), by decide, provenOpen_own (o := ⟨2, 7, 9, 10 ^ 12⟩) rfl (by decide)⟩,
    ⟨0, 0, 0, act, free_of (by decide), by decide⟩,
    ⟨0, ⟨2, 7, 9, 0⟩, (wEngine (fun x => { x with slots := putAt x.slots 0 ⟨true, 5, 1, 0, 1, [], some ⟨2, 7, 9, 0, true⟩, some ⟨2, 7, 9, 0⟩⟩ }) act), by decide⟩,
    ⟨0, ⟨2, 7, 9, 0, true⟩, (wEngine (fun x => { x with slots := putAt x.slots 0 ⟨true, 5, 1, 0, 1, [], some ⟨2, 7, 9, 0, true⟩, some ⟨2, 7, 9, 0⟩⟩ }) act), by decide⟩⟩

theorem witness_EventsAndStreams :
    (∃ (lvl : Fin 4) (q : Fin 4) (b : SubBody) (s : State), EngineFree s ∧ 1 ≤ lvl.val ∧ badBody b = false ∧ ((subAt s b.number).active = false ∨
      (subAt s b.number).owner = q.val ∨ 2 ≤ lvl.val) ∧ b.kind = 0) ∧
    (∃ (lvl : Fin 4) (q : Fin 4) (b : SubBody) (s : State), EngineFree s ∧ 1 ≤ lvl.val ∧ badBody b = false ∧ ((subAt s b.number).active = false ∨
      (subAt s b.number).owner = q.val ∨ 2 ≤ lvl.val) ∧ b.kind = 1 ∧ (s.engine.subs.toList.all (fun y => !(y.active && y.owner == q.val && y.body.kind
      == 1 && y.body.number != b.number)) = true)) ∧
    (∃ (lvl : Fin 4) (b : SubBody) (s : State), EngineFree s ∧ 1 ≤ lvl.val ∧ badBody b = true) ∧
    (∃ (s : State), serving s = true ∧ s.engine.events ≠ [] ∧ s.engine.outstanding.length < 4) ∧
    (∃ (s : State), (serving s = false ∨ s.engine.events = [] ∨ 4 ≤ s.engine.outstanding.length)) ∧
    (∃ (seq : Nat) (s : State), serving s = true ∧ (s.engine.outstanding.all (fun f => f.seq != seq) = true)) ∧
    (∃ (seq : Nat) (s : State) (f : EvFrame), serving s = true ∧ (s.engine.outstanding.find? (fun f => f.seq == seq) = some f) ∧ f.anyAck = true) ∧
    (∃ (q : Fin 4) (seq : Nat) (f : EvFrame) (s : State), serving s = true ∧ (s.engine.outstanding.find? (fun f => f.seq == seq) = some f) ∧ f.anyAck
      = false ∧ q.val ∉ f.awaiting) ∧
    (∃ (q : Fin 4) (seq : Nat) (f : EvFrame) (s : State), serving s = true ∧ (s.engine.outstanding.find? (fun f => f.seq == seq) = some f) ∧ f.anyAck
      = false ∧ q.val ∈ f.awaiting ∧ f.awaiting.erase q.val ≠ []) ∧
    (∃ (q : Fin 4) (seq : Nat) (f : EvFrame) (s : State), serving s = true ∧ (s.engine.outstanding.find? (fun f => f.seq == seq) = some f) ∧ f.anyAck
      = false ∧ q.val ∈ f.awaiting ∧ f.awaiting.erase q.val = []) ∧
    (∃ (seq : Nat) (f : EvFrame) (s : State), serving s = true ∧ (s.engine.outstanding.find? (fun f => f.seq == seq) = some f) ∧ f.queued = false ∧
      f.sentAt + 131072 ≤ s.time.elapsed ∧ f.retries < 3) ∧
    (∃ (seq : Nat) (f : EvFrame) (s : State), serving s = true ∧ (s.engine.outstanding.find? (fun f => f.seq == seq) = some f) ∧ f.queued = false ∧
      f.sentAt + 131072 ≤ s.time.elapsed ∧ 3 ≤ f.retries) ∧
    (∃ (k : Fin 8) (s : State), EngineFree s ∧ gateOn s 5 = true ∧ (subAt s k.val).active = true ∧ (subAt s k.val).body.kind = 2 ∧ s.time.stamp %
      ((subAt s k.val).body.period * 655360) = 0 ∧ (∀ a ∈ (subAt s k.val).body.addrs, ∀ x, findPlace a.1 = some x → x.pod = none ∨
      x.obj.index ≠ 0x47)) ∧
    (∃ (k : Fin 8) (s : State), s.time.stamp % ((subAt s k.val).body.period * 655360) ≠ 0) :=
  ⟨⟨1, 0, ⟨7, 0, 3, 0, 1, 0, [(0x1000, 0)]⟩, act, free_of (by decide), by decide⟩,
    ⟨1, 0, ⟨7, 1, 3, 0, 1, 0, [(0x1000, 0)]⟩, act, free_of (by decide), by decide⟩,
    ⟨1, ⟨7, 4, 3, 0, 1, 0, [(0x1000, 0)]⟩, act, free_of (by decide), by decide⟩,
    ⟨(wEngine (fun x => { x with events := [⟨1, 255, []⟩] }) act), by decide⟩,
    ⟨act, by decide⟩,
    ⟨9, act, by decide⟩,
    ⟨9, (wEngine (fun x => { x with outstanding := [⟨9, [⟨1, 255, []⟩], [], true, 0, false, 0⟩] }) act), ⟨9, [⟨1, 255, []⟩], [], true, 0, false, 0⟩, by decide⟩,
    ⟨0, 9, ⟨9, [⟨1, 255, []⟩], [1], false, 0, false, 0⟩, (wEngine (fun x => { x with outstanding := [⟨9, [⟨1, 255, []⟩], [1], false, 0, false, 0⟩] }) act), by decide⟩,
    ⟨0, 9, ⟨9, [⟨1, 255, []⟩], [0, 1], false, 0, false, 0⟩, (wEngine (fun x => { x with outstanding := [⟨9, [⟨1, 255, []⟩], [0, 1], false, 0, false, 0⟩] }) act), by decide⟩,
    ⟨0, 9, ⟨9, [⟨1, 255, []⟩], [0], false, 0, false, 0⟩, (wEngine (fun x => { x with outstanding := [⟨9, [⟨1, 255, []⟩], [0], false, 0, false, 0⟩] }) act), by decide⟩,
    ⟨9, ⟨9, [⟨1, 255, []⟩], [], true, 2, false, 0⟩, (wEngine (fun x => { x with outstanding := [⟨9, [⟨1, 255, []⟩], [], true, 2, false, 0⟩] }) act), by decide⟩,
    ⟨9, ⟨9, [⟨1, 255, []⟩], [], true, 3, false, 0⟩, (wEngine (fun x => { x with outstanding := [⟨9, [⟨1, 255, []⟩], [], true, 3, false, 0⟩] }) act), by decide⟩,
    ⟨7, (wTime (fun x => { x with stamp := 655360 }) (wEngine (fun x => { x with subs := putAt x.subs 7 ⟨true, 0, ⟨7, 2, 0, 0, 1, 0, [(0x1000, 0)]⟩, 1, 0, 0, 0, 4, false⟩ }) act)), free_of (by decide), by decide, by decide, by decide, by decide,
      fun a h x e => .inl (by rw [show a = (0x1000, 0) from List.mem_singleton.1 h] at e; have := (Option.some.inj e); subst this; decide)⟩,
    ⟨7, (wTime (fun x => { x with stamp := 655361 }) (wEngine (fun x => { x with subs := putAt x.subs 7 ⟨true, 0, ⟨7, 2, 0, 0, 1, 0, [(0x1000, 0)]⟩, 1, 0, 0, 0, 4, false⟩ }) act)), by decide⟩⟩

theorem witness_TimeFramesSetStamp :
    (∃ (s : State), serving s = true) ∧
    (∃ (node : Nat) (s : State), (devVal s 0x2503 0 = 0xFFFF ∨ node ≠ devVal s 0x2503 0)) ∧
    (∃ (node : Nat) (epoch : Nat) (s : State), devVal s 0x2503 0 ≠ 0xFFFF ∧ node = devVal s 0x2503 0 ∧ (epoch ≠ devVal s 0x2500 0 ∨ contained s 5 =
      true)) ∧
    (∃ (offset : Int) (s : State), (s.time.stepped = false ∨ devVal s 0x2504 0 ≤ offset.natAbs)) ∧
    (∃ (offset : Int) (s : State), s.time.stepped = true ∧ offset.natAbs < devVal s 0x2504 0) :=
  ⟨⟨act, by decide⟩,
    ⟨5, act, by decide⟩,
    ⟨5, 9, (setDev 0x2503 0 5 act), by decide⟩,
    ⟨-5, act, by decide⟩,
    ⟨-5, (wTime (fun x => { x with stepped := true }) act), by decide⟩⟩

theorem witness_FramesAreReceivedAndSent :
    (∃ (s : State), phyOn s.link.code = false) ∧
    (∃ (f : RxFrame) (k : Nat) (s : State), phyOn s.link.code = true ∧ receiveFault f (noteBrc f (latchSfd s).2) = some k) ∧
    (∃ (f : RxFrame) (s : State), phyOn s.link.code = true ∧ receiveFault f (noteBrc f (latchSfd s).2) = none) ∧
    (∃ (f : RxFrame), f.symbolError = true) ∧
    (∃ (f : RxFrame), f.symbolError = false ∧ f.length < 64) ∧
    (∃ (f : RxFrame), f.symbolError = false ∧ 1518 < f.length) ∧
    (∃ (f : RxFrame), f.symbolError = false ∧ 64 ≤ f.length ∧ f.length ≤ 1518 ∧ f.fcsGood = false) ∧
    (∃ (f : TxFrame) (rest : List TxFrame) (s : State), EngineFree s ∧ (s.link.code = .follower ∨ s.link.code = .coordinator) ∧ s.link.maxBurst = 0
      ∧ s.link.queue = f :: rest) ∧
    (∃ (s : State), EngineFree s ∧ (s.link.code = .follower ∨ s.link.code = .coordinator) ∧ s.link.queue = []) ∧
    (∃ (s : State), s.link.code = .listenOnly ∧ (∀ f ∈ s.link.queue, f.cls ≠ 3)) ∧
    (∃ (f : TxFrame) (rest : List TxFrame) (s : State), EngineFree s ∧ (s.link.code = .csma ∨ s.link.code = .fallback) ∧ s.link.queue = f :: rest) ∧
    (∃ (s : State), (s.link.code = .csma ∨ s.link.code = .fallback) ∧ s.link.queue ≠ [] ∧ s.link.attempts < 15) ∧
    (∃ (f : TxFrame) (rest : List TxFrame) (s : State), (s.link.code = .csma ∨ s.link.code = .fallback) ∧ s.link.queue = f :: rest ∧ s.link.attempts =
      15 ∧ f.cls ≠ 3) :=
  ⟨⟨(inLink .off act), by decide⟩,
    ⟨⟨[], false, 63, true, some 1, true⟩, 6, act, by decide⟩,
    frame_passes,
    ⟨⟨[], true, 64, true, none, true⟩, by decide⟩,
    ⟨⟨[], false, 63, true, some 1, true⟩, by decide⟩,
    ⟨⟨[], false, 1519, true, some 1, true⟩, by decide⟩,
    ⟨⟨[], false, 64, false, some 1, true⟩, by decide⟩,
    ⟨⟨5, [1], 0, 0⟩, [], (wLink (fun x => { x with queue := [⟨5, [1], 0, 0⟩], maxBurst := 0 }) act), free_of (by decide), by decide⟩,
    ⟨act, free_of (by decide), by decide⟩,
    ⟨(wLink (fun x => { x with queue := [⟨5, [1], 0, 0⟩] }) (inLink .listenOnly act)), by decide⟩,
    ⟨⟨5, [1], 0, 0⟩, [], (wLink (fun x => { x with queue := [⟨5, [1], 0, 0⟩] }) (inLink .csma act)), free_of (by decide), by decide⟩,
    ⟨(wLink (fun x => { x with queue := [⟨5, [1], 0, 0⟩], attempts := 14 }) (inLink .csma act)), by decide⟩,
    ⟨⟨5, [1], 0, 0⟩, [], (wLink (fun x => { x with queue := [⟨5, [1], 0, 0⟩], attempts := 15 }) (inLink .fallback act)), by decide⟩⟩

theorem witness_PlcaStatesMoveAndStrangersCount :
    (∃ (s : State), s.link.code = .joining ∧ effectiveNode s ≠ 0) ∧
    (∃ (s : State), s.link.code = .fallback) ∧
    (∃ (s : State), s.link.code = .joining ∧ effectiveNode s = 0) ∧
    (∃ (s : State), s.link.code = .follower) ∧
    (∃ (s : State), s.link.code = .follower ∧ max s.link.enteredAt s.link.beaconElapsed + 131072 ≤ s.time.elapsed) ∧
    (∃ (s : State), s.link.code = .joining ∧ effectiveNode s ≠ 0 ∧ s.link.enteredAt + 131072 ≤ s.time.elapsed) ∧
    (∃ (s : State), s.link.code = .follower ∧ s.time.elapsed < s.link.enteredAt + 131072) ∧
    (∃ (s : State), s.link.code = .joining ∧ effectiveNode s = 0 ∧ s.link.enteredAt + 65536 ≤ s.time.elapsed) ∧
    (∃ (s : State), s.link.code = .coordinator) ∧
    (∃ (s : State), s.link.code ≠ .coordinator) ∧
    (∃ (s : State), s.link.code = .silent ∧ s.link.silentFor * 65536000 ≤ (s.time.elapsed - s.link.enteredAt) * 10000) ∧
    (∃ (s : State), s.link.code = .silent ∧ (s.time.elapsed - s.link.enteredAt) * 10000 < s.link.silentFor * 65536000) ∧
    (∃ (s : State), (s.link.code = .follower ∨ s.link.code = .coordinator)) ∧
    (∃ (s : State), plcaActive s.link.code = false) ∧
    (∃ (s : State), linkOpens s.link.code = true) ∧
    (∃ (s : State), linkOpens s.link.code = false) ∧
    (∃ (s : State), phyOn s.link.code = true) ∧
    (∃ (n : Nat) (s : State), phyOn s.link.code = true ∧ devVal s 0x110B 0 < n) ∧
    (∃ (n : Nat) (s : State), phyOn s.link.code = true ∧ n ≤ devVal s 0x110B 0) ∧
    (∃ (k : Nat) (j : Nat), k < 18 ∧ j ≠ k) :=
  ⟨⟨(wChip (fun x => { x with straps := ⟨5, false, false, 200⟩ }) (inLink .joining act)), by decide⟩,
    ⟨(inLink .fallback act), by decide⟩,
    ⟨(inLink .joining act), by decide⟩,
    ⟨act, by decide⟩,
    ⟨act, by decide⟩,
    ⟨(wChip (fun x => { x with straps := ⟨5, false, false, 200⟩ }) (inLink .joining act)), by decide⟩,
    ⟨(wTime (fun x => { x with elapsed := 131071 }) act), by decide⟩,
    ⟨(inLink .joining act), by decide⟩,
    ⟨(inLink .coordinator act), by decide⟩,
    ⟨act, by decide⟩,
    ⟨(wLink (fun x => { x with silentFor := 10 }) (inLink .silent act)), by decide⟩,
    ⟨(wLink (fun x => { x with silentFor := 80, enteredAt := 10 ^ 12 }) (inLink .silent act)), by decide⟩,
    ⟨(wLink (fun x => { x with intrusions := [10 ^ 12, 10 ^ 12] }) act), by decide⟩,
    ⟨(inLink .csma act), by decide⟩,
    ⟨act, by decide⟩,
    ⟨(inLink .silent act), by decide⟩,
    ⟨act, by decide⟩,
    ⟨100000, act, by decide⟩,
    ⟨0, act, by decide⟩,
    ⟨17, 0, by decide⟩⟩

theorem witness_RepliesKeepTheirOrder :
    (∃ (room : Nat), 2 ≤ room) ∧
    (∃ (q : List TxFrame), (q.Pairwise (fun a b => a.cls ≤ b.cls))) :=
  ⟨⟨8, by decide⟩,
    ⟨[⟨2, [1], 0, 0⟩, ⟨5, [1], 0, 0⟩], by decide⟩⟩

theorem witness_TraceIsEmitted :
    (∃ (r : TraceRec) (rest : List TraceRec) (s : State), s.obs.queue = r :: rest ∧ portRuns s = true ∧ s.obs.dropped = 0 ∧ s.obs.syncDue = false) ∧
    (∃ (r : TraceRec) (rest : List TraceRec) (s : State), s.obs.queue = r :: rest ∧ portRuns s = true) ∧
    (∃ (r : TraceRec) (rest : List TraceRec) (s : State), s.obs.queue = r :: rest ∧ portRuns s = true ∧ 0 < s.obs.dropped) ∧
    (∃ (s : State), (s.obs.queue = [] ∨ portRuns s = false)) ∧
    (∃ (s : State), portRuns s = true ∧ (s.obs.syncDue = true ∨ s.obs.lastSync + 65536000 ≤ s.time.stamp)) ∧
    (∃ (kind : Nat) (s : State), traceOn s = true ∧ bit (devVal s 0x8100 0) kind = true ∧ (s.obs.queue.length < 56 ∨ (kind = 1 ∧ s.obs.queue.length <
      64))) ∧
    (∃ (kind : Nat) (s : State), traceOn s = true ∧ bit (devVal s 0x8100 0) kind = true ∧ (64 ≤ s.obs.queue.length ∨ (56 ≤ s.obs.queue.length ∧ kind ≠
      1))) :=
  ⟨⟨⟨2, 5, [1, 2]⟩, [], (wObs (fun x => { x with queue := [⟨2, 5, [1, 2]⟩], syncDue := false }) (setDev 0x2602 0 127 act)), by decide⟩,
    ⟨⟨2, 5, [1, 2]⟩, [], (wObs (fun x => { x with queue := [⟨2, 5, [1, 2]⟩] }) (setDev 0x2602 0 127 act)), by decide⟩,
    ⟨⟨2, 5, [1, 2]⟩, [], (wObs (fun x => { x with queue := [⟨2, 5, [1, 2]⟩], dropped := 3 }) (setDev 0x2602 0 127 act)), by decide⟩,
    ⟨(setDev 0x2602 0 127 act), by decide⟩,
    ⟨(setDev 0x2602 0 127 act), by decide⟩,
    ⟨1, (wObs (fun x => { x with queue := List.replicate 63 ⟨2, 5, [1, 2]⟩ }) (setDev 0x8100 0 510 (setDev 0x2602 0 127 act))), by decide⟩,
    ⟨2, (wObs (fun x => { x with queue := List.replicate 56 ⟨2, 5, [1, 2]⟩ }) (setDev 0x8100 0 510 (setDev 0x2602 0 127 act))), by decide⟩⟩

end Sys2Proof.Tests
end

section
/-! SUPPORT. What the shared operations leave as it is: each `_only` lemma says once which parts of the state an operation can write, and
the lemmas on single fields follow from it. -/

namespace Sys2Proof.Laws

open Sys2Proof.Machine

/-! ### Records and logs -/

theorem traceAdd_only (kind stamp : Nat) (payload : List Nat) (s : State) :
    traceAdd kind stamp payload s = { s with obs := (traceAdd kind stamp payload s).obs } := by
  unfold traceAdd
  dsimp only
  split_ifs <;> rfl

theorem traceClock_only (obj pod before after cause : Nat) (s : State) :
    traceClock obj pod before after cause s = { s with obs := (traceClock obj pod before after cause s).obs } := by
  unfold traceClock
  split_ifs
  · rfl
  · exact traceAdd_only ..

theorem logAdd_only (kind inst detail : Nat) (payload : List Nat) (s : State) :
    logAdd kind inst detail payload s =
      { s with shell := (logAdd kind inst detail payload s).shell, obs := (logAdd kind inst detail payload s).obs } := by
  unfold logAdd
  dsimp only
  split_ifs <;> rfl

theorem evAdd_only (r : EvRec) (s : State) : evAdd r s = { s with engine := (evAdd r s).engine } := by
  unfold evAdd
  dsimp only
  split_ifs <;> rfl

theorem cacheAfter_only (p : Nat) (s : State) : cacheAfter p s = { s with panel := (cacheAfter p s).panel } := by
  unfold cacheAfter
  split_ifs <;> rfl

theorem displayWatch_only (s : State) :
    displayWatch s = { s with panel := (displayWatch s).panel, power := (displayWatch s).power } := by
  unfold displayWatch
  dsimp only
  split_ifs <;> rfl

theorem setLink_only (c : LinkCode) (s : State) : setLink c s = { s with link := (setLink c s).link } := by
  unfold setLink
  dsimp only
  split_ifs <;> rfl

theorem setOsc_only (k : Nat) (o : Osc) (cause : Nat) (s : State) :
    setOsc k o cause s =
      { s with clocks := { s.clocks with oscs := putAt s.clocks.oscs k o }, obs := (setOsc k o cause s).obs } := by
  unfold setOsc
  exact traceClock_only ..

@[simp] theorem traceAdd_chip (kind stamp : Nat) (payload : List Nat) (s : State) : (traceAdd kind stamp payload s).chip = s.chip := by
  rw [traceAdd_only]

@[simp] theorem logAdd_chip (kind inst detail : Nat) (payload : List Nat) (s : State) :
    (logAdd kind inst detail payload s).chip = s.chip := by
  rw [logAdd_only]

@[simp] theorem evAdd_chip (r : EvRec) (s : State) : (evAdd r s).chip = s.chip := by
  rw [evAdd_only]

@[simp] theorem histAdd_chip (c : FaultClass) (p source action flags detail before : Nat) (logged notified : Bool) (s : State) :
    (histAdd c p source action flags detail before logged notified s).chip = s.chip := by
  unfold histAdd
  dsimp only
  split_ifs <;> simp

/-! ### One Pod alone -/

theorem podAt_of_pods {s t : State} (h : t.pods = s.pods) (r : Nat) : podAt t r = podAt s r := by
  simp only [podAt, h]

@[simp] theorem podAt_traceAdd (kind stamp : Nat) (payload : List Nat) (s : State) (r : Nat) :
    podAt (traceAdd kind stamp payload s) r = podAt s r := podAt_of_pods (by rw [traceAdd_only]) r

@[simp] theorem podAt_traceClock (obj pod before after cause : Nat) (s : State) (r : Nat) :
    podAt (traceClock obj pod before after cause s) r = podAt s r := podAt_of_pods (by rw [traceClock_only]) r

@[simp] theorem podAt_trigger (code pod : Nat) (s : State) (r : Nat) : podAt (trigger code pod s) r = podAt s r := rfl

@[simp] theorem podAt_logAdd (kind inst detail : Nat) (payload : List Nat) (s : State) (r : Nat) :
    podAt (logAdd kind inst detail payload s) r = podAt s r := podAt_of_pods (by rw [logAdd_only]) r

@[simp] theorem podAt_cacheAfter (p : Nat) (s : State) (r : Nat) : podAt (cacheAfter p s) r = podAt s r :=
  podAt_of_pods (by rw [cacheAfter_only]) r

/-- Records and counts aside, a change of Pod p alone: the hub's own state and every other Pod are as they were. -/
structure PodStep (p : Nat) (s t : State) : Prop where
  chip : t.chip = s.chip
  clocks : t.clocks = s.clocks
  time : t.time = s.time
  dict : t.dict = s.dict
  engine : t.engine = s.engine
  fresh : t.fresh = s.fresh
  others : ∀ r, r ≠ p → podAt t r = podAt s r

theorem PodStep.refl (p : Nat) (s : State) : PodStep p s s := ⟨rfl, rfl, rfl, rfl, rfl, rfl, fun _ _ => rfl⟩

theorem PodStep.trans {p : Nat} {s t u : State} (a : PodStep p s t) (b : PodStep p t u) : PodStep p s u :=
  ⟨b.chip.trans a.chip, b.clocks.trans a.clocks, b.time.trans a.time, b.dict.trans a.dict, b.engine.trans a.engine,
    b.fresh.trans a.fresh, fun r hr => (b.others r hr).trans (a.others r hr)⟩

theorem PodStep.ite {p : Nat} {c : Prop} [Decidable c] {s a b : State} (ha : PodStep p s a) (hb : PodStep p s b) :
    PodStep p s (if c then a else b) := by
  split <;> assumption

theorem modPod_step (p : Nat) (f : Pod → Pod) (s : State) : PodStep p s (modPod p f s) :=
  ⟨rfl, rfl, rfl, rfl, rfl, rfl, fun _ hr => podAt_modPod_ne hr f s⟩

theorem putShell_step (p : Nat) (sh : Shell) (s : State) : PodStep p s { s with shell := sh } :=
  ⟨rfl, rfl, rfl, rfl, rfl, rfl, fun _ _ => rfl⟩

theorem trigger_step (p code pod : Nat) (s : State) : PodStep p s (trigger code pod s) := ⟨rfl, rfl, rfl, rfl, rfl, rfl, fun _ _ => rfl⟩

theorem traceAdd_step (p kind stamp : Nat) (payload : List Nat) (s : State) : PodStep p s (traceAdd kind stamp payload s) := by
  rw [traceAdd_only]
  exact ⟨rfl, rfl, rfl, rfl, rfl, rfl, fun _ _ => rfl⟩

theorem traceClock_step (p obj pod before after cause : Nat) (s : State) : PodStep p s (traceClock obj pod before after cause s) := by
  rw [traceClock_only]
  exact ⟨rfl, rfl, rfl, rfl, rfl, rfl, fun _ _ => rfl⟩

theorem logAdd_step (p kind inst detail : Nat) (payload : List Nat) (s : State) : PodStep p s (logAdd kind inst detail payload s) := by
  rw [logAdd_only]
  exact ⟨rfl, rfl, rfl, rfl, rfl, rfl, fun _ _ => rfl⟩

theorem cacheAfter_step (p q : Nat) (s : State) : PodStep p s (cacheAfter q s) := by
  rw [cacheAfter_only]
  exact ⟨rfl, rfl, rfl, rfl, rfl, rfl, fun _ _ => rfl⟩

/-! ### A change of the state of a Pod -/

/-- What `setMode` makes of the Pod itself. -/
def moded (m : PodMode) (cause : Nat) (stamp : Tick) (d : Pod) : Pod :=
  if d.mode = m then d
  else
    { d with
      mode := m, prevMode := d.mode.code, changeStamp := stamp, changeCause := cause, changes := wrap32 (d.changes + 1),
      meter := if d.mode == .waking then { d.meter with coarseUntil := d.marker } else d.meter,
      mux := if sampling m then d.mux else .off, rcCount := if sampling m then d.rcCount else 0,
      rcByCommand := if sampling m then d.rcByCommand else false }

theorem podAt_setMode {p : Nat} (hp : p < 64) (m : PodMode) (cause : Nat) (s : State) :
    podAt (setMode p m cause s) p = moded m cause s.time.stamp (podAt s p) := by
  unfold setMode moded
  by_cases h : (podAt s p).mode = m
  · rw [if_pos h, if_pos h]
  · rw [if_neg h, if_neg h]
    generalize (!sampling m && sampling (podAt s p).mode) = off
    cases off
    · exact (podAt_traceAdd ..).trans (podAt_modPod hp ..)
    · exact (podAt_traceClock ..).trans ((podAt_traceAdd ..).trans (podAt_modPod hp ..))

theorem setMode_step (p : Nat) (m : PodMode) (cause : Nat) (s : State) : PodStep p s (setMode p m cause s) := by
  unfold setMode
  by_cases h : (podAt s p).mode = m
  · rw [if_pos h]
    exact .refl p s
  · rw [if_neg h]
    generalize (!sampling m && sampling (podAt s p).mode) = off
    cases off
    · exact (modPod_step ..).trans (traceAdd_step ..)
    · exact (modPod_step ..).trans ((traceAdd_step ..).trans ((traceClock_step ..).trans (trigger_step ..)))

theorem moded_only (m : PodMode) (cause : Nat) (stamp : Tick) (d : Pod) :
    ∃ before changed why count r clock cycles asked, moded m cause stamp d =
      { d with
        mode := m, prevMode := before, changeStamp := changed, changeCause := why, changes := count, meter := r, mux := clock,
        rcCount := cycles, rcByCommand := asked } := by
  unfold moded
  split
  · exact ⟨_, _, _, _, _, _, _, _, by rw [← ‹d.mode = m›]⟩
  · exact ⟨_, _, _, _, _, _, _, _, rfl⟩

@[simp] theorem moded_mode (m : PodMode) (cause : Nat) (stamp : Tick) (d : Pod) : (moded m cause stamp d).mode = m := by
  obtain ⟨_, _, _, _, _, _, _, _, e⟩ := moded_only m cause stamp d
  rw [e]

@[simp] theorem moded_wake (m : PodMode) (cause : Nat) (stamp : Tick) (d : Pod) : (moded m cause stamp d).wake = d.wake := by
  obtain ⟨_, _, _, _, _, _, _, _, e⟩ := moded_only m cause stamp d
  rw [e]

/-! ### Energy gaps -/

/-- Nothing of Pod p but its meter differs. -/
def MeterStep (p : Nat) (s t : State) : Prop := ∃ m, podAt t p = { podAt s p with meter := m }

theorem MeterStep.ite {p : Nat} {c : Prop} [Decidable c] {s a b : State} (ha : MeterStep p s a) (hb : MeterStep p s b) :
    MeterStep p s (if c then a else b) := by
  split <;> assumption

theorem MeterStep.of_podAt {p : Nat} {s t : State} (h : podAt t p = podAt s p) : MeterStep p s t := ⟨_, h⟩

theorem closeGap_step (p cause : Nat) (start stop : Tick) (bound : Option Nat) (dormant add : Bool) (s : State) :
    PodStep p s (closeGap p cause start stop bound dormant add s) := by
  unfold closeGap
  refine (PodStep.trans ?_ (logAdd_step ..)).trans (putShell_step ..)
  exact .ite (modPod_step ..) (.refl ..)

theorem closeGap_meterStep {p : Nat} (hp : p < 64) (cause : Nat) (start stop : Tick) (bound : Option Nat) (dormant add : Bool) (s : State) :
    MeterStep p s (closeGap p cause start stop bound dormant add s) := by
  unfold closeGap
  show MeterStep p s (logAdd _ _ _ _ _)
  rw [MeterStep, podAt_logAdd]
  exact MeterStep.ite ⟨_, podAt_modPod hp ..⟩ (.of_podAt rfl)

end Sys2Proof.Laws
end

section
namespace Sys2Proof.Laws
open Sys2Proof.Machine

/-! ### The restart of a Pod (R37, R198) -/

theorem openGap_step (p cause : Nat) (s : State) : PodStep p s (openGap p cause s) := by
  unfold openGap
  exact .ite (.refl ..) (.ite (closeGap_step ..) (.ite (.ite (closeGap_step ..) ((putShell_step ..).trans (logAdd_step ..)))
    (.ite (closeGap_step ..) (closeGap_step ..))))

theorem openGap_meterStep {p : Nat} (hp : p < 64) (cause : Nat) (s : State) : MeterStep p s (openGap p cause s) := by
  unfold openGap
  exact .ite (.of_podAt rfl) (.ite (closeGap_meterStep hp ..) (.ite (.ite (closeGap_meterStep hp ..) (.of_podAt (podAt_logAdd ..)))
    (.ite (closeGap_meterStep hp ..) (closeGap_meterStep hp ..))))

/-- A transfer changes the meter and the doze record alone. -/
theorem transferPod_only (now : Tick) (d : Pod) : ∃ m z, transferPod now d = { d with meter := m, doze := z } := by
  unfold transferPod
  split
  · exact ⟨_, _, rfl⟩
  · exact ⟨_, _, rfl⟩

/-- The emitter of a Pod that restarts, and the end of its test mode. -/
theorem pulseRestart_only (record : Option (Nat × Nat × Tick)) (stamp : Tick) (d : Pod) :
    ∃ q, pulseRestart record stamp d = { d with values := storePut podDefault d.values (keyOf 0xC4 0) 0, pulse := q } := by
  cases record <;> exact ⟨_, rfl⟩

/-- The state to which a Pod restarts at B7. -/
def restartMode (p : Nat) (s : State) : PodMode :=
  if (podAt s p).mode = .fault then .fault
  else match s.shell.recalledModes.getD p .stopped with
    | .stopped | .fault => .stopped
    | .doze => .doze
    | _ => .waking

/-- What the record of its restart leaves in a Pod. -/
structure RestartRecorded (p : Nat) (s : State) (d : Pod) : Prop where
  sealed : d.sealRec = (podAt s p).sealRec
  state : d.restartState = (restartMode p s).code
  stored : d.restartStored = if s.shell.recallRec.slot = 0xFF then 0xFF else (s.shell.recalledModes.getD p .stopped).code
  source : d.restartSource = (s.shell.sources.getD p (0, 0, 0)).1
  values : d.values = storePut podDefault (podAt s p).values (keyOf 0xC4 0) 0

/-- The restart is recorded, and the Pod has not taken its new state yet. -/
structure RestartBegun (p : Nat) (s : State) (d : Pod) : Prop extends RestartRecorded p s d where
  mode : d.mode = (podAt s p).mode
  wake : d.wake = (podAt s p).wake

/-- The Pod takes its state; `s` is the state before the restart. -/
def restartEntered (p : Nat) (s : State) (m : PodMode) (u : State) : State :=
  match m with
  | .waking => setMode p .waking 0x0C (modPod p (fun d => { d with wake := some 8, mux := .primary, rcCount := podRcCount }) u)
  | .doze =>
    let t := setMode p .doze 0x0C u
    if s.chip.podsOff then
      modPod p (fun d => { d with doze := { d.doze with
        sentinel := .arming, restart := true, entry := 3, armingFrom := none, tripHeld := false, flags := 0 } }) t
    else if (podAt s p).doze.sentinel = .tripped ∨ (podAt s p).doze.sentinel = .pending then
      trigger 1 p (modPod p (fun d => { d with wake := some 1 }) t)
    else t
  | .fault => u
  | .stopped | .run | .lean => modPod p (fun d => { d with doze := { d.doze with sentinel := .off } }) u

/-- A restart is recorded, and then the Pod takes its state; a seal that stands closed stays so. -/
theorem restartPod_recorded {p : Nat} (hp : p < 64) (s : State) :
    ∃ u, PodStep p s u ∧ RestartBegun p s (podAt u p) ∧
      ((podAt (restartEntered p s (restartMode p s) u) p).sealRec.code = .closed →
        restartPod p s = restartEntered p s (restartMode p s) u) := by
  unfold restartPod
  lift_lets
  intro d stored defaults
  generalize hsrc : s.shell.sources.getD p (0, 0, 0) = src
  obtain ⟨kind, seq, stamp⟩ := src
  simp -zeta only []
  lift_lets
  intro restart cause s0
  have h0 : PodStep p s s0 := openGap_step ..
  have m0 : MeterStep p s s0 := openGap_meterStep hp ..
  clear_value s0
  intro s1
  have h1 : PodStep p s s1 := h0.trans (modPod_step ..)
  have r1 : RestartBegun p s (podAt s1 p) := by
    obtain ⟨m, e0⟩ := m0
    rw [podAt_modPod hp, e0]
    dsimp only
    generalize (if kind = 0 then none else some ((podAt s p).pulse.acc, (podAt s p).pulse.owed, stamp)) = record
    obtain ⟨q, e1⟩ := pulseRestart_only record s0.time.stamp { podAt s p with meter := m }
    obtain ⟨m', z, e2⟩ := transferPod_only s0.time.stamp (pulseRestart record s0.time.stamp { podAt s p with meter := m })
    rw [e2, e1]
    refine ⟨⟨rfl, rfl, ?_, (congrArg Prod.fst hsrc).symm, rfl⟩, rfl, rfl⟩
    simp only [defaults, stored, beq_iff_eq]
  clear_value s1
  intro _ _ s2
  have h2 : PodStep p s s2 := (PodStep.ite h1 (h1.trans (putShell_step ..))).trans (cacheAfter_step ..)
  have r2 : RestartBegun p s (podAt s2 p) := by
    rw [podAt_cacheAfter]
    split
    · exact r1
    · exact r1
  clear_value s2
  intro s3
  have h3 : PodStep p s s3 := .ite (h2.trans (logAdd_step ..)) h2
  have r3 : RestartBegun p s (podAt s3 p) := by
    dsimp only [s3]
    split
    · rw [podAt_logAdd]
      exact r2
    · exact r2
  clear_value s3
  intro t s4
  have e : s4 = restartEntered p s restart s3 := by
    dsimp only [s4, t]
    clear_value restart
    cases restart <;> rfl
  refine ⟨s3, h3, r3, fun h => ?_⟩
  rw [show s4 = restartEntered p s (restartMode p s) s3 from e, h, if_neg (by simp)]

theorem restartEntered_step (p : Nat) (s : State) (m : PodMode) (u : State) : PodStep p u (restartEntered p s m u) := by
  cases m
  case waking => exact (modPod_step ..).trans (setMode_step ..)
  case doze => exact (setMode_step ..).trans (.ite (modPod_step ..) (.ite ((modPod_step ..).trans (trigger_step ..)) (.refl ..)))
  case fault => exact .refl ..
  all_goals
    rw [restartEntered]
    exact modPod_step ..

theorem moded_recorded {p : Nat} {s : State} {d : Pod} (h : RestartRecorded p s d) (m : PodMode) (cause : Nat) (stamp : Tick) :
    RestartRecorded p s (moded m cause stamp d) := by
  obtain ⟨_, _, _, _, _, _, _, _, e⟩ := moded_only m cause stamp d
  rw [e]
  exact ⟨h.sealed, h.state, h.stored, h.source, h.values⟩

/-- The change of state leaves the record of the restart. -/
theorem restartEntered_recorded {p : Nat} (hp : p < 64) {s u : State} (h : RestartRecorded p s (podAt u p)) (m : PodMode) :
    RestartRecorded p s (podAt (restartEntered p s m u) p) := by
  have kept {d : Pod} (h : RestartRecorded p s d) (z : Doze) (w : Option Nat) (x : MuxCode) (n : Nat) :
      RestartRecorded p s { d with doze := z, wake := w, mux := x, rcCount := n } := ⟨h.sealed, h.state, h.stored, h.source, h.values⟩
  cases m
  case waking =>
    rw [restartEntered, podAt_setMode hp, podAt_modPod hp]
    exact moded_recorded (kept h ..) ..
  case doze =>
    have t : RestartRecorded p s (podAt (setMode p .doze 0x0C u) p) := by
      rw [podAt_setMode hp]
      exact moded_recorded h ..
    unfold restartEntered
    dsimp only
    split_ifs
    · rw [podAt_modPod hp]
      exact kept t ..
    · rw [podAt_trigger, podAt_modPod hp]
      exact kept t ..
    · exact t
  case fault => exact h
  all_goals
    rw [restartEntered, podAt_modPod hp]
    exact kept h ..

theorem restartEntered_mode {p : Nat} (hp : p < 64) {s u : State} {m : PodMode} (stopped : (podAt u p).mode = .stopped)
    (hm : m = .stopped ∨ m = .doze ∨ m = .waking) : (podAt (restartEntered p s m u) p).mode = m := by
  obtain rfl | rfl | rfl := hm
  · rw [restartEntered, podAt_modPod hp]
    exact stopped
  · unfold restartEntered
    dsimp only
    split_ifs
    · rw [podAt_modPod hp, podAt_setMode hp, moded_mode]
    · rw [podAt_trigger, podAt_modPod hp, podAt_setMode hp, moded_mode]
    · rw [podAt_setMode hp, moded_mode]
  · rw [restartEntered, podAt_setMode hp, moded_mode]

theorem restartMode_stopped {p : Nat} {s : State} (stopped : (podAt s p).mode = .stopped) :
    restartMode p s = .stopped ∨ restartMode p s = .doze ∨ restartMode p s = .waking := by
  unfold restartMode
  rw [if_neg (by simp [stopped])]
  cases s.shell.recalledModes.getD p .stopped <;> decide

/-- Settles O24: the restart is recorded first, then the Pod takes the state that its stored one gives. -/
theorem podsRestartAsStored : Obligations.PodsRestartAsStored := by
  intro p s hp closed
  obtain ⟨u, step, begun, ends⟩ := restartPod_recorded hp s
  have r := restartEntered_recorded hp begun.toRestartRecorded (restartMode p s)
  rw [ends (r.sealed ▸ closed)]
  refine ⟨fun fault => ?_, fun stopped => ?_, fun q _ hq => (step.trans (restartEntered_step ..)).others q hq⟩
  · have e : restartMode p s = .fault := if_pos fault
    rw [e]
    exact ⟨begun.mode.trans fault, begun.wake⟩
  · have m : (podAt (restartEntered p s (restartMode p s) u) p).mode = restartMode p s :=
      restartEntered_mode hp (begun.mode.trans stopped) (restartMode_stopped stopped)
    have e : restartMode p s = match s.shell.recalledModes.getD p .stopped with
        | .stopped | .fault => .stopped | .doze => .doze | _ => .waking := if_neg (by simp [stopped])
    exact ⟨m.trans e, e ▸ r.state, r.stored, r.source, r.values⟩

end Sys2Proof.Laws
end

section
/-! Isolation, ECC errors, lane timeouts and supply current of one Pod (R19, R23, R26, R675). -/

namespace Sys2Proof.Laws

open Sys2Proof.Machine

theorem laneTimeout_closed {p : Nat} {s : State} (h : (podAt s p).faults.isoOpen = false) :
    laneTimeout p s = raise .pod p 2 0 (hubCount 1 (modPod p (fun d => { d with faults := { d.faults with
      laneTimeouts := wrap32 (d.faults.laneTimeouts + 1), laneStamp := s.time.stamp, laneRun := min 255 (d.faults.laneRun + 1) } }) s)) := by
  unfold laneTimeout raisePod
  rw [h]
  rfl

theorem execLaneTimeout_closed (p : Fin 64) (s : State) (on : s.chip.state ≠ .unpowered) (closed : (podAt s p.val).faults.isoOpen = false) :
    execLaneTimeout p s = .next (raise .pod p.val 2 0 (hubCount 1 (modPod p.val (fun d => { d with faults := { d.faults with
      laneFailed := some s.time.elapsed, laneTimeouts := wrap32 (d.faults.laneTimeouts + 1), laneStamp := s.time.stamp,
      laneRun := min 255 (d.faults.laneRun + 1) } }) s))) := by
  unfold execLaneTimeout
  rw [if_neg on, laneTimeout_closed (by rw [podAt_modPod p.isLt]; exact closed), modPod_modPod]
  rfl

/-- Settles O37: each event either stops at its guard or does what the rule says. -/
theorem podLanesFail : Obligations.PodLanesFail := by
  unfold Obligations.PodLanesFail
  refine ⟨fun p ua ns s on current time closed => ?_, fun p ua ns s quiet => ?_, fun p w s on => ⟨?_, ?_⟩, execLaneTimeout_closed,
    fun p ua s => rfl⟩
  · exact congrArg Host.Outcome.next (if_neg (by simp [on, closed, current, time]))
  · exact congrArg Host.Outcome.next (if_pos (.inr quiet))
  · exact congrArg Host.Outcome.next (if_neg on)
  · exact congrArg Host.Outcome.next (if_neg on)

end Sys2Proof.Laws
end

section
/-! Channels that settle, entries that range down and excursions (R36, R231, R246, R247, R321, R338). -/

namespace Sys2Proof.Laws

open Sys2Proof.Machine

theorem getD_putAt_same {α : Type} {n k : Nat} (hk : k < n) (v : Vector α n) (x y : α) : (putAt v k x).getD k y = x := by
  simp [putAt, Vector.getD, hk]

theorem getD_putAt_ne {α : Type} {n k j : Nat} (h : j ≠ k) (v : Vector α n) (x y : α) : (putAt v k x).getD j y = v.getD j y := by
  by_cases hj : j < n
  · simp [putAt, Vector.getD, hj, Ne.symm h]
  · simp [Vector.getD, hj]

theorem b2n_decide (P : Prop) [Decidable P] : b2n (decide P) = if P then 1 else 0 := by
  simp only [b2n, decide_eq_true_eq]

theorem runsFrames_powering {d : Pod} (h : runsFrames d = true) : d.powering.isNone = true := by
  simp only [runsFrames, Bool.and_eq_true] at h
  exact h.2

/-- A Pod that enters a state keeps the cause with it. -/
theorem setMode_entered {p cause : Nat} {m : PodMode} {s : State} (hp : p < 64) (h : (podAt s p).mode ≠ m) :
    (podAt (setMode p m cause s) p).mode = m ∧ (podAt (setMode p m cause s) p).changeCause = cause := by
  rw [podAt_setMode hp, moded, if_neg h]
  exact ⟨rfl, rfl⟩

/-- Only a waking Pod looks at its channels. -/
theorem wakeCheck_awake {p : Nat} {s : State} (h : (podAt s p).mode ≠ .waking) : wakeCheck p s = s := if_neg fun c => h c.1

/-- R36: a waking Pod goes to RUN when each of its live channels has settled, and it has one. -/
theorem wakeCheck_settled {p c : Nat} {s : State} (hc : c < 32) (mode : (podAt s p).mode = .waking) (on : (podAt s p).powering.isNone = true)
    (live : ((podAt s p).chans.getD c .reset).live = true)
    (all : ∀ k, k < 32 → ((podAt s p).chans.getD k .reset).live = true → ((podAt s p).chans.getD k .reset).settled = true) :
    wakeCheck p s = setMode p .run 8 s := by
  have at_ (k : Nat) (hk : k < 32) : (podAt s p).chans.getD k .reset = (podAt s p).chans[k] := by simp [Vector.getD, hk]
  refine if_pos ⟨mode, on, ?_, ?_⟩
  · rw [List.any_eq_true]
    exact ⟨(podAt s p).chans[c], by simp, by rw [← at_ c hc]; exact live⟩
  · rw [List.all_eq_true]
    intro ch hch
    obtain ⟨k, hk, rfl⟩ := Vector.mem_iff_getElem.1 (Vector.mem_toList_iff.1 hch)
    rw [← at_ k hk]
    cases hl : ((podAt s p).chans.getD k .reset).live with
    | false => rfl
    | true => rw [all k hk hl]; rfl

theorem execSettleCountReached_due {p : Fin 64} {c : Fin 32} {s : State} (runs : runsFrames (podAt s p.val) = true)
    (live : ((podAt s p.val).chans.getD c.val .reset).live = true)
    (due : settleCount (podAt s p.val) c.val ≤ ((podAt s p.val).chans.getD c.val .reset).outputs) :
    execSettleCountReached p c s = .next (wakeCheck p.val (modPod p.val (fun d => { d with
      chans := putAt d.chans c.val { (podAt s p.val).chans.getD c.val .reset with settled := true } }) s)) :=
  congrArg Host.Outcome.next (if_pos (by simp [runs, live, due]))

/-- Settles O29, each clause by the guard of its event. -/
theorem channelsSettleAndRange : Obligations.ChannelsSettleAndRange := by
  unfold Obligations.ChannelsSettleAndRange
  refine ⟨fun p c s runs live due awake => ?_, fun p c s runs live due waking rest => ?_, fun p c s early => ?_,
    fun p i c s chan runs live due => ?_, fun p k s runs auto active still quiet => ?_, fun p m s runs long => ?_, fun p m s short => ?_⟩
  · show execSettleCountReached p c s = _
    rw [execSettleCountReached_due runs live due, wakeCheck_awake (by rw [podAt_modPod p.isLt]; exact awake)]
  · refine ⟨_, execSettleCountReached_due runs live due, ?_⟩
    rw [wakeCheck_settled (c := c.val) c.isLt]
    · exact setMode_entered p.isLt (by rw [podAt_modPod p.isLt, waking]; decide)
    · rw [podAt_modPod p.isLt]
      exact waking
    · rw [podAt_modPod p.isLt]
      exact runsFrames_powering runs
    · rw [podAt_modPod p.isLt, getD_putAt_same c.isLt]
      exact live
    · intro k hk
      rw [podAt_modPod p.isLt]
      by_cases h : k = c.val
      · rw [h, getD_putAt_same c.isLt]
        exact fun _ => rfl
      · rw [getD_putAt_ne h]
        exact rest k hk h
  · exact congrArg Host.Outcome.next (if_neg (by simp [early]))
  · show execFundamentalPathSettled p i s = _
    simp [execFundamentalPathSettled, chan, runs, live, due]
  · show execDownRangeIntervalEnd p k s = _
    unfold execDownRangeIntervalEnd
    simp only [runs, auto, active, still, quiet, Option.isNone_none, decide_true, Bool.and_self, if_true, b2n_decide, decide_eq_true_eq]
  · exact congrArg Host.Outcome.next (if_pos (by simpa [runs] using long))
  · exact congrArg Host.Outcome.next (if_neg (by simp only [Bool.and_eq_true, decide_eq_true_eq]; omega))

end Sys2Proof.Laws
end

section
/-! A frame boundary and what it takes over (R28, R69, R186, R245, R270). -/

namespace Sys2Proof.Laws

open Sys2Proof.Machine

/-! ### The marker -/

theorem endDoze_step (p : Nat) (now : Tick) (exit : Nat) (s : State) : PodStep p s (endDoze p now exit s) := by
  unfold endDoze
  dsimp only
  cases (podAt s p).doze.armingFrom with
  | none => exact modPod_step ..
  | some t0 => exact .ite ((modPod_step ..).trans (closeGap_step ..)) (modPod_step ..)

theorem firstPip_step (p : Nat) (s : State) : PodStep p s (firstPip p s) := by
  unfold firstPip
  refine .ite ?_ (.refl ..)
  cases (podAt s p).chans.toList.find? (fun ch => ch.live && decide (2 ≤ ch.outputs)) with
  | none => exact .refl ..
  | some ch => exact endDoze_step ..

@[simp] theorem notePhasor_marker (before now : Tick) (quality : Nat) (d : Pod) : (notePhasor before now quality d).marker = d.marker := by
  unfold notePhasor
  dsimp only
  split <;> rfl

/-- The part of a boundary before its marker touches the Pod alone. -/
theorem frameWork_step (p : Nat) (codes : List Int) (cm : Nat) (s : State) :
    PodStep p s (firstPip p (modPod p (frameWork codes cm) s)) := (modPod_step ..).trans (firstPip_step ..)

theorem latchMarker_pods (s : State) : (latchMarker s).2.pods = s.pods := by
  unfold latchMarker
  split <;> rfl

theorem latchMarker_locked {s : State} (h : s.clocks.spineLocked = true) :
    latchMarker s = (s.time.stamp + (Config.markerSlip s.fresh).val - 2, { s with fresh := s.fresh + 1 }) := if_pos h

theorem latchMarker_unlocked {s : State} (h : s.clocks.spineLocked = false) : latchMarker s = (s.time.stamp, s) :=
  if_neg (by simp [h])

theorem slip_near {v : Nat} (t : Nat) (h : v < 5) : t + v - 2 ≤ t + 2 ∧ t ≤ t + v - 2 + 2 := by omega

/-- R186: the marker is the STAMP within two ticks. -/
theorem latchMarker_near (s : State) : (latchMarker s).1 ≤ s.time.stamp + 2 ∧ s.time.stamp ≤ (latchMarker s).1 + 2 := by
  cases h : s.clocks.spineLocked with
  | false =>
    rw [latchMarker_unlocked h]
    exact ⟨Nat.le_add_right .., Nat.le_add_right ..⟩
  | true =>
    rw [latchMarker_locked h]
    exact slip_near _ (Config.markerSlip s.fresh).isLt

theorem podAt_frameEnds_marker {p : Nat} (hp : p < 64) (codes : List Int) (cm : Nat) (s : State) :
    (podAt (frameEnds p codes cm s) p).marker = (latchMarker (firstPip p (modPod p (frameWork codes cm) s))).1 := by
  unfold frameEnds
  dsimp only
  rw [podAt_modPod hp, notePhasor_marker]

theorem frameEnds_fresh (p : Nat) (codes : List Int) (cm : Nat) (s : State) :
    (frameEnds p codes cm s).fresh = (latchMarker (firstPip p (modPod p (frameWork codes cm) s))).2.fresh := by
  unfold frameEnds
  rfl

theorem podAt_frameEnds_ne {p r : Nat} (hr : r ≠ p) (codes : List Int) (cm : Nat) (s : State) :
    podAt (frameEnds p codes cm s) r = podAt s r := by
  unfold frameEnds
  dsimp only
  rw [podAt_modPod_ne hr, podAt_of_pods (latchMarker_pods _), (frameWork_step p codes cm s).others r hr]

/-! ### Range changes -/

/-- A range change that waits, taken within its limits. -/
def rangeTaken (low high : Nat) (r : Range) : Range :=
  match r.next with
  | none => r
  | some n => ⟨max low (min high n), none, 0, 0⟩

/-- A pending change of one entry takes effect. -/
def takeRange (d : Pod) (k : Nat) : Pod :=
  let r := d.conv.ranges.getD k ⟨0, none, 0, 0⟩
  match r.next with
  | none => d
  | some n =>
    let g := max (d.val 0x12 1) (min (d.val 0x12 2) n)
    { d with
      conv := { d.conv with ranges := putAt d.conv.ranges k ⟨g, none, 0, 0⟩ },
      counters := if g = r.gain then d.counters else bump d.counters 2 }

theorem takeRanges_eq (d : Pod) : takeRanges d = (List.range 16).foldl takeRange d := rfl

theorem takeRange_values (d : Pod) (k : Nat) : (takeRange d k).values = d.values := by
  unfold takeRange
  dsimp only
  split <;> rfl

theorem takeRange_same {d : Pod} {k : Nat} (hk : k < 16) :
    (takeRange d k).conv.ranges.getD k ⟨0, none, 0, 0⟩ =
      rangeTaken (d.val 0x12 1) (d.val 0x12 2) (d.conv.ranges.getD k ⟨0, none, 0, 0⟩) := by
  unfold takeRange rangeTaken
  dsimp only
  split
  · rfl
  · exact getD_putAt_same hk ..

theorem takeRange_other {d : Pod} {k j : Nat} (h : k ≠ j) :
    (takeRange d j).conv.ranges.getD k ⟨0, none, 0, 0⟩ = d.conv.ranges.getD k ⟨0, none, 0, 0⟩ := by
  unfold takeRange
  dsimp only
  split
  · rfl
  · exact getD_putAt_ne h ..

/-- A range that has been taken is taken no second time. -/
theorem rangeTaken_idem (low high : Nat) (r : Range) : rangeTaken low high (rangeTaken low high r) = rangeTaken low high r := by
  obtain ⟨gain, next, peak, frames⟩ := r
  cases next <;> rfl

/-- The entries of a list are taken, and no other. -/
theorem takeRanges_of_mem {k : Nat} (hk : k < 16) (l : List Nat) (d : Pod) :
    (l.foldl takeRange d).conv.ranges.getD k ⟨0, none, 0, 0⟩ =
      if k ∈ l then rangeTaken (d.val 0x12 1) (d.val 0x12 2) (d.conv.ranges.getD k ⟨0, none, 0, 0⟩)
      else d.conv.ranges.getD k ⟨0, none, 0, 0⟩ := by
  induction l generalizing d with
  | nil => rfl
  | cons j js ih =>
    have limit (sub : Nat) : (takeRange d j).val 0x12 sub = d.val 0x12 sub := by simp only [Pod.val, takeRange_values]
    rw [List.foldl_cons, ih, limit, limit]
    by_cases h : k = j
    · subst h
      simp [takeRange_same hk, rangeTaken_idem]
    · simp [takeRange_other h, h]

/-- R245: every pending range change is taken. -/
theorem takeRanges_at {d : Pod} {k : Nat} (hk : k < 16) :
    (takeRanges d).conv.ranges.getD k ⟨0, none, 0, 0⟩ =
      rangeTaken (d.val 0x12 1) (d.val 0x12 2) (d.conv.ranges.getD k ⟨0, none, 0, 0⟩) := by
  rw [takeRanges_eq, takeRanges_of_mem hk, if_pos (List.mem_range.2 hk)]

/-! ### HOT values -/

/-- A HOT value that no rule singles out is taken as it is. -/
theorem applyHotValue_plain {stamp k v : Nat} {d : Pod} (range : k / 256 ≠ 0x12) (slices : k ≠ keyOf 0x36 0) (test : k ≠ keyOf 0xC4 0)
    (nominal : k ≠ keyOf 0x72 0) (gapLow : k ≠ keyOf 0xB2 0) (gapHigh : k ≠ keyOf 0xB4 0) :
    applyHotValue stamp (k, v) d = { d with values := storePut podDefault d.values k v } := by
  unfold applyHotValue
  dsimp only
  rw [if_neg range, if_neg slices, if_neg nominal, if_neg test, if_neg (by simp [gapLow, gapHigh])]

/-- R69: without a switch of test mode among them, the HOT values that wait are applied in their order, and none waits then. -/
theorem applyHot_untested {stamp : Nat} {d : Pod} (h : d.hot.reverse.find? (fun e => e.1 == keyOf 0xC4 0) = none) :
    applyHot stamp false d = { d.hot.foldl (fun d e => applyHotValue stamp e d) d with hot := [] } := by
  unfold applyHot
  rw [h]
  dsimp only
  rw [if_neg (by simp)]

/-- Settles O28: the guard of the event, the marker, and then what the boundary takes over. -/
theorem framesEndAtTheirBoundary : Obligations.FramesEndAtTheirBoundary := by
  unfold Obligations.FramesEndAtTheirBoundary
  refine ⟨fun p codes cm s runs => ?_, fun p codes cm s idle => ?_, fun p codes cm s hp => ?_, fun d k n hk next => ?_,
    fun d stamp k v range slices test nominal gapLow gapHigh => ?_⟩
  · exact congrArg Host.Outcome.next (if_pos runs)
  · exact congrArg Host.Outcome.next (if_neg (by rw [idle]; exact Bool.false_ne_true))
  · have work := frameWork_step p codes cm s
    rw [podAt_frameEnds_marker hp, frameEnds_fresh, ← work.time, ← work.clocks, ← work.fresh]
    obtain ⟨above, below⟩ := latchMarker_near (firstPip p (modPod p (frameWork codes cm) s))
    exact ⟨above, below, fun locked => by rw [latchMarker_locked locked], fun unlocked => by rw [latchMarker_unlocked unlocked],
      fun r _ hr => podAt_frameEnds_ne hr codes cm s⟩
  · rw [takeRanges_at hk, rangeTaken, next]
    exact ⟨rfl, rfl⟩
  · rw [applyHot_untested (by simp [test])]
    dsimp only [List.foldl]
    rw [applyHotValue_plain range slices test nominal gapLow gapHigh]

end Sys2Proof.Laws
end

section
/-! SUPPORT. A command word that is written as a request of its own: which object it comes to, and how its outcome goes out. -/

namespace Sys2Proof.Laws

open Sys2Proof.Machine

/-- A command object of 32 bits, writable from level 1 and never gated. -/
structure CommandAt (index : Nat) (x : Place) : Prop where
  found : findPlace index = some x
  shape : x.obj.shape = .simple .u32
  level : x.obj.write = some 1
  gate : x.obj.gate = none
  command : x.isCommand = true

/-- `Pod.Command` of Pod p. -/
def podCommandPlace (p : Nat) : Place := ⟨some p, ⟨0x01, .simple .u32, 1, some 1, .hot, .each 0, .any, none, false, false, false⟩⟩

/-- `Dev.Command`. -/
def devCommandPlace : Place := ⟨none, ⟨0x2600, .simple .u32, 1, some 1, .hot, .each 0, .any, none, false, false, false⟩⟩

theorem commandAt_pod {p : Nat} (hp : p < 64) : CommandAt (podIndex p 1) (podCommandPlace p) :=
  ⟨by rw [findPlace_pod hp (by decide)]; rfl, rfl, rfl, rfl, rfl⟩

theorem commandAt_dev : CommandAt 0x2600 devCommandPlace := ⟨rfl, rfl, rfl, rfl, rfl⟩

theorem CommandAt.tyAt {index : Nat} {x : Place} (c : CommandAt index x) : x.obj.tyAt 0 = some .u32 := by
  unfold Obj.tyAt
  rw [c.shape]
  rfl

theorem CommandAt.isSimple {index : Nat} {x : Place} (c : CommandAt index x) : x.obj.isSimple = true := by
  unfold Obj.isSimple
  rw [c.shape]

/-- A command is written with the type and the length of its object. -/
theorem CommandAt.rowCommand {index : Nat} {x : Place} (c : CommandAt index x) (who : Who) (code arg : Nat) (s : State) :
    rowCommand who index code arg s = rowRun who (.write index 0 4 4 (code + arg % 256 * 65536)) s := by
  unfold Machine.rowCommand rowWrite
  simp only [c.found, c.tyAt]
  rfl

theorem CommandAt.gatedAccess {index : Nat} {x : Place} (c : CommandAt index x) (who : Who) (i sub op : Nat) (s : State) :
    gatedAccess who i sub op x s = s := by
  unfold Machine.gatedAccess gatedBit
  rw [c.gate]

theorem CommandAt.doItem_denied {index : Nat} {x : Place} (c : CommandAt index x) {who : Who} (low : who.level.val = 0) (value : Nat)
    (s : State) : doItem who (.write index 0 4 4 value) s = (.now (statusReply stDenied), s) := by
  unfold doItem writeItem
  simp only [c.found, c.tyAt, c.level, c.gatedAccess, c.isSimple, low]
  rfl

theorem CommandAt.doItem {index : Nat} {x : Place} (c : CommandAt index x) {who : Who} (high : 1 ≤ who.level.val) (value : Nat) (s : State) :
    doItem who (.write index 0 4 4 value) s = commandWrite who x (value % 256 ^ 4) true s := by
  unfold Machine.doItem writeItem
  simp only [c.found, c.tyAt, c.level, c.gatedAccess, c.isSimple, c.command, Nat.not_lt.2 high]
  rfl

/-- An item that is answered at once and whose effect leaves the engine as it was. -/
theorem rowRun_answers {s t : State} {who : Who} {it : Item} {st : Nat} (h : EngineFree s)
    (e : doItem who it s = (.now (statusReply st), t)) (engine : t.engine = s.engine)
    (wanted : t.chip.standbyWanted = s.chip.standbyWanted) :
    rowRun who it s = withLast st t :=
  rowRun_now h e ⟨by rw [engine]; exact h.running, by rw [engine]; exact h.frames, wanted.trans h.standby, by rw [engine]; exact h.noSub⟩
    ⟨by rw [engine]; exact h.afterReply, by rw [engine]; exact h.noReset⟩

/-- R655: a command object takes no command of a requester at PUBLIC. -/
theorem CommandAt.rowCommand_denied {index : Nat} {x : Place} (c : CommandAt index x) {who : Who} {s : State} (h : EngineFree s)
    (low : who.level.val = 0) (code arg : Nat) : Machine.rowCommand who index code arg s = withLast stDenied s := by
  rw [c.rowCommand]
  exact rowRun_answers h (c.doItem_denied low _ s) rfl rfl

end Sys2Proof.Laws
end

section
/-! START and STOP of a Pod (R36, R41, R117, R665). -/

namespace Sys2Proof.Laws

open Sys2Proof.Machine

/-! ### Where START and STOP go -/

/-- A command that any session may give: START or STOP. -/
def Plain (code : Nat) : Prop := code = 1 ∨ code = 2

theorem commandWrite_silent {who : Who} {p code : Nat} {s : State} (high : 1 ≤ who.level.val) (plain : Plain code)
    (silent : laneSilent s p = true) :
    commandWrite who (podCommandPlace p) code true s = (.now (statusReply stPodUnavailable), laneFell p s) := by
  obtain rfl | rfl := plain <;>
    simp [commandWrite, commandLevel, podCommandPlace, Nat.not_lt.2 high, Place.unreachable, Place.laneServed, silent, laneLost, answered]

theorem commandWrite_answers {who : Who} {p code st : Nat} {s t : State} (high : 1 ≤ who.level.val) (plain : Plain code)
    (reached : laneSilent s p = false) (run : podCommandRun who p code 0 true (laneDone p s) = (st, t))
    (done : commandWait (podCommandPlace p) code st t = none) :
    commandWrite who (podCommandPlace p) code true s = (.now (statusReply st), t) := by
  obtain rfl | rfl := plain <;> unfold podCommandPlace at done ⊢ <;>
    simp [commandWrite, commandLevel, Nat.not_lt.2 high, Place.unreachable, Place.laneServed, reached, laneOf, run, done, answered]

theorem commandWrite_waits {who : Who} {p st : Nat} {s t : State} {w : Waiting} (high : 1 ≤ who.level.val)
    (reached : laneSilent s p = false) (run : podCommandRun who p 1 0 true (laneDone p s) = (st, t))
    (wait : commandWait (podCommandPlace p) 1 st t = some w) :
    commandWrite who (podCommandPlace p) 1 true s = (.waits w, t) := by
  unfold podCommandPlace at wait ⊢
  simp [commandWrite, commandLevel, Nat.not_lt.2 high, Place.unreachable, Place.laneServed, reached, laneOf, run, wait]

/-- The item of a command of Pod p comes to `commandWrite`. -/
theorem doItem_podCommand {who : Who} {p code : Nat} (hp : p < 64) (high : 1 ≤ who.level.val) (plain : Plain code) (s : State) :
    doItem who (.write (podIndex p 1) 0 4 4 (code + 0 % 256 * 65536)) s = commandWrite who (podCommandPlace p) code true s := by
  rw [(commandAt_pod hp).doItem high]
  obtain rfl | rfl := plain <;> rfl

theorem rowCommand_silent {who : Who} {p code : Nat} {s : State} (h : EngineFree s) (hp : p < 64) (high : 1 ≤ who.level.val)
    (plain : Plain code) (silent : laneSilent s p = true) :
    rowCommand who (podIndex p 1) code 0 s = withLast stPodUnavailable (laneFell p s) := by
  rw [(commandAt_pod hp).rowCommand]
  exact rowRun_answers h ((doItem_podCommand hp high plain s).trans (commandWrite_silent high plain silent)) rfl rfl

theorem rowCommand_answers {who : Who} {p code st : Nat} {s t : State} (h : EngineFree s) (hp : p < 64) (high : 1 ≤ who.level.val)
    (plain : Plain code) (reached : laneSilent s p = false) (run : podCommandRun who p code 0 true (laneDone p s) = (st, t))
    (done : commandWait (podCommandPlace p) code st t = none) (engine : t.engine = s.engine)
    (wanted : t.chip.standbyWanted = s.chip.standbyWanted) :
    rowCommand who (podIndex p 1) code 0 s = withLast st t := by
  rw [(commandAt_pod hp).rowCommand]
  exact rowRun_answers h ((doItem_podCommand hp high plain s).trans (commandWrite_answers high plain reached run done)) engine wanted

/-! ### A lane access leaves what a command asks for -/

theorem podAt_laneDone {p : Nat} (hp : p < 64) (s : State) : ∃ n f, podAt (laneDone p s) p = { podAt s p with counters := n, faults := f } :=
  ⟨_, _, podAt_modPod hp (fun d => { d with
    counters := bump d.counters 17,
    faults := { d.faults with laneRun := 0, laneLongest := max d.faults.laneLongest (min (laneLimit d) (Config.laneMicros s.fresh)) } }) s⟩

theorem laneDone_mode {p : Nat} (hp : p < 64) (s : State) : (podAt (laneDone p s) p).mode = (podAt s p).mode := by
  obtain ⟨_, _, e⟩ := podAt_laneDone hp s
  rw [e]

theorem laneDone_powering {p : Nat} (hp : p < 64) (s : State) : (podAt (laneDone p s) p).powering = (podAt s p).powering := by
  obtain ⟨_, _, e⟩ := podAt_laneDone hp s
  rw [e]

theorem laneDone_frozen {p : Nat} (hp : p < 64) (s : State) : (podAt (laneDone p s) p).frozen = (podAt s p).frozen := by
  obtain ⟨_, _, e⟩ := podAt_laneDone hp s
  rw [e]

theorem laneDone_seqA {p : Nat} (hp : p < 64) (s : State) : (podAt (laneDone p s) p).seqA = (podAt s p).seqA := by
  obtain ⟨_, _, e⟩ := podAt_laneDone hp s
  rw [e]
  rfl

theorem laneDone_runsFrames {p : Nat} (hp : p < 64) (s : State) : runsFrames (podAt (laneDone p s) p) = runsFrames (podAt s p) := by
  simp only [runsFrames, laneDone_mode hp, laneDone_powering hp, laneDone_frozen hp]

/-! ### START -/

/-- What START leaves when it asks the governor. -/
def startAsked (p : Nat) (s : State) : State := trigger 2 p (podCommand p 1 0 1 (modPod p (fun d => { d with wake := some 2 }) s))

theorem podAt_startAsked {p : Nat} (hp : p < 64) (s : State) :
    podAt (startAsked p s) p = { podAt s p with wake := some 2, command := commandWord 1 0 1 } := by
  unfold startAsked podCommand
  rw [podAt_trigger, podAt_modPod hp, podAt_modPod hp]

theorem podStart_asks {p : Nat} {s : State} (mode : (podAt s p).mode = .stopped ∨ (podAt s p).mode = .doze)
    (off : (podAt s p).powering = none) (used : (podAt s p).seqA.any entryUsed = true) : podStart p s = (stOk, startAsked p s) := by
  unfold podStart
  obtain mode | mode := mode <;> simp [mode, off, used, sampling, startAsked, noteCommand]

theorem podStart_refused {p : Nat} {s : State} (h : (podAt s p).mode = .fault ∨ (podAt s p).seqA.any entryUsed = false) :
    podStart p s = (stWrongState, podCommand p 1 0 3 s) :=
  if_pos (h.imp id fun e => by rw [e]; rfl)

/-- A START that the governor has not answered waits, of a Pod that is not in POD-FAULT. -/
theorem startDone_asked {p : Nat} {s : State} (on : s.chip.state = .active) (mode : (podAt s p).mode ≠ .fault)
    (asked : (podAt s p).wake = some 2) : startDone p s = none := by
  simp [startDone, on, mode, asked]

theorem rowCommand_start_waits {who : Who} {p : Fin 64} {s : State} (h : EngineFree s) (high : 1 ≤ who.level.val)
    (reached : laneSilent s p.val = false) (mode : (podAt s p.val).mode = .stopped ∨ (podAt s p.val).mode = .doze)
    (off : (podAt s p.val).powering = none) (used : (podAt s p.val).seqA.any entryUsed = true) :
    rowCommand who (podIndex p.val 1) 1 0 s =
      (let t := startAsked p.val (laneDone p.val s)
       { t with engine := { t.engine with running := some (rowFrame who []), waiting := some (.start p) } }) := by
  have run : podCommandRun who p.val 1 0 true (laneDone p.val s) = (stOk, startAsked p.val (laneDone p.val s)) :=
    podStart_asks (by rw [laneDone_mode p.isLt]; exact mode) (by rw [laneDone_powering p.isLt]; exact off)
      (by rw [laneDone_seqA p.isLt]; exact used)
  have asked := podAt_startAsked p.isLt (laneDone p.val s)
  have wait : commandWait (podCommandPlace p.val) 1 stOk (startAsked p.val (laneDone p.val s)) = some (.start p) := by
    simp [commandWait, podCommandPlace, asked]
  have moving : (podAt (startAsked p.val (laneDone p.val s)) p.val).mode ≠ .fault := by
    rw [asked]
    dsimp only
    rw [laneDone_mode p.isLt]
    obtain mode | mode := mode <;> rw [mode] <;> decide
  rw [(commandAt_pod p.isLt).rowCommand]
  refine rowRun_waits h ((doItem_podCommand p.isLt high (.inl rfl) s).trans (commandWrite_waits high reached run wait)) h.frames h.standby ?_
  exact startDone_asked h.active moving (by show (podAt (startAsked p.val (laneDone p.val s)) p.val).wake = _; rw [asked])

/-! ### STOP -/

theorem podStop_fault {p : Nat} {s : State} (h : (podAt s p).mode = .fault) : podStop p s = (stWrongState, podCommand p 2 0 3 s) := if_pos h

theorem podStop_planned {p : Nat} {s : State} (h : runsFrames (podAt s p) = true) :
    podStop p s = (stOk, podCommand p 2 0 1 (modPod p (fun d => { d with plan := { d.plan with stop := true } }) s)) := by
  have run : sampling (podAt s p).mode = true := by
    simp only [runsFrames, Bool.and_eq_true] at h
    exact h.1.1
  unfold podStop
  dsimp only
  rw [if_neg (fun e => by rw [e] at run; exact absurd run (by decide)), if_neg (fun e => by rw [e] at run; exact absurd run (by decide)),
    if_pos h]
  rfl

/-- The doze of a Pod ends by STOP. -/
def dozeStopped (p : Nat) (s : State) : State :=
  let d := podAt s p
  let lost := d.doze.sentinel == .tripped || d.doze.sentinel == .pending
  setMode p .stopped 2 (modPod p (fun d =>
    { d with wake := none, powering := none, counters := if lost then bump d.counters 14 else d.counters })
      (endDoze p s.time.stamp (exitCause d 3) s))

theorem podStop_dozing {p : Nat} {s : State} (h : (podAt s p).mode = .doze) :
    podStop p s = (stOk, podCommand p 2 0 2 (dozeStopped p s)) := by
  unfold podStop
  dsimp only
  rw [if_neg (by rw [h]; decide), if_neg (by rw [h]; decide), if_neg (by simp [runsFrames, h, sampling])]
  rfl

theorem dozeStopped_step (p : Nat) (s : State) : PodStep p s (dozeStopped p s) :=
  (endDoze_step ..).trans ((modPod_step ..).trans (setMode_step ..))

theorem dozeStopped_stopped {p : Nat} (hp : p < 64) (s : State) :
    (podAt (dozeStopped p s) p).mode = .stopped ∧ (podAt (dozeStopped p s) p).wake = none := by
  unfold dozeStopped
  dsimp only
  rw [podAt_setMode hp]
  exact ⟨moded_mode .., (moded_wake ..).trans (by rw [podAt_modPod hp])⟩

/-- The command word, once written, is what the Pod shows. -/
theorem podAt_podCommand {p : Nat} (hp : p < 64) (code arg completion : Nat) (s : State) :
    podAt (podCommand p code arg completion s) p = { podAt s p with command := commandWord code arg completion } := podAt_modPod hp ..

theorem podCommand_step (p code arg completion : Nat) (s : State) : PodStep p s (podCommand p code arg completion s) := modPod_step ..

/-- Only START waits. -/
theorem commandWait_stop (p st : Nat) (t : State) : commandWait (podCommandPlace p) 2 st t = none := by
  simp [commandWait, podCommandPlace]

/-- What a completed STOP of a stopped Pod reads as. -/
theorem stopNoted {p : Nat} {t : State} (hp : p < 64) (mode : (podAt t p).mode = .stopped) (wake : (podAt t p).wake = none) :
    let u := withLast stOk (podCommand p 2 0 2 t)
    (podAt u p).mode = .stopped ∧ (podAt u p).wake = none ∧ (podAt u p).command = commandWord 2 0 2 ∧
      u.engine.last = ⟨stOk, 0, []⟩ := by
  have noted := podAt_podCommand hp 2 0 2 t
  show (podAt (podCommand p 2 0 2 t) p).mode = _ ∧ (podAt (podCommand p 2 0 2 t) p).wake = _ ∧
    (podAt (podCommand p 2 0 2 t) p).command = _ ∧ _
  rw [noted]
  exact ⟨mode, wake, rfl, rfl⟩

/-- Settles O38: START and STOP reach the Pod or not, and then act by its state. -/
theorem podsStartAndStop : Obligations.PodsStartAndStop := by
  unfold Obligations.PodsStartAndStop
  refine ⟨fun who p s h high reached mode off used => congrArg Host.Outcome.next (rowCommand_start_waits h high reached mode off used),
    fun who p s h high reached refused => ?_, fun who p s h high reached runs => ?_, fun who p s h high reached dozing => ?_,
    fun who p s h high reached fault => ?_, fun who p s h high silent => ⟨?_, ?_⟩, fun who p s h low => ⟨?_, ?_⟩⟩
  · have run : podStart p.val (laneDone p.val s) = (stWrongState, podCommand p.val 1 0 3 (laneDone p.val s)) :=
      podStart_refused (by rw [laneDone_mode p.isLt, laneDone_seqA p.isLt]; exact refused)
    exact congrArg Host.Outcome.next (rowCommand_answers h p.isLt high (.inl rfl) reached run rfl rfl rfl)
  · have run := podStop_planned (p := p.val) (s := laneDone p.val s) (by rw [laneDone_runsFrames p.isLt]; exact runs)
    exact congrArg Host.Outcome.next (rowCommand_answers h p.isLt high (.inr rfl) reached run (commandWait_stop ..) rfl rfl)
  · have run := podStop_dozing (p := p.val) (s := laneDone p.val s) (by rw [laneDone_mode p.isLt]; exact dozing)
    have step := (dozeStopped_step p.val (laneDone p.val s)).trans (podCommand_step p.val 2 0 2 _)
    have engine := step.engine.trans (laneDone_engine p.val s).1
    have wanted := congrArg (·.standbyWanted) (step.chip.trans (laneDone_engine p.val s).2.1)
    obtain ⟨mode, wake⟩ := dozeStopped_stopped p.isLt (laneDone p.val s)
    refine ⟨_, congrArg Host.Outcome.next
      (rowCommand_answers h p.isLt high (.inr rfl) reached run (commandWait_stop ..) engine wanted), ?_⟩
    exact stopNoted p.isLt mode wake
  · have run := podStop_fault (p := p.val) (s := laneDone p.val s) (by rw [laneDone_mode p.isLt]; exact fault)
    exact congrArg Host.Outcome.next (rowCommand_answers h p.isLt high (.inr rfl) reached run (commandWait_stop ..) rfl rfl)
  · exact congrArg Host.Outcome.next (rowCommand_silent h p.isLt high (.inl rfl) silent)
  · exact congrArg Host.Outcome.next (rowCommand_silent h p.isLt high (.inr rfl) silent)
  · exact congrArg Host.Outcome.next ((commandAt_pod p.isLt).rowCommand_denied h low 1 0)
  · exact congrArg Host.Outcome.next ((commandAt_pod p.isLt).rowCommand_denied h low 2 0)

end Sys2Proof.Laws
end

section
/-! STANDBY, entered and left (R30, R58, R499, R580, R599). -/

namespace Sys2Proof.Laws

open Sys2Proof.Machine

/-! ### Links and oscillators -/

@[simp] theorem setLink_code (c : LinkCode) (s : State) : (setLink c s).link.code = c := by
  unfold setLink
  dsimp only
  by_cases same : s.link.code = c
  · rw [if_pos same]
    exact same
  · rw [if_neg same]
    split_ifs <;> rfl

/-- The link, the oscillators, the displays and the records aside, the state is as it was. -/
structure OuterStep (s t : State) : Prop where
  chip : t.chip = s.chip
  dict : t.dict = s.dict
  engine : t.engine = s.engine
  spineOn : t.clocks.spineOn = s.clocks.spineOn

theorem OuterStep.refl (s : State) : OuterStep s s := ⟨rfl, rfl, rfl, rfl⟩

theorem OuterStep.trans {s t u : State} (a : OuterStep s t) (b : OuterStep t u) : OuterStep s u :=
  ⟨b.chip.trans a.chip, b.dict.trans a.dict, b.engine.trans a.engine, b.spineOn.trans a.spineOn⟩

theorem OuterStep.ite {c : Prop} [Decidable c] {s a b : State} (ha : OuterStep s a) (hb : OuterStep s b) :
    OuterStep s (if c then a else b) := by
  split <;> assumption

theorem setLink_outer (c : LinkCode) (s : State) : OuterStep s (setLink c s) := by
  rw [setLink_only]
  exact ⟨rfl, rfl, rfl, rfl⟩

theorem displayWatch_outer (s : State) : OuterStep s (displayWatch s) := by
  rw [displayWatch_only]
  exact ⟨rfl, rfl, rfl, rfl⟩

theorem setOsc_outer (k : Nat) (o : Osc) (cause : Nat) (s : State) : OuterStep s (setOsc k o cause s) := by
  rw [setOsc_only]
  exact ⟨rfl, rfl, rfl, rfl⟩

theorem stopOsc_outer (k : Nat) (s : State) : OuterStep s (stopOsc k s) := setOsc_outer ..

theorem startOsc_outer (k : Nat) (s : State) : OuterStep s (startOsc k s) := .ite (.refl s) (setOsc_outer ..)

theorem displayWatch_link (s : State) : (displayWatch s).link = s.link := by
  rw [displayWatch_only]

/-! ### An engine without work, whatever the chip wants -/

/-- No frame runs or waits, and no subscription is due. -/
structure Workless (s : State) : Prop where
  running : s.engine.running = none
  frames : s.engine.frames = []
  noSub : s.engine.subs.all (fun x => !x.due) = true

theorem pump_workless {s : State} (h : Workless s) : pump s = s := by
  have stuck : pumpStep s = none := by
    simp only [pumpStep, nextFrame, h.frames, h.running, List.find?_nil, ite_self, Option.map_none]
  have step (n : Nat) : pumpTimes n s = s := by
    cases n with
    | zero => rfl
    | succ n => simp only [pumpTimes, stuck]
  exact step _

theorem subAt_workless {s : State} (h : Workless s) (k : Nat) (hk : k < 8) : (subAt s k).due = false := by
  have := Vector.all_eq_true.1 h.noSub k hk
  simpa [subAt, Vector.getD, hk] using this

theorem streamPass_workless {s : State} (h : Workless s) : streamPass s = s := by
  refine List.foldlRecOn (motive := (· = s)) (List.range 8) _ rfl fun t same k hk => ?_
  subst same
  rw [subAt_workless h k (List.mem_range.1 hk), Bool.and_false, Bool.false_and, Bool.false_and, if_neg Bool.false_ne_true]

theorem resetAfter_none {s : State} (h : s.engine.afterReply = none) : resetAfter s = s := by
  unfold resetAfter
  rw [h]

/-! ### The STANDBY command -/

theorem pods_any (f : Pod → Bool) (s : State) : s.pods.toList.any f = true ↔ ∃ p, p < 64 ∧ f (podAt s p) = true := by
  rw [List.any_eq_true]
  constructor
  · rintro ⟨d, hd, fd⟩
    obtain ⟨p, hp, rfl⟩ := Vector.mem_iff_getElem.1 (Vector.mem_toList_iff.1 hd)
    exact ⟨p, hp, by simpa [podAt, Vector.getD, hp] using fd⟩
  · rintro ⟨p, hp, fp⟩
    exact ⟨podAt s p, by simp [podAt, Vector.getD, hp], fp⟩

/-- Some Pod is neither STOPPED nor in DOZE. -/
def somePodRuns (s : State) : Prop := ∃ p, p < 64 ∧ (podAt s p).mode ≠ .stopped ∧ (podAt s p).mode ≠ .doze

theorem somePodRuns_iff (s : State) :
    s.pods.toList.any (fun d => d.mode != .stopped && d.mode != .doze) = true ↔ somePodRuns s := by
  rw [pods_any]
  simp only [Bool.and_eq_true, bne_iff_ne, somePodRuns]

theorem not_somePodRuns {s : State} (h : ∀ p, p < 64 → (podAt s p).mode = .stopped ∨ (podAt s p).mode = .doze) : ¬ somePodRuns s :=
  fun ⟨p, hp, notStopped, notDozing⟩ => (h p hp).elim notStopped notDozing

/-- R30: while a Pod runs the command is refused. -/
theorem standbyCommand_podRuns {s : State} (h : somePodRuns s) : standbyCommand s = (stNeedsStop, chipCommand 1 0 3 s) :=
  if_pos ((somePodRuns_iff s).2 h)

theorem standbyCommand_linkBusy {s : State} (h : ¬ somePodRuns s) (link : s.link.code = .coordinator ∨ s.link.code = .silent) :
    standbyCommand s = (stWrongState, chipCommand 1 0 3 s) := by
  unfold standbyCommand
  rw [if_neg (mt (somePodRuns_iff s).1 h), if_pos link]

/-- What an accepted STANDBY command leaves, before its outcome goes out. -/
def standbyAsked (s : State) : State := chipCommand 1 0 1 { s with chip := { s.chip with standbyWanted := true } }

theorem standbyCommand_accepted {s : State} (h : ¬ somePodRuns s) (link : ¬ (s.link.code = .coordinator ∨ s.link.code = .silent)) :
    standbyCommand s = (stOk, standbyAsked s) := by
  unfold standbyCommand
  rw [if_neg (mt (somePodRuns_iff s).1 h), if_neg link]
  rfl

theorem commandWrite_standby {who : Who} {s : State} (high : 1 ≤ who.level.val) :
    commandWrite who devCommandPlace 1 true s = answered (standbyCommand s).1 (standbyCommand s).2 := by
  have wait (st : Nat) (t : State) : commandWait devCommandPlace 1 st t = none := by simp [commandWait, devCommandPlace]
  unfold devCommandPlace at wait ⊢
  simp [commandWrite, commandLevel, Nat.not_lt.2 high, Place.unreachable, Place.laneServed, laneOf, devCommand, wait]

theorem doItem_standby {who : Who} (high : 1 ≤ who.level.val) (s : State) :
    doItem who (.write 0x2600 0 4 4 (1 + 0 % 256 * 65536)) s = answered (standbyCommand s).1 (standbyCommand s).2 :=
  (commandAt_dev.doItem high _ s).trans (commandWrite_standby high)

theorem rowCommand_standby_refused {who : Who} {s : State} {st : Nat} (h : EngineFree s) (high : 1 ≤ who.level.val)
    (e : standbyCommand s = (st, chipCommand 1 0 3 s)) : rowCommand who 0x2600 1 0 s = withLast st (chipCommand 1 0 3 s) := by
  have item : doItem who (.write 0x2600 0 4 4 (1 + 0 % 256 * 65536)) s = (.now (statusReply st), chipCommand 1 0 3 s) := by
    rw [doItem_standby high, e, answered]
  rw [commandAt_dev.rowCommand]
  exact rowRun_answers h item rfl rfl

/-! ### The way into STANDBY -/

/-- An engine that serves and has no work goes into STANDBY when the chip wants it and no reply waits on the link. -/
theorem settle_standby {s : State} (serves : serving s = true) (work : Workless s) (wanted : s.chip.standbyWanted = true)
    (idle : s.shell.run = none) (active : s.chip.state = .active) (sent : s.link.queue.any (·.cls == 3) = false) :
    settle s = enterStandby s := by
  unfold settle
  rw [if_pos serves, pump_workless work, streamPass_workless work]
  have gate : standbyGate s = standbyCheck s := if_pos (by simp only [wanted, work.running, work.frames, sent]; rfl)
  have check : standbyCheck s = enterStandby s := if_pos (by simp only [wanted, idle, active]; rfl)
  rw [gate, check]

theorem rowCommand_standby_accepted {who : Who} {s : State} (h : EngineFree s) (high : 1 ≤ who.level.val)
    (e : standbyCommand s = (stOk, standbyAsked s)) (sent : s.link.queue.any (·.cls == 3) = false) :
    rowCommand who 0x2600 1 0 s = enterStandby (withLast stOk (standbyAsked s)) := by
  have ran : runItem who (.write 0x2600 0 4 4 (1 + 0 % 256 * 65536)) s = (.now (statusReply stOk), standbyAsked s) := by
    rw [runItem, if_neg (by simp [h.active]), doItem_standby high, e, answered]
  have ends : rowEnds who (.now (statusReply stOk), standbyAsked s) = withLast stOk (standbyAsked s) := by
    show resetAfter (resetsBegin 0 (withLast stOk (standbyAsked s))) = _
    rw [resetsBegin_none (s := withLast stOk (standbyAsked s)) h.noReset]
    exact resetAfter_none h.afterReply
  rw [commandAt_dev.rowCommand, rowRun, serving_free h, rowFree_free h, ran, ends]
  have serves : serving (withLast stOk (standbyAsked s)) = serving s := rfl
  exact settle_standby (serves.trans (serving_free h)) ⟨h.running, h.frames, h.noSub⟩ rfl h.noStore h.active sent

/-- What STANDBY is reached with: the state, the completion of its command, a closed engine and SPINE off, and no session left. -/
theorem enterStandby_entered (s : State) :
    (enterStandby s).chip.state = .standby ∧ (enterStandby s).chip.command = setCompletion s.chip.command 2 ∧
      (enterStandby s).engine.opened = false ∧ (enterStandby s).engine.last = s.engine.last ∧
      (enterStandby s).link.code = .wakeListen ∧ (enterStandby s).clocks.spineOn = false ∧
      ∀ q, q < 4 → (slotOf (enterStandby s) q).session = none := by
  unfold enterStandby
  lift_lets
  intro s1 chip0 clocks0 time0 engine0 s2
  have outer : OuterStep s2 (displayWatch (setLink .wakeListen (stopOsc 5 (stopOsc 3 (stopOsc 2 s2))))) :=
    (stopOsc_outer ..).trans ((stopOsc_outer ..).trans ((stopOsc_outer ..).trans ((setLink_outer ..).trans (displayWatch_outer _))))
  have sessions (q : Nat) (hq : q < 4) : (slotOf s2 q).session = none := by
    simp [slotOf, s2, Vector.getD, hq]
  obtain ⟨chip, dict, engine, spineOn⟩ := outer
  rw [displayWatch_link, setLink_code, chip, engine, spineOn]
  refine ⟨rfl, rfl, rfl, rfl, rfl, rfl, fun q hq => ?_⟩
  rw [slotOf, engine]
  exact sessions q hq

/-! ### The way out of STANDBY -/

theorem leaveStandby_left (s : State) :
    (leaveStandby s).chip.state = .boot ∧ (leaveStandby s).chip.phases = [0, 1, 2, 3, 4] ∧
      (leaveStandby s).chip.fromStandby = podsHoldEnergy s ∧ (leaveStandby s).link.code = .off ∧ (leaveStandby s).dict = s.dict := by
  unfold leaveStandby
  lift_lets
  intro chip0 time0 clocks0 s1
  have outer : OuterStep (sinceBoot s1) (setLink .off (startOsc 5 (startOsc 3 (startOsc 2 (sinceBoot s1))))) :=
    (startOsc_outer ..).trans ((startOsc_outer ..).trans ((startOsc_outer ..).trans (setLink_outer ..)))
  rw [setLink_code, outer.chip, outer.dict]
  exact ⟨rfl, rfl, rfl, rfl, rfl⟩

theorem linkCount_keeps (k : Nat) (s : State) :
    (linkCount k s).chip = s.chip ∧ (linkCount k s).link.code = s.link.code ∧ (linkCount k s).dict = s.dict := ⟨rfl, rfl, rfl⟩

theorem execWakeActivity_wakes {us : Nat} {s : State} (asleep : s.chip.state = .standby) (listens : s.link.code = .wakeListen)
    (husk : huskRuns s = true) (long : devVal s 0x1106 0 ≤ us) : execWakeActivity us s = .next (linkCount 16 (leaveStandby s)) := by
  unfold execWakeActivity
  rw [if_pos ⟨asleep, listens, long, husk⟩]

theorem setCompletion_standby : setCompletion (commandWord 1 0 1) 2 = commandWord 1 0 2 := by decide

/-- Settles O26: what the command is answered, then the way in, and the way out. -/
theorem standbyIsEnteredAndLeft : Obligations.StandbyIsEnteredAndLeft := by
  unfold Obligations.StandbyIsEnteredAndLeft
  refine ⟨fun who s h high still notCoordinator notSilent sent => ?_, fun who p s h high hp notStopped notDozing => ?_,
    fun who s h high still link => ?_, fun who s h low => congrArg Host.Outcome.next (commandAt_dev.rowCommand_denied h low 1 0),
    fun us s asleep listens husk long => ?_, fun us s short => ?_⟩
  · have accepted := standbyCommand_accepted (not_somePodRuns still) (not_or.2 ⟨notCoordinator, notSilent⟩)
    have unsent : s.link.queue.any (·.cls == 3) = false := by simpa [List.any_eq_false] using sent
    obtain ⟨state, command, opened, last, link, spine, sessions⟩ := enterStandby_entered (withLast stOk (standbyAsked s))
    exact ⟨_, congrArg Host.Outcome.next (rowCommand_standby_accepted h high accepted unsent), state,
      command.trans setCompletion_standby, opened, last, link, spine, sessions⟩
  · exact congrArg Host.Outcome.next (rowCommand_standby_refused h high (standbyCommand_podRuns ⟨p, hp, notStopped, notDozing⟩))
  · exact congrArg Host.Outcome.next (rowCommand_standby_refused h high (standbyCommand_linkBusy (not_somePodRuns still) link))
  · obtain ⟨chip, link, dict⟩ := linkCount_keeps 16 (leaveStandby s)
    refine ⟨_, execWakeActivity_wakes asleep listens husk long, ?_⟩
    dsimp only
    rw [chip, link, dict]
    exact leaveStandby_left s
  · exact congrArg Host.Outcome.next (if_neg fun c => absurd c.2.2.1 (Nat.not_le.2 short))

end Sys2Proof.Laws
end

section
/-! HOLD, ended by the trunk voltage or by its reserve (R29, R132, R134, R137). -/

namespace Sys2Proof.Laws

open Sys2Proof.Machine

/-! ### A chip reset reaches BOOT and keeps its cause -/

theorem OuterStep.foldl {α : Type} {f : State → α → State} (step : ∀ s a, OuterStep s (f s a)) (l : List α) (s : State) :
    OuterStep s (l.foldl f s) := by
  induction l generalizing s with
  | nil => exact .refl s
  | cons a as ih => exact (step s a).trans (ih (f s a))

theorem restartOsc_outer (k : Nat) (s : State) : OuterStep s (restartOsc k s) := .ite (.refl s) (setOsc_outer ..)

theorem startSources_outer (s : State) : OuterStep s (startSources s) :=
  .ite (.foldl (fun s k => restartOsc_outer k s) _ s) (.foldl (fun s k => startOsc_outer k s) _ s)

theorem backstopHistory_outer (s : State) : OuterStep s (backstopHistory s) := by
  unfold backstopHistory
  cases s.guard.backstopEntry with
  | none => exact .refl s
  | some entry => exact ⟨rfl, rfl, rfl, rfl⟩

/-- The chip is in BOOT from its first phases on, for the reason it had. -/
structure Booting (s t : State) : Prop where
  state : t.chip.state = .boot
  phases : t.chip.phases = [0, 1]
  causeKind : t.chip.causeKind = s.chip.causeKind

theorem Booting.outer {s t u : State} (b : Booting s t) (o : OuterStep t u) : Booting s u :=
  ⟨by rw [o.chip]; exact b.state, by rw [o.chip]; exact b.phases, by rw [o.chip]; exact b.causeKind⟩

theorem bootStart_booting (straps : Straps) (s : State) : Booting s (bootStart straps s) := by
  unfold bootStart
  dsimp only
  generalize hu : sinceBoot _ = u
  refine Booting.outer ?_ (startSources_outer u)
  rw [← hu]
  exact ⟨rfl, rfl, rfl⟩

theorem bootStart_dict (straps : Straps) (s : State) : (bootStart straps s).dict = s.dict := by
  unfold bootStart
  dsimp only
  rw [(startSources_outer _).dict]
  rfl

theorem internalReset_booting (straps : Straps) (s : State) : Booting s (internalReset straps s) := by
  unfold internalReset
  dsimp only
  refine Booting.outer ⟨(bootStart_booting straps _).state, (bootStart_booting straps _).phases, ?_⟩ (backstopHistory_outer _)
  exact (bootStart_booting straps _).causeKind

theorem internalReset_staged (straps : Straps) (s : State) : (internalReset straps s).dict.staged = [] := by
  unfold internalReset
  dsimp only
  rw [(backstopHistory_outer _).dict, bootStart_dict]

theorem engineStops_chip (s : State) : (engineStops s).chip = s.chip := by
  unfold engineStops
  exact (setLink_outer ..).chip

theorem chipResetExits_chip (s : State) : (chipResetExits s).chip = s.chip := by
  unfold chipResetExits
  refine List.foldlRecOn (motive := fun t : State => t.chip = s.chip) allInsts _ rfl fun t same cp _ => ?_
  dsimp only
  by_cases empty : (instAt t (instIndex cp.1 cp.2)).occs.isEmpty = true
  · rw [if_pos empty]
    exact same
  · rw [if_neg empty, histAdd_chip]
    exact same

theorem resetRecord_causeKind (kind : ResetKind) (s : State) : (resetRecord kind s).chip.causeKind = kind.code := by
  unfold resetRecord
  rw [logAdd_chip]

/-! ### The end of HOLD -/

/-- The reset of R134. -/
def holdRestarted (mv : Nat) (straps : Straps) (s : State) : State :=
  let s1 := engineStops (chipResetExits (resetRecord .holdRestart s))
  internalReset straps { s1 with power := { s1.power with level := mv, onHold := false, warning := false } }

theorem holdRestarted_boots (mv : Nat) (straps : Straps) (s : State) :
    (holdRestarted mv straps s).chip.state = .boot ∧ (holdRestarted mv straps s).chip.phases = [0, 1] ∧
      (holdRestarted mv straps s).chip.causeKind = 2 ∧ (holdRestarted mv straps s).dict.staged = [] := by
  unfold holdRestarted
  dsimp only
  have booting := internalReset_booting straps
  rw [(booting _).state, (booting _).phases, (booting _).causeKind, internalReset_staged]
  dsimp only
  rw [engineStops_chip, chipResetExits_chip, resetRecord_causeKind]
  exact ⟨rfl, rfl, rfl, rfl⟩

/-- Nothing that HOLD has begun still runs (R133, R134). -/
def holdEnded (s : State) : Prop :=
  s.chip.state = .hold ∧ stepThreeBegun s = true ∧ s.shell.run.isNone = true ∧ s.panel.paneDone = true ∧ s.panel.stripDone = true

theorem execHoldEnd_low {mv : Nat} {s : State} (straps : Straps) (ended : holdEnded s) (low : mv < 17000) :
    execHoldEnd mv straps s = .next (goUnpowered { s with power := { s.power with level := mv } }) :=
  congrArg Host.Outcome.next ((if_pos ended).trans (if_pos low))

theorem execHoldEnd_back {mv : Nat} {s : State} (straps : Straps) (ended : holdEnded s) (back : 17000 ≤ mv) :
    execHoldEnd mv straps s = .next (holdRestarted mv straps s) :=
  congrArg Host.Outcome.next ((if_pos ended).trans (if_neg (Nat.not_lt.2 back)))

theorem execHoldEnd_early {mv : Nat} {s : State} (straps : Straps) (going : ¬ holdEnded s) : execHoldEnd mv straps s = .next s :=
  congrArg Host.Outcome.next (if_neg going)

/-- An exhausted reserve takes the chip out of power, whatever the STORE and the snapshot left. -/
theorem execReserveExhausted_spent {vhold : Nat} {s : State} (hold : s.chip.state = .hold) (spent : vhold ≤ 7200) :
    ∃ u, execReserveExhausted vhold s = .next (goUnpowered u) := ⟨_, congrArg Host.Outcome.next (if_pos ⟨hold, spent⟩)⟩

theorem goUnpowered_down (s : State) :
    (goUnpowered s).chip.state = .unpowered ∧ (goUnpowered s).power.rails = 0 ∧ (goUnpowered s).shell.run = none ∧
      (goUnpowered s).shell.queue = [] := ⟨rfl, rfl, rfl, rfl⟩

/-- Settles O11: the end of HOLD by the voltage, and the collapse of the rails. -/
theorem holdEndsOrFails : Obligations.HoldEndsOrFails := by
  unfold Obligations.HoldEndsOrFails
  refine ⟨fun mv straps s hold begun noStore pane strip low => ?_, fun mv straps s hold begun noStore pane strip back => ?_,
    fun mv straps s going => ?_, fun vhold s hold spent => ?_, fun vhold s left => ?_⟩
  · have ended : holdEnded s := ⟨hold, begun, by rw [noStore]; rfl, pane, strip⟩
    exact ⟨_, execHoldEnd_low straps ended low, rfl, rfl, rfl, rfl, rfl⟩
  · have ended : holdEnded s := ⟨hold, begun, by rw [noStore]; rfl, pane, strip⟩
    exact ⟨_, execHoldEnd_back straps ended back, holdRestarted_boots mv straps s⟩
  · refine execHoldEnd_early straps ?_
    rintro ⟨hold, begun, noStore, pane, strip⟩
    rw [pane, strip, begun, Option.isSome_eq_false_iff.2 noStore] at going
    simp [hold] at going
  · obtain ⟨u, down⟩ := execReserveExhausted_spent hold spent
    exact ⟨_, down, goUnpowered_down u⟩
  · exact congrArg Host.Outcome.next (if_neg fun c => absurd c.2 (Nat.not_le.2 left))

end Sys2Proof.Laws
end

section
/-! An item that reads or writes one object, check by check (R55, R68, R94, R97, R725). -/

namespace Sys2Proof.Laws

open Sys2Proof.Machine

/-! ### Accesses to gated objects and over the lane -/

theorem gatedAccess_only (who : Who) (index sub op : Nat) (x : Place) (s : State) :
    gatedAccess who index sub op x s = { s with obs := (gatedAccess who index sub op x s).obs } := by
  unfold gatedAccess
  cases gatedBit s x with
  | none => rfl
  | some k => exact traceAdd_only ..

theorem gatedAccess_open {x : Place} {s : State} (ungated : gatedBit s x = none) (who : Who) (index sub op : Nat) :
    gatedAccess who index sub op x s = s := by
  unfold gatedAccess
  rw [ungated]

theorem gatedBit_gateOn {x : Place} {k : Nat} {s : State} (gate : x.obj.gate = some k) (device : x.pod = none) (on : gateOn s k = true) :
    gatedBit s x = none := by
  unfold gatedBit blockOpen
  rw [gate, device]
  exact if_pos on

theorem laneOf_keeps (x : Place) (s : State) :
    (laneOf x s).engine = s.engine ∧ (laneOf x s).chip = s.chip ∧ (laneOf x s).dict = s.dict := by
  unfold laneOf
  cases x.pod with
  | none => exact ⟨rfl, rfl, rfl⟩
  | some p => dsimp only; split_ifs <;> exact ⟨rfl, rfl, rfl⟩

/-- An item that only counts its access to a gated object, and is answered at once. -/
theorem rowRun_gated {who : Who} {it : Item} {st index sub op : Nat} {x : Place} {s : State} (h : EngineFree s)
    (e : doItem who it s = answered st (gatedAccess who index sub op x s)) :
    rowRun who it s = withLast st (gatedAccess who index sub op x s) :=
  rowRun_answers h e (by rw [gatedAccess_only]) (by rw [gatedAccess_only])

/-! ### WRITE -/

/-- A value at a sub-index of an object that can be written, with its type and its write level. -/
structure WritableAt (index sub : Nat) (x : Place) (t : Ty) (level : Nat) : Prop where
  found : findPlace index = some x
  ty : x.obj.tyAt sub = some t
  level : x.obj.write = some level
  element : x.obj.isSimple = true ∨ sub ≠ 0

theorem writeItem_noObject {index : Nat} (missing : findPlace index = none) (who : Who) (sub code len v : Nat) (s : State) :
    writeItem who true index sub code len v s = answered stNoObject s := by
  unfold writeItem
  rw [missing]

theorem writeItem_readOnly {index sub : Nat} {x : Place} {t : Ty} (found : findPlace index = some x) (ty : x.obj.tyAt sub = some t)
    (fixed : x.obj.write = none) (who : Who) (code len v : Nat) (s : State) :
    writeItem who true index sub code len v s = answered stReadOnly (gatedAccess who index sub 2 x s) := by
  unfold writeItem
  simp only [found, ty, fixed]

section
variable {index sub level : Nat} {x : Place} {t : Ty} {who : Who}

theorem WritableAt.denied (w : WritableAt index sub x t level) (low : who.level.val < level) (code len v : Nat) (s : State) :
    writeItem who true index sub code len v s = answered stDenied (gatedAccess who index sub 2 x s) := by
  have element : ¬ (x.obj.isSimple = false ∧ sub = 0) := fun c => w.element.elim (by simp [c.1]) (· c.2)
  unfold writeItem
  simp only [w.found, w.ty, w.level, if_neg element, if_pos low]

/-- Past the level, the type decides. -/
theorem WritableAt.typed (w : WritableAt index sub x t level) (high : level ≤ who.level.val) (code len v : Nat) (s : State) :
    writeItem who true index sub code len v s =
      if code ≠ t.code ∨ len ≠ t.size then answered stBadType (gatedAccess who index sub 2 x s)
      else if x.isCommand then commandWrite who x (v % 256 ^ len) true (gatedAccess who index sub 2 x s)
      else valueWrite x t sub (v % 256 ^ len) (gatedAccess who index sub 2 x s) := by
  have element : ¬ (x.obj.isSimple = false ∧ sub = 0) := fun c => w.element.elim (by simp [c.1]) (· c.2)
  unfold writeItem
  simp only [w.found, w.ty, w.level, if_neg element, if_neg (Nat.not_lt.2 high)]

theorem WritableAt.badType (w : WritableAt index sub x t level) (high : level ≤ who.level.val) {code len : Nat}
    (wrong : code ≠ t.code ∨ len ≠ t.size) (v : Nat) (s : State) :
    writeItem who true index sub code len v s = answered stBadType (gatedAccess who index sub 2 x s) := by
  rw [w.typed high, if_pos wrong]

theorem WritableAt.value (w : WritableAt index sub x t level) (high : level ≤ who.level.val) (plain : x.isCommand = false) (v : Nat)
    (s : State) :
    writeItem who true index sub t.code t.size v s = valueWrite x t sub (v % 256 ^ t.size) (gatedAccess who index sub 2 x s) := by
  rw [w.typed high, if_neg (by simp), plain]
  exact if_neg Bool.false_ne_true

/-- A value of the object's own type is what the row of an item writes. -/
theorem WritableAt.rowWrite (w : WritableAt index sub x t level) (who : Who) (v : Nat) (s : State) :
    rowWrite who index sub v s = rowRun who (.write index sub t.code t.size v) s := by
  unfold Machine.rowWrite
  simp only [w.found, w.ty]

end

theorem laneOf_device {x : Place} (device : x.pod = none) (s : State) : laneOf x s = s := by
  unfold laneOf
  rw [device]

/-- A device-level value passes its checks or is BAD_VALUE: no lane and no seal stands before them. -/
theorem valueWrite_device {x : Place} (device : x.pod = none) (t : Ty) (sub v : Nat) (s : State) :
    valueWrite x t sub v s =
      if devValueOk s x.obj t sub (maskReserved false x.obj.index v) = true then deviceWrite x.obj sub (maskReserved false x.obj.index v) s
      else answered stBadValue s := by
  have reached : x.unreachable s = false := by simp [Place.unreachable, Place.laneServed, device]
  unfold valueWrite
  simp only [reached, laneOf_device device, device, Option.isSome_none, Bool.false_eq_true, if_false]
  cases devValueOk s x.obj t sub (maskReserved false x.obj.index v) <;> rfl

/-- What a check reads of the device is no part of the records. -/
theorem devValueOk_gatedAccess (who : Who) (index sub op : Nat) (x : Place) (s : State) (o : Obj) (t : Ty) (k v : Nat) :
    devValueOk (gatedAccess who index sub op x s) o t k v = devValueOk s o t k v := by
  rw [gatedAccess_only]
  rfl

/-! ### READ and READ-STAGED -/

theorem readItem_noObject {index : Nat} (missing : findPlace index = none) (who : Who) (staged : Bool) (sub : Nat) (s : State) :
    readItem who staged index sub s = answered stNoObject s := by
  unfold readItem
  rw [missing]

/-- An element that a requester may read now: its level and its window allow it, its block runs and its Pod answers. -/
structure ReadableAt (who : Who) (index sub : Nat) (x : Place) (code size : Nat) (s : State) : Prop where
  found : findPlace index = some x
  type : readType x.obj sub = some (code, size)
  level : x.obj.read ≤ who.level.val
  window : windowDenied who x sub s = false
  ungated : gatedBit s x = none
  reached : x.unreachable s = false

/-- Such a read is answered at once where no snapshot of the filters is asked for. -/
theorem ReadableAt.answers {who : Who} {index sub code size : Nat} {x : Place} {s : State} (r : ReadableAt who index sub x code size s)
    (staged : Bool) (now : snapshotWait x sub s = none) :
    readItem who staged index sub s = (.now ⟨stOk, code, readOctets s x staged sub⟩, laneOf x s) := by
  unfold readItem
  simp only [r.found, r.type, Nat.not_lt.2 r.level, r.window, r.ungated, r.reached, now, Option.isSome_none, Bool.false_eq_true, or_self,
    if_false]

theorem ReadableAt.waits {who : Who} {index sub code size : Nat} {x : Place} {s : State} (r : ReadableAt who index sub x code size s)
    (staged : Bool) {w : Waiting} (later : snapshotWait x sub s = some w) : readItem who staged index sub s = (.waits w, laneOf x s) := by
  unfold readItem
  simp only [r.found, r.type, Nat.not_lt.2 r.level, r.window, r.ungated, r.reached, later, Option.isSome_none, Bool.false_eq_true, or_self,
    if_false]

theorem readItem_denied {who : Who} {index sub : Nat} {x : Place} (found : findPlace index = some x)
    (typed : (readType x.obj sub).isSome = true) (low : who.level.val < x.obj.read) (s : State) :
    readItem who true index sub s = answered stDenied (gatedAccess who index sub 3 x s) := by
  obtain ⟨⟨code, size⟩, type⟩ := Option.isSome_iff_exists.1 typed
  unfold readItem
  simp only [found, type, low, true_or, if_true]

theorem ReadableAt.rowRun {who : Who} {index sub code size : Nat} {x : Place} {s : State} (r : ReadableAt who index sub x code size s)
    (h : EngineFree s) {staged : Bool} {it : Item} (item : doItem who it s = readItem who staged index sub s)
    (now : snapshotWait x sub s = none) :
    Machine.rowRun who it s =
      (let t := laneOf x s
       { t with engine := { t.engine with last := ⟨stOk, code, readOctets s x staged sub⟩ } }) := by
  obtain ⟨engine, chip, -⟩ := laneOf_keeps x s
  exact rowRun_now h (item.trans (r.answers staged now))
    ⟨by rw [engine]; exact h.running, by rw [engine]; exact h.frames, by rw [chip]; exact h.standby, by rw [engine]; exact h.noSub⟩
    ⟨by rw [engine]; exact h.afterReply, by rw [engine]; exact h.noReset⟩

end Sys2Proof.Laws
end

section
/-! The device objects that take effect as they are written (R58, R116, R117, R657). -/

namespace Sys2Proof.Laws

open Sys2Proof.Machine

/-- A value of a device-level object that is no command. -/
structure DeviceValue (index sub : Nat) (x : Place) (t : Ty) (level : Nat) : Prop extends WritableAt index sub x t level where
  device : x.pod = none
  plain : x.isCommand = false

section
variable {index sub level : Nat} {x : Place} {t : Ty} {who : Who} {s : State}

theorem DeviceValue.rowWrite_denied (w : DeviceValue index sub x t level) (h : EngineFree s) (low : who.level.val < level)
    (ungated : gatedBit s x = none) (v : Nat) : rowWrite who index sub v s = withLast stDenied s := by
  rw [w.rowWrite]
  have item : doItem who (.write index sub t.code t.size v) s = answered stDenied s :=
    (w.denied low t.code t.size v s).trans (by rw [gatedAccess_open ungated])
  exact rowRun_answers h item rfl rfl

/-- The item of a value that its type holds, past its level and its gate. -/
theorem DeviceValue.item (w : DeviceValue index sub x t level) (high : level ≤ who.level.val) (ungated : gatedBit s x = none) {v : Nat}
    (fits : v < 256 ^ t.size) :
    doItem who (.write index sub t.code t.size v) s =
      if devValueOk s x.obj t sub (maskReserved false x.obj.index v) = true then deviceWrite x.obj sub (maskReserved false x.obj.index v) s
      else answered stBadValue s := by
  have value := w.value high w.plain v s
  rw [Nat.mod_eq_of_lt fits, gatedAccess_open ungated, valueWrite_device w.device] at value
  exact value

theorem DeviceValue.rowWrite_ok (w : DeviceValue index sub x t level) (h : EngineFree s) (high : level ≤ who.level.val)
    (ungated : gatedBit s x = none) {v : Nat} (fits : v < 256 ^ t.size)
    (ok : devValueOk s x.obj t sub (maskReserved false x.obj.index v) = true) {u : State}
    (effect : deviceWrite x.obj sub (maskReserved false x.obj.index v) s = answered stOk u) (engine : u.engine = s.engine)
    (chip : u.chip = s.chip) : rowWrite who index sub v s = withLast stOk u := by
  rw [w.rowWrite]
  refine rowRun_answers h ?_ engine (by rw [chip])
  rw [w.item high ungated fits, if_pos ok, effect]
  rfl

theorem DeviceValue.rowWrite_badValue (w : DeviceValue index sub x t level) (h : EngineFree s) (high : level ≤ who.level.val)
    (ungated : gatedBit s x = none) {v : Nat} (fits : v < 256 ^ t.size)
    (bad : devValueOk s x.obj t sub (maskReserved false x.obj.index v) = false) : rowWrite who index sub v s = withLast stBadValue s := by
  rw [w.rowWrite]
  refine rowRun_answers h ?_ rfl rfl
  rw [w.item high ungated fits, bad]
  rfl

end

/-! ### The rows -/

/-- `Pwr.PodRank`. -/
def podRankPlace : Place := ⟨none, ⟨0x2010, .array 64 .u8, 1, some 2, .hot, .each 0x80, .any, none, false, false, false⟩⟩

/-- `Pwr.DimFloor`. -/
def dimFloorPlace : Place := ⟨none, ⟨0x2011, .simple .u8, 1, some 2, .hot, .each 0, .any, none, false, false, false⟩⟩

/-- The key object of a level, from OPERATOR at 1 on, with its read and write level. -/
def keyPlace (n level : Nat) : Place :=
  ⟨none, ⟨0x120F + n, .simple (.octs 16), level, some level, .hot, .each 0, .any, none, false, false, false⟩⟩

/-- `Obs.TraceSelect`. -/
def traceSelectPlace : Place := ⟨none, ⟨0x8100, .simple .bits32, 1, some 2, .hot, .each 0, .any, some 2, false, false, false⟩⟩

theorem podRank_value {sub : Nat} (low : 1 ≤ sub) (high : sub ≤ 64) : DeviceValue 0x2010 sub podRankPlace .u8 2 where
  found := rfl
  ty := by
    unfold Obj.tyAt podRankPlace
    exact (if_neg (by omega)).trans (if_pos high)
  level := rfl
  element := .inr (by omega)
  device := rfl
  plain := rfl

theorem dimFloor_value : DeviceValue 0x2011 0 dimFloorPlace .u8 2 := ⟨⟨rfl, rfl, rfl, .inl rfl⟩, rfl, rfl⟩

theorem keyOperator_value : DeviceValue 0x1210 0 (keyPlace 1 2) (.octs 16) 2 := ⟨⟨rfl, rfl, rfl, .inl rfl⟩, rfl, rfl⟩

theorem keyInstaller_value : DeviceValue 0x1211 0 (keyPlace 2 2) (.octs 16) 2 := ⟨⟨rfl, rfl, rfl, .inl rfl⟩, rfl, rfl⟩

theorem keyMetrologist_value : DeviceValue 0x1212 0 (keyPlace 3 3) (.octs 16) 3 := ⟨⟨rfl, rfl, rfl, .inl rfl⟩, rfl, rfl⟩

theorem traceSelect_value : DeviceValue 0x8100 0 traceSelectPlace .bits32 2 := ⟨⟨rfl, rfl, rfl, .inl rfl⟩, rfl, rfl⟩

theorem traceSelect_check (s : State) (v : Nat) :
    devValueOk s traceSelectPlace.obj .bits32 0 v = (v % 2 == 0 && decide (v < 512)) := rfl

theorem devVal_setDev {s : State} (wf : storeWf deviceDefault s.dict.values = true) (index sub v : Nat) :
    devVal (setDev index sub v s) index sub = v := by
  unfold devVal setDev
  rw [storeGet_put wf, if_pos rfl]

/-- Settles O51: ranks and the dim floor, the levels that they and the keys need, the trace selection, and the value read back. -/
theorem deviceObjectsAreWritten : Obligations.DeviceObjectsAreWritten := by
  unfold Obligations.DeviceObjectsAreWritten
  refine ⟨fun who v s h high fits => ⟨fun sub first last => ?_, ?_⟩, fun who v s h low => ⟨?_, ?_⟩,
    fun who v s h fits => ⟨fun high => ⟨?_, ?_⟩, fun top => ?_, fun low => ⟨?_, ?_⟩, fun low => ?_⟩,
    fun who v s h high on => ⟨fun even small => ?_, fun wrong fits => ?_⟩, fun index sub v s wf => devVal_setDev wf index sub v⟩
  · exact congrArg Host.Outcome.next ((podRank_value first last).rowWrite_ok h high rfl fits rfl rfl rfl rfl)
  · exact congrArg Host.Outcome.next (dimFloor_value.rowWrite_ok h high rfl fits rfl rfl rfl rfl)
  · exact congrArg Host.Outcome.next ((podRank_value (by decide) (by decide)).rowWrite_denied h low rfl v)
  · exact congrArg Host.Outcome.next (dimFloor_value.rowWrite_denied h low rfl v)
  · exact congrArg Host.Outcome.next (keyOperator_value.rowWrite_ok h high rfl fits rfl rfl rfl rfl)
  · exact congrArg Host.Outcome.next (keyInstaller_value.rowWrite_ok h high rfl fits rfl rfl rfl rfl)
  · exact congrArg Host.Outcome.next (keyMetrologist_value.rowWrite_ok h (le_of_eq top.symm) rfl fits rfl rfl rfl rfl)
  · exact congrArg Host.Outcome.next (keyOperator_value.rowWrite_denied h low rfl v)
  · exact congrArg Host.Outcome.next (keyInstaller_value.rowWrite_denied h low rfl v)
  · exact congrArg Host.Outcome.next (keyMetrologist_value.rowWrite_denied h low rfl v)
  · have ok : devValueOk s traceSelectPlace.obj .bits32 0 v = true := by rw [traceSelect_check]; simp [even, small]
    have fits : v < 256 ^ Ty.bits32.size := small.trans (by decide)
    exact congrArg Host.Outcome.next (traceSelect_value.rowWrite_ok h high (gatedBit_gateOn rfl rfl on) fits ok rfl rfl rfl)
  · have bad : devValueOk s traceSelectPlace.obj .bits32 0 v = false := by
      rw [traceSelect_check]
      rcases wrong with odd | large
      · simp [odd]
      · simp [Nat.not_lt.2 large]
    exact congrArg Host.Outcome.next (traceSelect_value.rowWrite_badValue h high (gatedBit_gateOn rfl rfl on) fits bad)

end Sys2Proof.Laws
end

section
/-! Items by the checks of a WRITE, the staged copy and the snapshot of the filters (R55, R64, R74, R75, R97, R330, R725). -/

namespace Sys2Proof.Laws

open Sys2Proof.Machine

/-! ### The staged copy -/

theorem stagedGet_stagePut (es : List (Nat × Nat)) (k j v d : Nat) :
    stagedGet (stagePut es k v) j d = if j = k then v else stagedGet es j d := by
  unfold stagedGet stagePut
  rw [List.find?_append, List.find?_filter]
  by_cases same : j = k
  · have gone : es.find? (fun e => decide ((e.1 != k) = true ∧ (e.1 == j) = true)) = none :=
      List.find?_eq_none.2 fun e _ => by simp [same]
    rw [gone, if_pos same]
    simp [same]
  · have kept : (fun e : Nat × Nat => decide ((e.1 != k) = true ∧ (e.1 == j) = true)) = fun e => e.1 == j :=
      funext fun e => by by_cases he : e.1 = j <;> simp [he, same]
    have fresh : [(k, v)].find? (fun e => e.1 == j) = none := List.find?_eq_none.2 fun e he => by
      rw [List.mem_singleton.1 he]
      simpa using Ne.symm same
    rw [kept, fresh, Option.or_none, if_neg same]

/-- A WARM value of the device that passes its check waits in the staged copy. -/
theorem WritableAt.staged {index sub level : Nat} {x : Place} {t : Ty} {who : Who} (w : WritableAt index sub x t level)
    (high : level ≤ who.level.val) (plain : x.isCommand = false) (device : x.pod = none) (warm : x.obj.apply = .warm) (v : Nat) (s : State) :
    writeItem who true index sub t.code t.size v s =
      if devValueOk s x.obj t sub (maskReserved false x.obj.index (v % 256 ^ t.size)) = true then
        answered stOk (stageDev (keyOf x.obj.index sub) (maskReserved false x.obj.index (v % 256 ^ t.size)) (gatedAccess who index sub 2 x s))
      else answered stBadValue (gatedAccess who index sub 2 x s) := by
  rw [w.value high plain, valueWrite_device device, devValueOk_gatedAccess]
  unfold deviceWrite
  rw [warm]

/-! ### Snapshots of the filters -/

/-- `Pod.FilterSnap` of Pod p. -/
def filterSnapPlace (p : Nat) : Place :=
  ⟨some p, ⟨0x47, .record [.i64, .i64, .i64, .i64, .i64, .i64, .i64, .i64, .u32, .i64, .stamp], 1, none, .none, .each 0, .any, none, false,
    false, false⟩⟩

theorem readType_filterSnap (p : Nat) {sub : Nat} (first : 1 ≤ sub) (last : sub ≤ 11) :
    ∃ code size, readType (filterSnapPlace p).obj sub = some (code, size) := by
  have typed : ∃ t, (filterSnapPlace p).obj.tyAt sub = some t := by
    unfold Obj.tyAt filterSnapPlace
    dsimp only
    rw [if_neg (by omega)]
    exact ⟨_, List.getElem?_eq_getElem (show sub - 1 < 11 by omega)⟩
  obtain ⟨t, ty⟩ := typed
  have element : ¬ (sub = 0xFF ∧ (filterSnapPlace p).obj.isSimple = false) := fun c => by omega
  refine ⟨t.code, t.size, ?_⟩
  unfold readType
  rw [if_neg element, ty]
  rfl

theorem filterSnap_readable {p sub : Nat} {who : Who} {s : State} (hp : p < 64) (high : 1 ≤ who.level.val) (first : 1 ≤ sub)
    (last : sub ≤ 11) (answers : laneSilent s p = false) :
    ∃ code size, ReadableAt who (podIndex p 0x47) sub (filterSnapPlace p) code size s := by
  obtain ⟨code, size, type⟩ := readType_filterSnap p first last
  refine ⟨code, size, ?_, type, high, rfl, rfl, ?_⟩
  · rw [findPlace_pod hp (by decide)]
    rfl
  · exact answers

theorem snapshotWait_filterSnap (p : Fin 64) {sub : Nat} (first : 1 ≤ sub) (s : State) :
    snapshotWait (filterSnapPlace p.val) sub s =
      if runsFrames (podAt s p.val) = true then some (.snapshot p ((podAt s p.val).val 0x45 0) sub) else none := by
  have some_ : sub ≠ 0 := by omega
  simp [snapshotWait, filterSnapPlace, p.isLt, some_]

/-- What a completed access leaves in its Pod (R26, R676). -/
def laneNoted (fresh : Nat) (d : Pod) : Pod :=
  { d with
    counters := bump d.counters 17,
    faults := { d.faults with laneRun := 0, laneLongest := max d.faults.laneLongest (min (laneLimit d) (Config.laneMicros fresh)) } }

theorem podAt_laneNoted {p : Nat} (hp : p < 64) (s : State) : podAt (laneDone p s) p = laneNoted s.fresh (podAt s p) :=
  podAt_modPod hp (laneNoted s.fresh) s

theorem laneDone_laneSilent {p : Nat} (hp : p < 64) (s : State) : laneSilent (laneDone p s) p = laneSilent s p := by
  unfold laneSilent
  rw [podAt_laneNoted hp, laneDone_time]
  rfl

/-- A snapshot of a Pod that runs frames, with its lane in order, is still to come. -/
theorem waitDone_snapshot {p : Fin 64} {s : State} (answers : laneSilent s p.val = false) (runs : runsFrames (podAt s p.val) = true)
    (chan sub : Nat) : waitDone (.snapshot p chan sub) s = none := by
  simp [waitDone, answers, runs]

theorem rowRun_snapshot {who : Who} {p : Fin 64} {sub : Nat} {s : State} (h : EngineFree s) (high : 1 ≤ who.level.val) (first : 1 ≤ sub)
    (last : sub ≤ 11) (answers : laneSilent s p.val = false) (runs : runsFrames (podAt s p.val) = true) :
    rowRun who (.read (podIndex p.val 0x47) sub) s = (let t := laneDone p.val s
      { t with engine := { t.engine with
          running := some (rowFrame who []), waiting := some (.snapshot p ((podAt s p.val).val 0x45 0) sub) } }) := by
  obtain ⟨code, size, readable⟩ := filterSnap_readable p.isLt high first last answers
  have later := (snapshotWait_filterSnap p first s).trans (if_pos runs)
  refine rowRun_waits h (readable.waits false later) h.frames h.standby (waitDone_snapshot ?_ ?_ _ sub)
  · exact (laneDone_laneSilent p.isLt s).trans answers
  · exact (laneDone_runsFrames p.isLt s).trans runs

/-- Settles O52: the checks of a WRITE in their order, READ-STAGED, the staged copy, and the snapshot of the filters. -/
theorem itemsAreChecked : Obligations.ItemsAreChecked := by
  unfold Obligations.ItemsAreChecked
  refine ⟨fun who index sub code len v s h =>
      ⟨fun missing => ⟨?_, ?_⟩, fun x t found ty => ⟨fun fixed => ?_, fun level may element => ?_⟩⟩,
    fun who index sub code size x s h found type allowed window ungated reached now => ?_,
    fun who index sub x s h found typed low => ?_, stagedGet_stagePut,
    fun who p sub s h high first last answers => ⟨fun runs => ?_, fun still => ?_⟩⟩
  · exact congrArg Host.Outcome.next (rowRun_answers h (writeItem_noObject missing who sub code len v s) rfl rfl)
  · exact congrArg Host.Outcome.next (rowRun_answers h (readItem_noObject missing who true sub s) rfl rfl)
  · exact congrArg Host.Outcome.next (rowRun_gated h (writeItem_readOnly found ty fixed who code len v s))
  · have w : WritableAt index sub x t level := ⟨found, ty, may, element⟩
    refine ⟨fun low => ?_, fun high wrong => ?_, fun high typeCode length device warm plain => ⟨fun ok => ?_, fun bad => ?_⟩⟩
    · exact congrArg Host.Outcome.next (rowRun_gated h (w.denied low code len v s))
    · exact congrArg Host.Outcome.next (rowRun_gated h (w.badType high wrong v s))
    · subst typeCode length
      refine congrArg Host.Outcome.next (rowRun_answers h ((w.staged high plain device warm v s).trans (if_pos ok)) ?_ ?_) <;>
        rw [gatedAccess_only] <;> rfl
    · subst typeCode length
      have item := (w.staged high plain device warm v s).trans (if_neg (by rw [bad]; exact Bool.false_ne_true))
      exact congrArg Host.Outcome.next (rowRun_gated h item)
  · have readable : ReadableAt who index sub x code size s := ⟨found, type, allowed, window, ungated, reached⟩
    exact congrArg Host.Outcome.next (readable.rowRun h rfl now)
  · exact congrArg Host.Outcome.next (rowRun_gated h (readItem_denied found typed low s))
  · exact congrArg Host.Outcome.next (rowRun_snapshot h high first last answers runs)
  · obtain ⟨code, size, readable⟩ := filterSnap_readable p.isLt high first last answers
    have now := (snapshotWait_filterSnap p first s).trans (if_neg (by rw [still]; exact Bool.false_ne_true))
    obtain ⟨engine, -, dict⟩ := laneOf_keeps (filterSnapPlace p.val) s
    refine ⟨_, congrArg Host.Outcome.next (readable.rowRun (staged := false) h rfl now), rfl, ?_, dict⟩
    exact (congrArg Engine.waiting engine).trans h.waiting

end Sys2Proof.Laws
end

section
/-! A gate whose domain a mux holds low (R92, R175): a write of `Dev.GateEnable` is kept, but the gate stays as it stood. -/

namespace Sys2Proof.Laws

open Sys2Proof.Machine

theorem gateOn_held {s : State} {k m : Nat} (domain : gateMux k = some m) (holds : (muxAt s m).code.holds = true) :
    gateOn s k = bit s.obs.gates k := by
  unfold gateOn
  rw [domain]
  exact if_pos holds

theorem gateWrite_keeps (v : Nat) (s : State) : (gateWrite v s).clocks = s.clocks ∧ (gateWrite v s).obs.gates = s.obs.gates := by
  unfold gateWrite
  dsimp only
  rw [displayWatch_only]
  split_ifs <;> exact ⟨rfl, rfl⟩

theorem gateOn_gateWrite_held {s : State} {k m : Nat} (domain : gateMux k = some m) (holds : (muxAt s m).code.holds = true) (v : Nat) :
    gateOn (gateWrite v s) k = gateOn s k := by
  obtain ⟨clocks, gates⟩ := gateWrite_keeps v s
  have still : (muxAt (gateWrite v s) m).code.holds = true := by
    unfold muxAt
    rw [clocks]
    exact holds
  rw [gateOn_held domain still, gateOn_held domain holds, gates]

/-- The block at reset, but with AMPIX in the middle of a switch that began while the Pane's gate was open. -/
def ampixSwitching : State :=
  { State.reset with clocks := { State.reset.clocks with
      muxes := putAt State.reset.clocks.muxes 3 ⟨.switching, false, false, 0, false, 0⟩ } }

/-- Refutes O49 by its last clause: in `ampixSwitching` a write that closes every gate leaves the Pane's (bit 0) open, since AMPIX holds its
domain low and the write takes effect only when the domain runs again (R175). -/
theorem not_panelWritesTakeEffect : ¬ Obligations.PanelWritesTakeEffect := by
  unfold Obligations.PanelWritesTakeEffect
  rintro ⟨-, -, -, -, readBack⟩
  have closed : gateOn (gateWrite 0 ampixSwitching) 0 = false := readBack 0 0 ampixSwitching (by decide)
  have stays : gateOn (gateWrite 0 ampixSwitching) 0 = gateOn ampixSwitching 0 := gateOn_gateWrite_held (m := 3) rfl (by decide) 0
  have opened : gateOn ampixSwitching 0 = true := by decide
  exact absurd (closed.symm.trans (stays.trans opened)) Bool.false_ne_true

end Sys2Proof.Laws
end

section
/-! COMMIT (R76, R80-R88): the device copy in one step, and a Pod that runs no frames. -/

namespace Sys2Proof.Laws

open Sys2Proof.Machine

/-! ### The device copy -/

theorem dropEnded_outer (k : Nat) (s : State) : OuterStep s (dropEnded k s) := by
  unfold dropEnded
  exact .ite ⟨rfl, rfl, rfl, rfl⟩ ⟨rfl, rfl, rfl, rfl⟩

/-- An entry of Guard's history without an EVENT record stays with Guard and the records. -/
theorem histAdd_outer (c : FaultClass) (p source action flags detail before : Nat) (logged : Bool) (s : State) :
    OuterStep s (histAdd c p source action flags detail before logged false s) := by
  unfold histAdd
  dsimp only
  rw [if_neg Bool.false_ne_true]
  refine .ite ?_ ?_
  · rw [logAdd_only, traceAdd_only]
    exact ⟨rfl, rfl, rfl, rfl⟩
  · rw [traceAdd_only]
    exact ⟨rfl, rfl, rfl, rfl⟩

theorem clearCause_outer (c : FaultClass) (p source : Nat) (s : State) : OuterStep s (clearCause c p source s) := by
  unfold clearCause
  extract_lets k i same _ marked before s1 s2
  have held : OuterStep s marked := ⟨rfl, rfl, rfl, rfl⟩
  have cleared : OuterStep marked s1 := ⟨rfl, rfl, rfl, rfl⟩
  have dropped : OuterStep s s2 := held.trans (cleared.trans (dropEnded_outer ..))
  exact .ite held (.ite held (dropped.trans (histAdd_outer ..)))

theorem linkJoin_outer (s : State) : OuterStep s (linkJoin s) := by
  unfold linkJoin
  exact .ite ((setLink_outer ..).trans (setLink_outer ..)) (setLink_outer ..)

theorem linkApplied_outer (node : Nat) (off : Bool) (s : State) : OuterStep s (linkApplied node off s) := by
  unfold linkApplied
  dsimp only
  have cleared : OuterStep s (if effectiveNode s ≠ 0 then clearCause .link 0 3 s else s) := .ite (clearCause_outer ..) (.refl s)
  exact .ite cleared (.ite (cleared.trans (linkJoin_outer _)) (.ite (cleared.trans (setLink_outer ..)) cleared))

/-- The device copy in effect, with the link as it was. -/
def deviceTaken (s : State) : State :=
  { s with
    dict := { s.dict with values := storePutAll deviceDefault s.dict.values s.dict.staged, staged := [] },
    chip := { s.chip with activeGen := s.chip.stagedGen } }

/-- R87: a device copy with values in it comes into effect whole, and the link follows it. -/
theorem deviceApply_outer {s : State} (staged : s.dict.staged ≠ []) : OuterStep (deviceTaken s) (deviceApply s) := by
  unfold deviceApply
  rw [if_neg (by simpa using staged)]
  exact linkApplied_outer (effectiveNode s) (plcaOff s) (deviceTaken s)

theorem deviceApply_engine (s : State) :
    (deviceApply s).engine = s.engine ∧ (deviceApply s).chip.standbyWanted = s.chip.standbyWanted := by
  by_cases staged : s.dict.staged = []
  · have same : deviceApply s = s := if_pos (by simp [staged])
    rw [same]
    exact ⟨rfl, rfl⟩
  · have outer := deviceApply_outer staged
    rw [outer.engine, outer.chip]
    exact ⟨rfl, rfl⟩

/-! ### The strobe and the end of a COMMIT -/

/-- A COMMIT that has applied the device copy and awaits no Pod yet. -/
def commitBegun (device : Bool) (s : State) : State :=
  let t := if device then deviceApply s else s
  { t with engine := { t.engine with commit := some ⟨0, 0, 0, t.time.elapsed⟩ } }

/-- The strobe has reached every Pod in scope. -/
def strobed (pods : BitVec 64) (s : State) : State := podList.foldl (fun s p => if pods.getLsbD p then strobe p s else s) s

/-- The COMMIT is over, with the Pods that have applied. -/
def committed (applied : Nat) (s : State) : State :=
  { s with
    chip := { s.chip with commitResult := applied, commitCount := wrap32 (s.chip.commitCount + 1) },
    engine := { s.engine with commit := none } }

theorem strobed_eq (pods : BitVec 64) (s : State) :
    strobed pods s = (podList.filter pods.getLsbD).foldl (fun s p => strobe p s) s := List.foldl_filter.symm

theorem strobed_none (s : State) : strobed 0 s = s := by
  have nobody : podList.filter (0 : BitVec 64).getLsbD = [] := List.filter_eq_nil_iff.2 fun p _ => by simp
  rw [strobed_eq, nobody]
  rfl

theorem strobed_one {pods : BitVec 64} {p : Fin 64} (one : ∀ q, pods.getLsbD q = decide (q = p.val)) (s : State) :
    strobed pods s = strobe p.val s := by
  have only : podList.filter pods.getLsbD = [p.val] := by
    have same : pods.getLsbD = (· == p.val) := funext fun q => by rw [one q]; rfl
    have once : podList.count p.val = 1 := List.count_eq_one_of_mem List.nodup_range (List.mem_range.2 p.isLt)
    rw [same, List.filter_beq, once]
    rfl
  rw [strobed_eq, only]
  rfl

/-- R88: a COMMIT that every Pod in scope has answered. -/
theorem commitEnds_answered {s : State} {c : CommitRun} (run : s.engine.commit = some c) (answered : c.waiting = 0) :
    commitEnds s = (⟨if c.missed = 0 then stOk else stCommitPartial, 5, beOctets 8 c.applied⟩, committed c.applied s) := by
  have fold : podList.foldl (fun s p => if bit c.waiting p then strobeMissed p s else s) s = s :=
    List.foldlRecOn (motive := (· = s)) podList _ rfl fun t same p _ => by
      rw [answered, bit, Nat.zero_testBit]
      exact same
  unfold commitEnds
  rw [run]
  dsimp only
  rw [fold, run]
  rfl

theorem commitItem_denied {who : Who} {device : Bool} {pods : BitVec 64} {s : State} (low : who.level.val < scopeLevel device pods s) :
    commitItem who device pods s = answered stDenied s := if_pos low

theorem commitItem_answered {who : Who} {device : Bool} {pods : BitVec 64} {s : State} {c : CommitRun}
    (high : scopeLevel device pods s ≤ who.level.val) (run : (strobed pods (commitBegun device s)).engine.commit = some c)
    (waiting : c.waiting = 0) (missed : c.missed = 0) :
    commitItem who device pods s =
      (.now ⟨stOk, 5, beOctets 8 c.applied⟩, committed c.applied (strobed pods (commitBegun device s))) := by
  have ends := commitEnds_answered run waiting
  rw [if_pos missed] at ends
  unfold commitItem
  rw [if_neg (Nat.not_lt.2 high)]
  show (if ((strobed pods (commitBegun device s)).engine.commit.map (·.waiting)).getD 0 = 0 then
      (Done.now (commitEnds (strobed pods (commitBegun device s))).1, (commitEnds (strobed pods (commitBegun device s))).2)
    else (Done.waits .commit, strobed pods (commitBegun device s))) = _
  rw [run, ends]
  exact if_pos waiting

/-- The outcome of a COMMIT that no Pod holds up. -/
theorem rowRun_commit {who : Who} {device : Bool} {pods : BitVec 64} {s : State} {c : CommitRun} (h : EngineFree s)
    (high : scopeLevel device pods s ≤ who.level.val)
    (engine : (strobed pods (commitBegun device s)).engine = { s.engine with commit := some c })
    (wanted : (strobed pods (commitBegun device s)).chip.standbyWanted = s.chip.standbyWanted)
    (waiting : c.waiting = 0) (missed : c.missed = 0) :
    rowRun who (.commit device pods) s =
      (let t := committed c.applied (strobed pods (commitBegun device s))
       { t with engine := { t.engine with last := ⟨stOk, 5, beOctets 8 c.applied⟩ } }) := by
  have item := commitItem_answered high (congrArg Engine.commit engine) waiting missed
  refine rowRun_now h item ?_ ?_ <;> unfold committed
  · exact ⟨by rw [engine]; exact h.running, by rw [engine]; exact h.frames, wanted.trans h.standby, by rw [engine]; exact h.noSub⟩
  · exact ⟨by rw [engine]; exact h.afterReply, by rw [engine]; exact h.noReset⟩

/-! ### A Pod's copy -/

/-- The values of a Pod, its copies and the HOT writes that wait are as they were. -/
structure CopyKept (d e : Pod) : Prop where
  values : e.values = d.values
  staged : e.staged = d.staged
  latched : e.latched = d.latched
  hot : e.hot = d.hot

theorem CopyKept.refl (d : Pod) : CopyKept d d := ⟨rfl, rfl, rfl, rfl⟩

theorem CopyKept.trans {d e f : Pod} (a : CopyKept d e) (b : CopyKept e f) : CopyKept d f :=
  ⟨b.values.trans a.values, b.staged.trans a.staged, b.latched.trans a.latched, b.hot.trans a.hot⟩

theorem CopyKept.ite {c : Prop} [Decidable c] {d e f : Pod} (a : CopyKept d e) (b : CopyKept d f) : CopyKept d (if c then e else f) := by
  split <;> assumption

theorem CopyKept.foldl {α : Type} {f : Pod → α → Pod} (step : ∀ d a, CopyKept d (f d a)) (l : List α) (d : Pod) :
    CopyKept d (l.foldl f d) :=
  List.foldlRecOn (motive := CopyKept d) l f (.refl d) fun e kept a _ => kept.trans (step e a)

theorem pulseTicks_kept (d : Pod) (n : Nat) (stamp : Tick) : CopyKept d (pulseTicks d n stamp) := by
  unfold pulseTicks
  exact .ite (.refl d) ⟨rfl, rfl, rfl, rfl⟩

theorem pulseUpTo_kept (now stamp : Tick) (runs : Bool) (d : Pod) : CopyKept d (pulseUpTo now stamp runs d) := by
  unfold pulseUpTo
  exact .ite ((pulseTicks_kept d _ stamp).trans ⟨rfl, rfl, rfl, rfl⟩) ⟨rfl, rfl, rfl, rfl⟩

theorem syncChannels_kept (keep : Nat → Bool) (cs : List Nat) (d : Pod) : CopyKept d (syncChannels keep cs d) := by
  unfold syncChannels
  extract_lets live d1
  have reset : CopyKept d d1 := by
    refine .foldl (fun x c => ?_) cs d
    exact ⟨rfl, rfl, rfl, rfl⟩
  exact ⟨reset.values, reset.staged, reset.latched, reset.hot⟩

theorem followLayout_kept (d : Pod) : CopyKept d (followLayout d) := by
  unfold followLayout
  exact ⟨rfl, rfl, rfl, rfl⟩

theorem resetChanged_kept (before : Pod) (cs : List Nat) (d : Pod) : CopyKept d (resetChanged before cs d) := by
  unfold resetChanged
  extract_lets laidOut streams
  have reset : CopyKept d (if cs.isEmpty then d else syncChannels (sameEntry before d) cs d) := .ite (.refl d) (syncChannels_kept ..)
  have laid : CopyKept d laidOut := reset.trans (followLayout_kept _)
  clear_value laidOut
  exact .ite (laid.trans ⟨rfl, rfl, rfl, rfl⟩) laid

theorem handOverInput_kept (before : Pod) (cs : List Nat) (d : Pod) (i : Nat) : CopyKept d (handOverInput before cs d i) := by
  unfold handOverInput
  split
  · exact .refl d
  · dsimp only
    split
    · exact ⟨rfl, rfl, rfl, rfl⟩
    · exact .ite (.refl d) ⟨rfl, rfl, rfl, rfl⟩

theorem handOver_kept (before : Pod) (cs : List Nat) (d : Pod) : CopyKept d (handOver before cs d) := by
  unfold handOver
  exact .ite (.foldl (handOverInput_kept before cs) _ d) (.refl d)

/-- R83: of a copy that a commit latched the values come into effect, and what was staged since stays staged. -/
theorem applyValues_applied (stamp : Tick) (es : List (Nat × Nat)) (gen : Nat) (d : Pod) :
    (applyValues stamp es gen d).1.values = storePutAll podDefault d.values es ∧
      (applyValues stamp es gen d).1.staged = d.staged.filter (fun e => !es.contains e) ∧ (applyValues stamp es gen d).1.hot = d.hot := by
  unfold applyValues
  extract_lets _ d1 source constant d2 cs d3 _ d4 rest
  have ticks : CopyKept d (if es.any (fun e => e.1 / 256 == 0x50) then carryTicks d else d) := .ite ⟨rfl, rfl, rfl, rfl⟩ (.refl d)
  have begun : d1.staged = d.staged ∧ d1.hot = d.hot ∧ d1.values = storePutAll podDefault d.values es :=
    ⟨ticks.staged, ticks.hot, rfl⟩
  have kept : CopyKept d1 d4 := by
    have residue : CopyKept d1 d2 := .ite ⟨rfl, rfl, rfl, rfl⟩ (.refl d1)
    have moved : CopyKept d1 d3 := residue.trans ((resetChanged_kept ..).trans (handOver_kept ..))
    exact .ite moved (moved.trans ⟨rfl, rfl, rfl, rfl⟩)
  refine ⟨kept.values.trans begun.2.2, ?_, kept.hot.trans begun.2.1⟩
  show d4.staged.filter _ = _
  rw [kept.staged, begun.1]

theorem applyHot_none {d : Pod} (noHot : d.hot = []) (stamp : Tick) (residueDone : Bool) : applyHot stamp residueDone d = d := by
  unfold applyHot
  rw [noHot]
  have same : (d.pulse.test != d.pulse.test && !residueDone) = false := by simp
  simp only [List.reverse_nil, List.find?_nil, same, Bool.false_eq_true, if_false, noHot, List.foldl_nil]
  rw [← noHot]

theorem limitsFirst_none {d : Pod} (noHot : d.hot = []) : limitsFirst d = d := by
  unfold limitsFirst
  simp only [noHot, List.filter_nil, storePutAll, List.foldl_nil]
  rw [← noHot]

/-! ### The strobe at a Pod that runs no frames -/

/-- R83, R86: a latched copy without sealed values applies, and the Pod answers. -/
theorem applyAt_latched {p gen : Nat} {es : List (Nat × Nat)} {s : State} (hp : p < 64) (stamp : Tick)
    (latched : (podAt s p).latched = some (es, gen)) (noHot : (podAt s p).hot = []) (unsealed : es.all (fun e => !sealedLoc e.1) = true) :
    ∃ d, applyAt p stamp s = commitAnswer p true (modPod p (fun _ => d) s) ∧
      d.values = storePutAll podDefault (podAt s p).values es ∧ d.staged = (podAt s p).staged.filter (fun e => !es.contains e) := by
  obtain ⟨now, runs, synced⟩ : ∃ now runs, syncPulse p s = modPod p (pulseUpTo now s.time.stamp runs) s := ⟨_, _, rfl⟩
  have kept := pulseUpTo_kept now s.time.stamp runs (podAt s p)
  generalize hd0 : pulseUpTo now s.time.stamp runs (podAt s p) = d0 at kept
  have hot0 : d0.hot = [] := kept.hot.trans noHot
  have latched0 : d0.latched = some (es, gen) := kept.latched.trans latched
  have pod : podAt (modPod p limitsFirst (syncPulse p s)) p = d0 := by
    rw [podAt_modPod hp, synced, podAt_modPod hp, hd0, limitsFirst_none hot0]
  have may : latchedMay d0 = true := by
    have noneSealed : es.any (fun e => sealedLoc e.1) = false := by simpa [List.any_eq_false] using unsealed
    unfold latchedMay
    simp only [latched0, noneSealed]
    rfl
  obtain ⟨values, staged, hot⟩ := applyValues_applied stamp es gen d0
  refine ⟨(applyValues stamp es gen d0).1, ?_, values.trans (by rw [kept.values]), staged.trans (by rw [kept.staged])⟩
  unfold applyAt
  simp only [pod, latched0, may, if_true]
  rw [applyHot_none (hot.trans hot0), synced, modPod_modPod, modPod_modPod]

theorem strobe_applies {p : Nat} {s : State} (reached : laneSilent s p = false) (mode : (podAt s p).mode ≠ .fault)
    (still : runsFrames (podAt s p) = false) :
    strobe p s = applyAt p s.time.stamp (modPod p (fun d => { d with latched := some (d.staged, d.stagedGen) }) (hubCount 2 s)) := by
  have closed : (podAt s p).faults.isoOpen = false := by
    unfold laneSilent at reached
    exact (Bool.or_eq_false_iff.1 reached).1
  unfold strobe
  simp only [closed, reached, mode, still, Bool.false_eq_true, or_self, if_false]
  rfl

/-- What the strobe leaves of a Pod that runs no frames, and what the COMMIT then knows of it. -/
theorem strobe_applied {p at_ : Nat} {s : State} (hp : p < 64) (reached : laneSilent s p = false) (mode : (podAt s p).mode ≠ .fault)
    (still : runsFrames (podAt s p) = false) (noHot : (podAt s p).hot = [])
    (unsealed : (podAt s p).staged.all (fun e => !sealedLoc e.1) = true) (begun : s.engine.commit = some ⟨0, 0, 0, at_⟩) :
    (podAt (strobe p s) p).values = storePutAll podDefault (podAt s p).values (podAt s p).staged ∧ (podAt (strobe p s) p).staged = [] ∧
      (strobe p s).engine = { s.engine with commit := some ⟨0, 2 ^ p, 0, at_⟩ } ∧ (strobe p s).chip = s.chip ∧
      (strobe p s).dict = s.dict := by
  have pod : podAt (modPod p (fun d => { d with latched := some (d.staged, d.stagedGen) }) (hubCount 2 s)) p =
      { podAt s p with latched := some ((podAt s p).staged, (podAt s p).stagedGen) } := podAt_modPod hp ..
  generalize hu : modPod p (fun d => { d with latched := some (d.staged, d.stagedGen) }) (hubCount 2 s) = u at pod
  obtain ⟨d, applied, values, staged⟩ := applyAt_latched hp s.time.stamp (by rw [pod]) (by rw [pod]; exact noHot) unsealed
  have outcome : strobe p s = commitAnswer p true (modPod p (fun _ => d) u) := by
    rw [strobe_applies reached mode still, hu, applied]
  have own : podAt (strobe p s) p = d := by
    rw [outcome]
    exact (podAt_of_pods (s := modPod p (fun _ => d) u) rfl p).trans (podAt_modPod hp ..)
  have answer : (strobe p s).engine = { s.engine with commit := some ⟨0, 2 ^ p, 0, at_⟩ } := by
    rw [outcome, ← hu]
    show ({ s.engine with commit := s.engine.commit.map _ } : Engine) = _
    rw [begun]
    simp [clearBit, setBit]
  rw [own]
  refine ⟨values.trans (by rw [pod]), staged.trans ?_, answer, by rw [outcome, ← hu]; rfl, by rw [outcome, ← hu]; rfl⟩
  rw [pod]
  exact List.filter_eq_nil_iff.2 fun e he => by simpa using he

/-- Settles O53: the level of a COMMIT, the device copy, a Pod that runs no frames, and the end of a COMMIT that waited. -/
theorem stagedValuesCommit : Obligations.StagedValuesCommit := by
  unfold Obligations.StagedValuesCommit
  refine ⟨fun who device pods s h low => ?_, fun who s h high => ?_, fun s staged => ?_,
    fun who p pods s h one high still mode reached noHot unsealed => ?_, fun c s serves run due => ?_, fun s idle => ?_⟩
  · exact congrArg Host.Outcome.next (rowRun_answers h (commitItem_denied low) rfl rfl)
  · obtain ⟨engine, wanted⟩ := deviceApply_engine s
    have begun : (strobed 0 (commitBegun true s)).engine = { s.engine with commit := some ⟨0, 0, 0, (deviceApply s).time.elapsed⟩ } := by
      rw [strobed_none, ← engine]
      rfl
    refine congrArg Host.Outcome.next ((rowRun_commit h high begun ?_ rfl rfl).trans ?_) <;> rw [strobed_none]
    · exact wanted
    · rfl
  · have outer := deviceApply_outer staged
    rw [outer.dict, outer.chip]
    exact ⟨rfl, rfl, rfl, rfl⟩
  · obtain ⟨values, staged, engine, chip, dict⟩ :=
      strobe_applied (s := commitBegun false s) (at_ := s.time.elapsed) p.isLt reached mode still noHot unsealed rfl
    rw [← strobed_one one] at values staged engine chip dict
    refine ⟨_, congrArg Host.Outcome.next (rowRun_commit (c := ⟨0, 2 ^ p.val, 0, s.time.elapsed⟩) h high engine ?_ rfl rfl), ?_⟩
    · rw [chip]
      rfl
    · exact ⟨values, staged, rfl, rfl, dict⟩
  · show Host.Outcome.next _ = _
    rw [run]
    dsimp only
    rw [serves, if_neg (by decide), if_pos due]
  · show Host.Outcome.next _ = _
    rw [idle]

end Sys2Proof.Laws
end

section
/-! RECALL and the log scan (R59, R187, R484, R486, R496). -/

namespace Sys2Proof.Laws

open Sys2Proof.Machine

/-- Clocks, Pods, records, counts and held faults aside, the state is as it was. -/
structure BootStep (s t : State) : Prop where
  chip : t.chip = s.chip
  dict : t.dict = s.dict
  counter : t.shell.counter = s.shell.counter
  slots : t.shell.slots = s.shell.slots
  logReady : t.shell.logReady = s.shell.logReady
  armed : t.guard.armed = s.guard.armed

theorem BootStep.refl (s : State) : BootStep s s := ⟨rfl, rfl, rfl, rfl, rfl, rfl⟩

theorem BootStep.trans {s t u : State} (a : BootStep s t) (b : BootStep t u) : BootStep s u :=
  ⟨b.chip.trans a.chip, b.dict.trans a.dict, b.counter.trans a.counter, b.slots.trans a.slots, b.logReady.trans a.logReady,
    b.armed.trans a.armed⟩

theorem BootStep.ite {c : Prop} [Decidable c] {s t u : State} (a : BootStep s t) (b : BootStep s u) : BootStep s (if c then t else u) := by
  split <;> assumption

/-! ### Records -/

theorem logAdd_boot (kind inst detail : Nat) (payload : List Nat) (s : State) : BootStep s (logAdd kind inst detail payload s) := by
  unfold logAdd
  dsimp only
  split_ifs <;> exact ⟨rfl, rfl, rfl, rfl, rfl, rfl⟩

theorem timeGap_boot (kind : Nat) (before after : Tick) (uncertainty : Nat) (s : State) :
    BootStep s (timeGap kind before after uncertainty s) := by
  unfold timeGap
  have counted : BootStep s { s with time := { s.time with
      gapCount := wrap32 (s.time.gapCount + 1), lastGap := ⟨kind, before, after, uncertainty⟩ } } := ⟨rfl, rfl, rfl, rfl, rfl, rfl⟩
  exact counted.trans (logAdd_boot ..)

theorem closeGap_boot (p cause : Nat) (start stop : Tick) (bound : Option Nat) (dormant add : Bool) (s : State) :
    BootStep s (closeGap p cause start stop bound dormant add s) := by
  unfold closeGap
  extract_lets flags b s1 s2
  have bounded : BootStep s s1 := .ite ⟨rfl, rfl, rfl, rfl, rfl, rfl⟩ (.refl s)
  have logged : BootStep s s2 := bounded.trans (logAdd_boot ..)
  clear_value s2
  exact logged.trans ⟨rfl, rfl, rfl, rfl, rfl, rfl⟩

/-! ### Faults before B4 (R190) -/

theorem raise_boot {s : State} (unarmed : s.guard.armed = false) (c : FaultClass) (p source detail : Nat) :
    BootStep s (raise c p source detail s) := by
  unfold raise
  simp only [unarmed, Bool.not_false, if_true]
  exact .ite (.refl s) ⟨rfl, rfl, rfl, rfl, rfl, unarmed.symm⟩

theorem liveFaults_boot {s : State} (unarmed : s.guard.armed = false) : BootStep s (liveFaults s) := by
  unfold liveFaults
  extract_lets s1
  have few : BootStep s s1 := .ite (raise_boot unarmed ..) (.refl s)
  exact .ite (few.trans (raise_boot (few.armed.trans unarmed) ..)) few

/-! ### LFXO goes off (R140) -/

theorem setOsc_boot (k : Nat) (o : Osc) (cause : Nat) (s : State) : BootStep s (setOsc k o cause s) := by
  rw [setOsc_only]
  exact ⟨rfl, rfl, rfl, rfl, rfl, rfl⟩

theorem startOsc_boot (k : Nat) (s : State) : BootStep s (startOsc k s) := .ite (.refl s) (setOsc_boot ..)

theorem setMux_boot (k : Nat) (m : Mux) (cause : Nat) (s : State) : BootStep s (setMux k m cause s) := by
  unfold setMux
  dsimp only
  rw [traceClock_only]
  split_ifs <;> exact ⟨rfl, rfl, rfl, rfl, rfl, rfl⟩

/-- A change of HUSK's mux leads to no other. -/
theorem putMux_husk (m : Mux) (cause : Nat) (s : State) : putMux 0 m cause s = setMux 0 m cause s := rfl

theorem huskFreeze_boot (s : State) : BootStep s (huskFreeze s) := by
  unfold huskFreeze
  exact .ite (.refl s) ⟨rfl, rfl, rfl, rfl, rfl, rfl⟩

theorem lfxoSet_boot (on : Bool) (s : State) : BootStep s (lfxoSet on s) := by
  unfold lfxoSet
  refine .ite (startOsc_boot ..) ?_
  extract_lets s1
  have moved : BootStep s s1 := (setOsc_boot ..).trans (startOsc_boot ..)
  simp only [putMux_husk]
  exact .ite (.ite (moved.trans (setMux_boot ..)) (moved.trans ((setMux_boot ..).trans (huskFreeze_boot _)))) moved

/-! ### RECALL -/

/-- R59, R484, R486: what RECALL loads, whatever it then records and whatever source it then stops. -/
theorem recallRun_recalled (x : Damage) {s : State} (unarmed : s.guard.armed = false) :
    (recallRun x s).chip.phases = s.chip.phases ++ [2] ∧ (recallRun x s).dict.staged = [] ∧
      (recallRun x s).shell.counter = max s.shell.counter (highestSeq (damageArray x s)) ∧
      (∀ k, newestOf slotVerifies (damageArray x s) = some k →
        (recallRun x s).dict.values = (slotAt (damageArray x s) k).image.dev ∧
          (recallRun x s).dict.keys = (slotAt (damageArray x s) k).image.keys) ∧
      (newestOf slotVerifies (damageArray x s) = none →
        (recallRun x s).dict.values = [] ∧ (recallRun x s).dict.keys = .replicate 3 none) := by
  unfold recallRun
  extract_lets s1 newest loaded blank outcome img n src fromBank bad failed off podsOff stamp0 _ _ _ _ s2 s3 s4 s5
  have gap : BootStep s2 s3 := .ite (timeGap_boot ..) (.refl s2)
  have unarmed3 : s3.guard.armed = false := gap.armed.trans unarmed
  have raised : BootStep s2 s4 := gap.trans (.ite (raise_boot unarmed3 ..) (.refl s3))
  have lfxo : BootStep s2 s5 := raised.trans (.ite (lfxoSet_boot ..) (.refl s4))
  have done : BootStep s2 (liveFaults s5) := lfxo.trans (liveFaults_boot (lfxo.armed.trans unarmed))
  rw [done.chip, done.dict, done.counter]
  refine ⟨rfl, rfl, rfl, fun k verifies => ?_, fun verifies => ?_⟩
  · have image : img = some (slotAt s1 k).image := congrArg (Option.map fun k => (slotAt s1 k).image) verifies
    clear_value img
    subst image
    exact ⟨rfl, rfl⟩
  · have image : img = none := congrArg (Option.map fun k => (slotAt s1 k).image) verifies
    clear_value img
    subst image
    exact ⟨rfl, rfl⟩

/-! ### The log scan -/

theorem rebuildHold_boot (s : State) : BootStep s (rebuildHold s) := by
  unfold rebuildHold
  split
  · exact .refl s
  · split
    · exact ⟨rfl, rfl, rfl, rfl, rfl, rfl⟩
    · extract_lets h _ s1
      have shown : BootStep s s1 := ⟨rfl, rfl, rfl, rfl, rfl, rfl⟩
      exact .ite (shown.trans (logAdd_boot ..)) shown

/-- R496: the log is ready, and no slot and no object has changed. -/
theorem logScanRun_scanned (ds : List Nat) (s : State) :
    (logScanRun ds s).chip = { s.chip with phases := s.chip.phases ++ [3] } ∧ (logScanRun ds s).shell.logReady = true ∧
      (logScanRun ds s).dict = s.dict ∧ (logScanRun ds s).shell.slots = s.shell.slots := by
  unfold logScanRun
  extract_lets general audit best indices _ _ s1 s2
  have rebuilt : BootStep s1 s2 := rebuildHold_boot s1
  have closed : BootStep s1 (if s2.chip.podsOff then
      (s2.shell.gaps.filter (gapFound s2)).foldl (fun s g => closeGap g.pod g.cause g.start g.stop none g.dormant false s)
        { s2 with shell := { s2.shell with gaps := [] } }
      else s2) := by
    refine .ite (List.foldlRecOn (motive := BootStep s1) _ _ ?_ fun t kept g _ => kept.trans (closeGap_boot ..)) rebuilt
    clear_value s2
    exact rebuilt.trans ⟨rfl, rfl, rfl, rfl, rfl, rfl⟩
  rw [closed.chip, closed.logReady, closed.dict, closed.slots]
  exact ⟨rfl, rfl, rfl, rfl⟩

/-- Settles O20: RECALL in its phase, RECALL outside it, and the log scan. -/
theorem recallTakesTheNewestImage : Obligations.RecallTakesTheNewestImage := by
  unfold Obligations.RecallTakesTheNewestImage
  refine ⟨fun x s boot noReset powered fresh hfrc high unarmed => ?_, fun x s outside => ?_, fun ds s boot noReset recalled fresh => ?_⟩
  · have phase : s.chip.state = .boot ∧ s.chip.reset.isNone ∧ booted s 0 ∧ !booted s 2 ∧ qualified s 3 ∧ !s.chip.resetLow := by
      simp [boot, noReset, powered, fresh, hfrc, high]
    exact ⟨_, congrArg Host.Outcome.next (if_pos phase), recallRun_recalled x unarmed⟩
  · refine congrArg Host.Outcome.next (if_neg ?_)
    rintro ⟨boot, -, -, fresh, -, high⟩
    rcases outside with elsewhere | recalled | low
    · exact elsewhere boot
    · simp [recalled] at fresh
    · simp [low] at high
  · have phase : s.chip.state = .boot ∧ s.chip.reset.isNone ∧ booted s 2 ∧ !booted s 3 := by
      simp [boot, noReset, recalled, fresh]
    exact ⟨_, congrArg Host.Outcome.next (if_pos phase), logScanRun_scanned ds s⟩

end Sys2Proof.Laws
end

section
/-! The snapshot banks (R481-R483): what a header and a record say once written, and which Pods the mask names. -/

namespace Sys2Proof.Laws

open Sys2Proof.Machine

/-! ### Octets of a number -/

@[simp] theorem length_beOctets (n v : Nat) : (beOctets n v).length = n := by
  induction n with
  | zero => rfl
  | succ n ih => simp only [beOctets, List.length_cons, ih]

theorem foldl_beOctets (n v a : Nat) : (beOctets n v).foldl (fun a o => a * 256 + o % 256) a = a * 256 ^ n + v % 256 ^ n := by
  induction n generalizing a with
  | zero => simp [beOctets, Nat.mod_one]
  | succ n ih =>
    rw [beOctets, List.foldl_cons, ih, Nat.mod_mod, Nat.pow_succ, Nat.mod_mul]
    ring

theorem beValue_beOctets (n v : Nat) : beValue (beOctets n v) = v % 256 ^ n := by
  rw [beValue, foldl_beOctets, Nat.zero_mul, Nat.zero_add]

theorem crc32c_lt (os : List Nat) : crc32c os < 256 ^ 4 := by
  unfold crc32c
  exact BitVec.isLt _

/-! ### The header of a bank -/

/-- The fields of a bank header before its check (R481). -/
def bankFields (seq trig quality stamp mask : Nat) : List Nat :=
  beOctets 4 seq ++ [trig, 1, quality, 0] ++ beOctets 8 stamp ++ beOctets 8 mask ++ beOctets 4 0

theorem bankHeader_eq (seq trig quality stamp mask : Nat) :
    bankHeader seq trig quality stamp mask =
      bankFields seq trig quality stamp mask ++ beOctets 4 (crc32c (bankFields seq trig quality stamp mask)) := rfl

theorem length_bankFields (seq trig quality stamp mask : Nat) : (bankFields seq trig quality stamp mask).length = 28 := by
  simp [bankFields]

theorem bankHeader_matches (seq trig quality stamp mask : Nat) : headerMatches (bankHeader seq trig quality stamp mask) = true := by
  have check : beValue ((bankHeader seq trig quality stamp mask).drop 28) = crc32c ((bankHeader seq trig quality stamp mask).take 28) := by
    rw [bankHeader_eq, List.drop_left' (length_bankFields ..), List.take_left' (length_bankFields ..), beValue_beOctets,
      Nat.mod_eq_of_lt (crc32c_lt _)]
  rw [headerMatches, check, beq_self_eq_true, Bool.and_true]
  rfl

/-- A bank header is no erased one: its format octet is 0x01. -/
theorem headerField_bankHeader (seq trig quality stamp mask off n : Nat) :
    headerField (bankHeader seq trig quality stamp mask) off n = beValue (((bankHeader seq trig quality stamp mask).drop off).take n) := by
  have written : (bankHeader seq trig quality stamp mask).all (· == 0xFF) = false :=
    List.all_eq_false.2 ⟨1, by simp [bankHeader], by decide⟩
  rw [headerField, written, if_neg Bool.false_ne_true]

section
variable (seq trig quality stamp mask : Nat) (energy : Vector EnergyRec 64)

theorem good_bankHeader : (Bank.mk (bankHeader seq trig quality stamp mask) energy).good = true := bankHeader_matches ..

theorem seq_bankHeader : (Bank.mk (bankHeader seq trig quality stamp mask) energy).seq = wrap32 seq :=
  (headerField_bankHeader ..).trans (beValue_beOctets 4 seq)

theorem trigger_bankHeader : (Bank.mk (bankHeader seq trig quality stamp mask) energy).trigger = trig % 256 :=
  (headerField_bankHeader ..).trans (Nat.zero_add _)

theorem mask_bankHeader : (Bank.mk (bankHeader seq trig quality stamp mask) energy).mask = mask % 2 ^ 64 :=
  (headerField_bankHeader ..).trans (beValue_beOctets 8 mask)

end

/-! ### The Pods that a mask names -/

theorem foldl_mask_bits (out : Nat → Bool) (n : Nat) :
    (List.range n).foldl (fun m p => if out p then m else m + 2 ^ p) 0 < 2 ^ n ∧
      ∀ p, p < n → out p = false → ((List.range n).foldl (fun m p => if out p then m else m + 2 ^ p) 0).testBit p = true := by
  induction n with
  | zero => simp
  | succ n ih =>
    obtain ⟨below, set⟩ := ih
    rw [List.range_succ, List.foldl_append, List.foldl_cons, List.foldl_nil]
    generalize (List.range n).foldl (fun m p => if out p then m else m + 2 ^ p) 0 = m at below set
    by_cases gone : out n = true
    · rw [if_pos gone]
      refine ⟨below.trans (Nat.pow_lt_pow_right (by decide) n.lt_succ_self), fun p hp named => set p ?_ named⟩
      rcases Nat.lt_succ_iff_lt_or_eq.1 hp with lower | rfl
      · exact lower
      · rw [gone] at named
        exact absurd named (by decide)
    · rw [if_neg gone, Nat.add_comm]
      refine ⟨by rw [Nat.pow_succ]; omega, fun p hp named => ?_⟩
      rcases Nat.lt_succ_iff_lt_or_eq.1 hp with lower | rfl
      · rw [Nat.testBit_two_pow_add_gt lower]
        exact set p lower named
      · rw [Nat.testBit_two_pow_add_eq, Nat.testBit_lt_two_pow below]
        rfl

theorem reachableMask_closed {p : Nat} {s : State} (hp : p < 64) (closed : (podAt s p).faults.isoOpen = false) :
    (reachableMask s).testBit p = true :=
  (foldl_mask_bits (fun p => unreachable s p []) 64).2 p hp (by simp [unreachable, closed])

/-! ### A bank and its records -/

theorem nextBank_lt (s : State) : nextBank s < 2 := by
  unfold nextBank
  dsimp only
  split_ifs <;> decide

theorem nextBank_of_banks {s t : State} (same : t.shell.banks = s.shell.banks) : nextBank t = nextBank s := by
  have bank (k : Nat) : bankAt t k = bankAt s k := by rw [bankAt, bankAt, same]
  unfold nextBank
  dsimp only
  rw [bank 0, bank 1]

theorem podRecord_valid (seq p : Nat) (mode : PodMode) (d : Pod) : (podRecord seq p mode d).valid = true := by
  unfold podRecord EnergyRec.valid
  exact beq_self_eq_true _

theorem podRecord_seq (seq p : Nat) (mode : PodMode) (d : Pod) : (podRecord seq p mode d).seq = seq := rfl

end Sys2Proof.Laws
end

section
/-! What HOLD and a reset sequence go by (R134, R210): the record of their steps, the banks and the ended discharges. Faults, logs, Pods and
STOREs leave all of it, and in HOLD nothing changes the chip (R29). -/

namespace Sys2Proof.Laws

open Sys2Proof.Machine

/-- The steps of HOLD and of a reset sequence stand as they did. -/
structure StepsKept (s t : State) : Prop where
  chip : s.chip.state = .hold → t.chip = s.chip
  reset : t.chip.reset = s.chip.reset
  banks : t.shell.banks = s.shell.banks
  hold : t.power.hold = s.power.hold
  holdSnap : t.power.holdSnap = s.power.holdSnap
  paneDone : t.panel.paneDone = s.panel.paneDone
  stripDone : t.panel.stripDone = s.panel.stripDone

theorem StepsKept.refl (s : State) : StepsKept s s := ⟨fun _ => rfl, rfl, rfl, rfl, rfl, rfl, rfl⟩

theorem StepsKept.trans {s t u : State} (a : StepsKept s t) (b : StepsKept t u) : StepsKept s u where
  chip hold := by
    have same := a.chip hold
    rw [b.chip (by rw [same]; exact hold), same]
  reset := b.reset.trans a.reset
  banks := b.banks.trans a.banks
  hold := b.hold.trans a.hold
  holdSnap := b.holdSnap.trans a.holdSnap
  paneDone := b.paneDone.trans a.paneDone
  stripDone := b.stripDone.trans a.stripDone

theorem StepsKept.ite {c : Prop} [Decidable c] {s t u : State} (a : StepsKept s t) (b : StepsKept s u) : StepsKept s (if c then t else u) := by
  split <;> assumption

theorem StepsKept.foldl {α : Type} {f : State → α → State} (step : ∀ s a, StepsKept s (f s a)) (l : List α) (s : State) :
    StepsKept s (l.foldl f s) := by
  induction l generalizing s with
  | nil => exact .refl s
  | cons a as ih => exact (step s a).trans (ih (f s a))

/-! ### Records, counts and displays -/

theorem logAdd_shell (kind inst detail : Nat) (payload : List Nat) (s : State) : ∃ q n lost,
    (logAdd kind inst detail payload s).shell = { s.shell with queue := q, drops := n, lostSinceBoot := lost } := by
  unfold logAdd
  dsimp only
  split_ifs <;> exact ⟨_, _, _, rfl⟩

theorem logAdd_steps (kind inst detail : Nat) (payload : List Nat) (s : State) : StepsKept s (logAdd kind inst detail payload s) := by
  obtain ⟨q, n, lost, shell⟩ := logAdd_shell kind inst detail payload s
  rw [logAdd_only, shell]
  exact ⟨fun _ => rfl, rfl, rfl, rfl, rfl, rfl, rfl⟩

theorem traceAdd_steps (kind stamp : Nat) (payload : List Nat) (s : State) : StepsKept s (traceAdd kind stamp payload s) := by
  rw [traceAdd_only]
  exact ⟨fun _ => rfl, rfl, rfl, rfl, rfl, rfl, rfl⟩

theorem evAdd_steps (r : EvRec) (s : State) : StepsKept s (evAdd r s) := by
  rw [evAdd_only]
  exact ⟨fun _ => rfl, rfl, rfl, rfl, rfl, rfl, rfl⟩

theorem modPod_steps (p : Nat) (f : Pod → Pod) (s : State) : StepsKept s (modPod p f s) := ⟨fun _ => rfl, rfl, rfl, rfl, rfl, rfl, rfl⟩

theorem hubCount_steps (k : Nat) (s : State) : StepsKept s (hubCount k s) := ⟨fun _ => rfl, rfl, rfl, rfl, rfl, rfl, rfl⟩

theorem modInst_steps (k : Nat) (f : Inst → Inst) (s : State) : StepsKept s (modInst k f s) := ⟨fun _ => rfl, rfl, rfl, rfl, rfl, rfl, rfl⟩

theorem guard_steps (g : Guard) (s : State) : StepsKept s { s with guard := g } := ⟨fun _ => rfl, rfl, rfl, rfl, rfl, rfl, rfl⟩

theorem setOsc_steps (k : Nat) (o : Osc) (cause : Nat) (s : State) : StepsKept s (setOsc k o cause s) := by
  rw [setOsc_only]
  exact ⟨fun _ => rfl, rfl, rfl, rfl, rfl, rfl, rfl⟩

theorem startOsc_steps (k : Nat) (s : State) : StepsKept s (startOsc k s) := .ite (.refl s) (setOsc_steps ..)

theorem setLink_steps (c : LinkCode) (s : State) : StepsKept s (setLink c s) := by
  rw [setLink_only]
  exact ⟨fun _ => rfl, rfl, rfl, rfl, rfl, rfl, rfl⟩

theorem linkCause_steps (k : Nat) (present : Bool) (s : State) : StepsKept s (linkCause k present s) := by
  have noted : StepsKept s { s with link := { s.link with causes := putBit s.link.causes k present } } :=
    ⟨fun _ => rfl, rfl, rfl, rfl, rfl, rfl, rfl⟩
  unfold linkCause
  extract_lets _ s1
  have joins : StepsKept s1 (linkJoin s1) := .ite ((setLink_steps ..).trans (setLink_steps ..)) (setLink_steps ..)
  cases s1.link.code
  case joining | follower | coordinator | csma | fallback | silent => exact .ite noted (noted.trans (setLink_steps ..))
  case listenOnly => exact .ite (noted.trans joins) noted
  case off | wakeListen => exact noted

/-- Of the displays, a watch changes what is wanted and granted alone (R541, R562). -/
theorem displayWatch_panel (s : State) : ∃ w l, (displayWatch s).panel = { s.panel with wanted := w, wantLit := l } := by
  unfold displayWatch
  dsimp only
  split_ifs <;> exact ⟨_, _, rfl⟩

/-- Of the power die, a watch adds triggers of the governor alone (R117, R562). -/
theorem displayWatch_power (s : State) : ∃ ts, (displayWatch s).power = { s.power with triggers := ts } := by
  unfold displayWatch
  dsimp only
  split_ifs <;> exact ⟨_, rfl⟩

theorem displayWatch_steps (s : State) : StepsKept s (displayWatch s) := by
  obtain ⟨w, l, panel⟩ := displayWatch_panel s
  obtain ⟨ts, power⟩ := displayWatch_power s
  rw [displayWatch_only, panel, power]
  exact ⟨fun _ => rfl, rfl, rfl, rfl, rfl, rfl, rfl⟩

theorem histAdd_steps (c : FaultClass) (p source action flags detail before : Nat) (logged notified : Bool) (s : State) :
    StepsKept s (histAdd c p source action flags detail before logged notified s) := by
  unfold histAdd
  extract_lets k seq inst e g s1 s2 podByte s3
  have traced : StepsKept s s2 := (guard_steps _ s).trans (traceAdd_steps ..)
  have recorded : StepsKept s s3 := .ite (traced.trans (logAdd_steps ..)) traced
  exact .ite (recorded.trans (evAdd_steps ..)) recorded

/-! ### Pods -/

theorem closeGap_steps (p cause : Nat) (start stop : Tick) (bound : Option Nat) (dormant add : Bool) (s : State) :
    StepsKept s (closeGap p cause start stop bound dormant add s) := by
  unfold closeGap
  extract_lets flags b s1 s2
  have bounded : StepsKept s s1 := .ite (modPod_steps ..) (.refl s)
  have logged : StepsKept s s2 := bounded.trans (logAdd_steps ..)
  clear_value s2
  exact logged.trans ⟨fun _ => rfl, rfl, rfl, rfl, rfl, rfl, rfl⟩

theorem withBooking_steps (p : Nat) (f : Pod → Pod × List PhaseGap) (s : State) : StepsKept s (withBooking p f s) :=
  ((modPod_steps ..).trans (modPod_steps ..)).trans (.foldl (fun _ _ => closeGap_steps ..) _ _)

theorem drainEvents_steps (p : Nat) (s : State) : StepsKept s (drainEvents p s) :=
  .ite (.refl s) ((StepsKept.foldl (fun s r => evAdd_steps ⟨2, p, eventOctets r⟩ s) _ s).trans (modPod_steps ..))

theorem endBooking_steps (p : Nat) (limit : Option Tick) (s : State) : StepsKept s (endBooking p limit s) := by
  unfold endBooking
  extract_lets stop s0 s1 source s2
  have booked : StepsKept s s0 := .foldl (fun s _ => .ite (withBooking_steps ..) (.refl s)) _ s
  exact booked.trans ((withBooking_steps ..).trans ((modPod_steps ..).trans (drainEvents_steps ..)))

theorem freezeNow_steps (p : Nat) (s : State) : StepsKept s (freezeNow p s) := by
  unfold freezeNow
  extract_lets s1 s2
  have stopped : StepsKept s1 s2 := .ite (endBooking_steps ..) (.refl s1)
  exact ((modPod_steps ..).trans stopped).trans (modPod_steps ..)

theorem freezePods_steps (s : State) : StepsKept s (freezePods s) :=
  .foldl (fun _ _ => .ite (modPod_steps ..) (freezeNow_steps ..)) _ s

theorem setMode_steps (p : Nat) (m : PodMode) (cause : Nat) (s : State) : StepsKept s (setMode p m cause s) := by
  unfold setMode
  extract_lets d off s1 s2 s3
  have traced : StepsKept s s2 := (modPod_steps ..).trans (traceAdd_steps ..)
  have clocked : StepsKept s s3 := .ite (traced.trans (.ite (.refl _) (traceAdd_steps ..))) traced
  clear_value s3
  exact .ite (.refl s) (.ite (clocked.trans ⟨fun _ => rfl, rfl, rfl, rfl, rfl, rfl, rfl⟩) clocked)

theorem endDoze_steps (p : Nat) (now : Tick) (exit : Nat) (s : State) : StepsKept s (endDoze p now exit s) := by
  unfold endDoze
  extract_lets d s1
  have ended : StepsKept s s1 := modPod_steps ..
  cases d.doze.armingFrom with
  | none => exact ended
  | some t0 => exact .ite (ended.trans (closeGap_steps ..)) ended

theorem podToFault_steps (p cause : Nat) (s : State) : StepsKept s (podToFault p cause s) := by
  have stopped (u : State) : StepsKept u (stopSampling p .fault cause none u) := by
    unfold stopSampling
    extract_lets u1
    have booked : StepsKept u u1 := .ite (endBooking_steps ..) (.refl u)
    exact booked.trans ((modPod_steps ..).trans (setMode_steps ..))
  unfold podToFault
  extract_lets s1 s2
  have stands : StepsKept s s2 := (modPod_steps ..).trans (stopped s1)
  exact stands.trans ((endDoze_steps ..).trans (modPod_steps ..))

/-! ### Faults -/

theorem enterContainment_steps (c : FaultClass) (p : Nat) (s : State) : StepsKept s (enterContainment c p s) := by
  unfold enterContainment
  extract_lets k i quiet s1
  have noted : StepsKept s s1 := modInst_steps ..
  cases c
  case pod => exact noted.trans (podToFault_steps ..)
  case link => exact noted.trans (linkCause_steps ..)
  case pwr | disp => exact noted.trans (displayWatch_steps _)
  case clk | shell | time | guard => exact noted

/-- SAFE is entered from ACTIVE and BOOT alone (R29). -/
theorem enterSafe_steps {s : State} (going : s.chip.state ≠ .hold) : StepsKept s (enterSafe s) := by
  have safe (u : State) (k : StepsKept s u) : StepsKept s (runTimers false (setChip .safe u)) :=
    ⟨fun hold => absurd hold going, k.reset, k.banks, k.hold, k.holdSnap, k.paneDone, k.stripDone⟩
  exact (safe _ (freezePods_steps s)).trans (displayWatch_steps _)

theorem levelFour_steps (c : FaultClass) (p source : Nat) (s : State) : StepsKept s (levelFour c p source s) := by
  unfold levelFour
  extract_lets _ s1
  have noted : StepsKept s s1 := guard_steps ..
  cases state : s.chip.state
  case active | boot => exact noted.trans (enterSafe_steps (s := s1) (by rw [show s1.chip = s.chip from rfl, state]; decide))
  case standby => exact noted.trans (guard_steps ..)
  case unpowered | hold | safe => exact noted

theorem levelEffects_steps (c : FaultClass) (p source level : Nat) (s : State) : StepsKept s (levelEffects c p source level s) := by
  unfold levelEffects
  extract_lets k i s1
  have contained : StepsKept s s1 := .ite (enterContainment_steps ..) (.refl s)
  exact .ite (contained.trans (levelFour_steps ..)) contained

theorem dropEnded_steps (k : Nat) (s : State) : StepsKept s (dropEnded k s) := by
  unfold dropEnded
  exact .ite ⟨fun _ => rfl, rfl, rfl, rfl, rfl, rfl, rfl⟩ (modInst_steps ..)

theorem raiseAt_steps (c : FaultClass) (p source detail : Nat) (at_ : Tick) (held present : Bool) (s : State) (least : Nat) :
    StepsKept s (raiseAt c p source detail at_ held present s least) := by
  have risen (u : State) (f : Inst → Inst) (action flags before level k : Nat) (g : Bool) (raised : StepsKept s u) :
      StepsKept s (dropEnded k (levelEffects c p source level (histAdd c p source action flags detail before g g (modInst k f u)))) :=
    raised.trans ((modInst_steps ..).trans ((histAdd_steps ..).trans ((levelEffects_steps ..).trans (dropEnded_steps ..))))
  unfold raiseAt
  dsimp only
  split
  · exact risen _ _ _ _ _ _ _ _ (guard_steps ..)
  · exact risen _ _ _ _ _ _ _ _ (guard_steps ..)

theorem raise_steps (c : FaultClass) (p source detail : Nat) (s : State) : StepsKept s (raise c p source detail s) :=
  .ite (.refl s) (.ite (guard_steps ..) (raiseAt_steps ..))

end Sys2Proof.Laws
end

section
/-! The snapshot of HOLD and of a reset sequence, and the steps that follow it (R134, R210, R481-R483). -/

namespace Sys2Proof.Laws

open Sys2Proof.Machine

/-! ### The snapshot -/

/-- A transfer of the Pods' dormant energy leaves the hub but for its counts, and every isolation switch (R429). -/
structure Transferred (s t : State) : Prop where
  chip : t.chip = s.chip
  power : t.power = s.power
  shell : t.shell = s.shell
  paneDone : t.panel.paneDone = s.panel.paneDone
  stripDone : t.panel.stripDone = s.panel.stripDone
  isoOpen : ∀ p, (podAt t p).faults.isoOpen = (podAt s p).faults.isoOpen

theorem Transferred.refl (s : State) : Transferred s s := ⟨rfl, rfl, rfl, rfl, rfl, fun _ => rfl⟩

theorem Transferred.trans {s t u : State} (a : Transferred s t) (b : Transferred t u) : Transferred s u :=
  ⟨b.chip.trans a.chip, b.power.trans a.power, b.shell.trans a.shell, b.paneDone.trans a.paneDone, b.stripDone.trans a.stripDone,
    fun p => (b.isoOpen p).trans (a.isoOpen p)⟩

theorem modPod_transferred {p : Nat} {f : Pod → Pod} (hp : p < 64) (kept : ∀ d, (f d).faults.isoOpen = d.faults.isoOpen) (s : State) :
    Transferred s (modPod p f s) := by
  refine ⟨rfl, rfl, rfl, rfl, rfl, fun r => ?_⟩
  by_cases same : r = p
  · rw [same, podAt_modPod hp, kept]
  · rw [podAt_modPod_ne same]

theorem laneDone_transferred {p : Nat} (hp : p < 64) (s : State) : Transferred s (laneDone p s) := by
  refine (modPod_transferred (f := fun d => { d with
    counters := bump d.counters 17,
    faults := { d.faults with laneRun := 0, laneLongest := max d.faults.laneLongest (min (laneLimit d) (Config.laneMicros s.fresh)) } })
    hp (fun _ => rfl) s).trans ?_
  exact ⟨rfl, rfl, rfl, rfl, rfl, fun _ => rfl⟩

theorem cacheAfter_transferred (p : Nat) (s : State) : Transferred s (cacheAfter p s) := by
  unfold cacheAfter
  split_ifs
  · exact ⟨rfl, rfl, rfl, rfl, rfl, fun _ => rfl⟩
  · exact .refl s

theorem transferAll_transferred (absent : List Nat) (s : State) : Transferred s (transferAll absent s) := by
  unfold transferAll onPods
  refine List.foldlRecOn (motive := Transferred s) podList _ (.refl s) fun t kept p mem => kept.trans ?_
  have hp : p < 64 := List.mem_range.1 mem
  have isoOpen (now : Tick) (d : Pod) : (transferPod now d).faults.isoOpen = d.faults.isoOpen := by
    obtain ⟨m, z, only⟩ := transferPod_only now d
    rw [only]
  dsimp only
  split_ifs
  · exact .refl t
  · exact (modPod_transferred hp (isoOpen _) t).trans ((laneDone_transferred hp _).trans (cacheAfter_transferred ..))

/-- The bank that a snapshot of `s` leaves, `u` being the state after its transfers (R481, R482). -/
def snapshotBank (trig : Nat) (s u : State) : Bank :=
  let seq := wrap32 (s.shell.counter + 1)
  ⟨bankHeader seq trig (timeQuality u) u.time.stamp (reachableMask u), Vector.ofFn (fun p : Fin 64 =>
    if unreachable u p.val [] then (bankAt s (nextBank s)).energy[p] else podRecord seq p.val (storedMode u p.val) u.pods[p])⟩

theorem writeSnapshot_only (trig : Nat) (s : State) : ∃ u q n lost o, Transferred s u ∧ writeSnapshot trig s =
    { u with
      shell := { s.shell with
        counter := wrap32 (s.shell.counter + 1), banks := putAt s.shell.banks (nextBank s) (snapshotBank trig s u),
        queue := q, drops := n, lostSinceBoot := lost },
      obs := o } := by
  have moved := transferAll_transferred [] s
  unfold writeSnapshot
  generalize transferAll [] s = u at moved
  have bank (k : Nat) : bankAt u k = bankAt s k := by rw [bankAt, bankAt, moved.shell]
  extract_lets u' k seq mask old energy _ s2
  obtain ⟨q, n, lost, shell⟩ := logAdd_shell 3 k trig (beOctets 4 seq ++ beOctets 8 mask) s2
  refine ⟨u, q, n, lost, (logAdd 3 k trig (beOctets 4 seq ++ beOctets 8 mask) s2).obs, moved, ?_⟩
  have bankNow : k = nextBank s := nextBank_of_banks (congrArg Shell.banks moved.shell)
  have counted : seq = wrap32 (s.shell.counter + 1) := by rw [← moved.shell]
  have filled : Bank.mk (bankHeader seq trig (timeQuality u) u.time.stamp mask) energy = snapshotBank trig s u := by
    unfold snapshotBank
    rw [← counted, ← bankNow, ← bank]
  have written : s2.shell = { s.shell with counter := seq, banks := putAt s.shell.banks k (snapshotBank trig s u) } := by
    rw [← filled, ← moved.shell]
  rw [logAdd_only, shell, written, bankNow, counted]

theorem snapshotBank_good (trig : Nat) (s u : State) : (snapshotBank trig s u).good = true := good_bankHeader ..

theorem snapshotBank_seq (trig : Nat) (s u : State) : (snapshotBank trig s u).seq = wrap32 (s.shell.counter + 1) :=
  (seq_bankHeader ..).trans (Nat.mod_mod ..)

theorem snapshotBank_trigger {trig : Nat} (octet : trig < 256) (s u : State) : (snapshotBank trig s u).trigger = trig :=
  (trigger_bankHeader ..).trans (Nat.mod_eq_of_lt octet)

theorem snapshotBank_record {p : Nat} {s u : State} (hp : p < 64) (closed : (podAt u p).faults.isoOpen = false) (trig : Nat) :
    recordVerifies (snapshotBank trig s u) p = true := by
  have reached : unreachable u p [] = false := by simp [unreachable, closed]
  have named : bit (snapshotBank trig s u).mask p = true := by
    rw [snapshotBank, mask_bankHeader, bit, Nat.testBit_mod_two_pow, decide_eq_true hp, Bool.true_and]
    exact reachableMask_closed hp closed
  have taken : (snapshotBank trig s u).energy.getD p noEnergy =
      podRecord (wrap32 (s.shell.counter + 1)) p (storedMode u p) u.pods[p] := by
    simp [snapshotBank, Vector.getD, hp, reached]
  rw [recordVerifies, snapshotBank_good, named, taken, podRecord_valid, podRecord_seq, snapshotBank_seq, beq_self_eq_true]
  rfl

theorem writeSnapshot_written {trig : Nat} (octet : trig < 256) (s : State) : SnapshotWritten trig s (writeSnapshot trig s) := by
  obtain ⟨u, q, n, lost, o, moved, only⟩ := writeSnapshot_only trig s
  have lower := nextBank_lt s
  have filled : bankAt (writeSnapshot trig s) (nextBank s) = snapshotBank trig s u := by rw [only]; exact getD_putAt_same lower ..
  have other : bankAt (writeSnapshot trig s) (1 - nextBank s) = bankAt s (1 - nextBank s) := by
    rw [only]
    exact getD_putAt_ne (by omega) ..
  rw [SnapshotWritten, filled, other]
  exact ⟨lower, snapshotBank_good .., snapshotBank_seq .., snapshotBank_trigger octet .., rfl,
    fun p hp closed => snapshotBank_record hp ((moved.isoOpen p).trans closed) trig⟩

/-- Of the hub, a snapshot changes the banks, the counter, the log and counts alone. -/
structure SnapshotOnly (s t : State) : Prop where
  chip : t.chip = s.chip
  power : t.power = s.power
  paneDone : t.panel.paneDone = s.panel.paneDone
  stripDone : t.panel.stripDone = s.panel.stripDone
  slots : t.shell.slots = s.shell.slots
  run : t.shell.run = s.shell.run

theorem writeSnapshot_snapshotOnly (trig : Nat) (s : State) : SnapshotOnly s (writeSnapshot trig s) := by
  obtain ⟨u, q, n, lost, o, moved, only⟩ := writeSnapshot_only trig s
  rw [only]
  exact ⟨moved.chip, moved.power, moved.paneDone, moved.stripDone, rfl, rfl⟩

/-- What a snapshot writes goes by the banks, the counter and the switches alone. -/
theorem snapshotWritten_congr {trig : Nat} {s s' u t : State} (shell : s'.shell = s.shell) (pods : s'.pods = s.pods)
    (banks : t.shell.banks = u.shell.banks) (w : SnapshotWritten trig s' u) : SnapshotWritten trig s t := by
  have bank (k : Nat) : bankAt t k = bankAt u k := by rw [bankAt, bankAt, banks]
  have before (k : Nat) : bankAt s' k = bankAt s k := by rw [bankAt, bankAt, shell]
  have next : nextBank s' = nextBank s := nextBank_of_banks (congrArg Shell.banks shell)
  simp only [SnapshotWritten, next, before, shell, podAt_of_pods pods] at w
  simpa only [SnapshotWritten, bank] using w

/-! ### The STORE of step 3 -/

theorem closeSeals_steps (good : Bool) (s : State) : StepsKept s (closeSeals good s) := by
  unfold closeSeals onPods
  refine .foldl (fun s p => ?_) podList s
  dsimp only
  exact .ite (.ite ((modPod_steps ..).trans (modPod_steps ..)) (modPod_steps ..)) (.refl s)

theorem storeTriggers_steps (reasons outcome : Nat) (s : State) : StepsKept s (storeTriggers reasons outcome s) := by
  unfold storeTriggers
  extract_lets good _ s1
  have completed : StepsKept s s1 := .ite ⟨fun _ => rfl, rfl, rfl, rfl, rfl, rfl, rfl⟩ (.refl s)
  exact .ite (completed.trans (closeSeals_steps ..)) completed

theorem storeEnds_steps (r : StoreRun) (outcome : Nat) (s : State) : StepsKept s (storeEnds r outcome s) := by
  unfold storeEnds
  extract_lets u good micros sh s1 s2 s3 s4
  have off : StepsKept s u := .ite (setOsc_steps ..) (.refl s)
  have ended : StepsKept s s1 := off.trans ⟨fun _ => rfl, rfl, rfl, rfl, rfl, rfl, rfl⟩
  have traced : StepsKept s s2 := ended.trans (traceAdd_steps ..)
  have logged : StepsKept s s3 := .ite traced (traced.trans (logAdd_steps ..))
  have joined : StepsKept s s4 := (logged.trans (.ite (hubCount_steps ..) (.refl s3))).trans (storeTriggers_steps ..)
  exact .ite (joined.trans (raise_steps ..)) joined

/-- R470, R479: a STORE fails at once, or runs. -/
theorem startStoreOn_steps (slot : Option Nat) (reasons : Nat) (repeated : Bool) (started : Tick) (s : State) :
    StepsKept s (startStoreOn slot reasons repeated started s) := by
  unfold startStoreOn
  split
  · exact storeEnds_steps ..
  · extract_lets seq _ s1
    have begun : StepsKept s s1 := ⟨fun _ => rfl, rfl, rfl, rfl, rfl, rfl, rfl⟩
    exact ((begun.trans (.ite (startOsc_steps ..) (.refl s1))).trans (hubCount_steps ..)).trans (traceAdd_steps ..)

theorem startOsc_shell (k : Nat) (s : State) : (startOsc k s).shell = s.shell := by
  unfold startOsc
  extract_lets o
  by_cases on : o.driven = true
  · rw [if_pos on]
  · rw [if_neg on, setOsc_only]

theorem startStoreOn_runs {s : State} (slots : nextSlot s ≠ none) (slot : Option Nat) (reasons : Nat) (repeated : Bool) (started : Tick) :
    (startStoreOn slot reasons repeated started s).shell.run.isSome = true := by
  unfold startStoreOn
  split
  case h_1 noSlot =>
    exfalso
    cases slot with
    | none => exact slots noSlot
    | some k =>
      dsimp only at noSlot
      split_ifs at noSlot with retired
      exact slots noSlot
  case h_2 k _ =>
    extract_lets seq _ s1
    have started : (if s1.chip.state = .standby then startOsc 3 s1 else s1).shell = s1.shell := by
      split
      · exact startOsc_shell 3 s1
      · rfl
    rw [traceStore, traceAdd_only, hubCount_shell, started]
    rfl

theorem nextSlot_of_slots {s t : State} (same : t.shell.slots = s.shell.slots) : nextSlot t = nextSlot s := by
  have slot : slotAt t = slotAt s := funext fun k => by rw [slotAt, slotAt, same]
  unfold nextSlot newestOf
  rw [slot]

/-! ### Both discharges -/

theorem startDischarges_steps (s : State) : StepsKept s (startDischarges s) := by
  unfold startDischarges
  refine StepsKept.trans ?_ (displayWatch_steps _)
  exact ⟨fun _ => rfl, rfl, rfl, rfl, rfl, rfl, rfl⟩

theorem startDischarges_shell (s : State) : (startDischarges s).shell = s.shell := by
  unfold startDischarges
  rw [displayWatch_only]

theorem startDischarges_panel (s : State) :
    (startDischarges s).panel.paneDischarge = !s.panel.paneDone ∧ (startDischarges s).panel.stripDischarge = !s.panel.stripDone := by
  unfold startDischarges
  generalize hu : State.mk .. = u
  obtain ⟨w, l, panel⟩ := displayWatch_panel u
  rw [panel, ← hu]
  exact ⟨rfl, rfl⟩

/-! ### The steps of HOLD -/

@[simp] theorem holdStep_chip (k : Nat) (s : State) : (holdStep k s).chip = s.chip := rfl
@[simp] theorem holdStep_shell (k : Nat) (s : State) : (holdStep k s).shell = s.shell := rfl
@[simp] theorem holdStep_panel (k : Nat) (s : State) : (holdStep k s).panel = s.panel := rfl

theorem bit_setBit (v k : Nat) : bit (setBit v k) k = true := by
  unfold setBit bit
  split
  · assumption
  · rename_i clear
    rw [Nat.add_comm, Nat.testBit_two_pow_add_eq]
    simpa using clear

theorem bit_setBit_lower {j k : Nat} (lower : j < k) (v : Nat) : bit (setBit v k) j = bit v j := by
  unfold setBit bit
  split
  · rfl
  · rw [Nat.add_comm, Nat.testBit_two_pow_add_gt lower]

/-- HOLD's record says that step 2 has ended, at the instant where HOLD began. -/
def SnapshotNoted (stamp : Tick) (s : State) : Prop := ∃ g, s.power.hold = some g ∧ g.stamp = stamp ∧ bit g.steps 1 = true

theorem SnapshotNoted.step {stamp : Tick} {s : State} (noted : SnapshotNoted stamp s) {k : Nat} (later : 1 < k) :
    SnapshotNoted stamp (holdStep k s) := by
  obtain ⟨g, hold, began, ended⟩ := noted
  exact ⟨{ g with steps := setBit g.steps k }, by rw [holdStep, hold]; rfl, began, (bit_setBit_lower later _).trans ended⟩

theorem SnapshotNoted.kept {stamp : Tick} {s t : State} (noted : SnapshotNoted stamp s) (k : StepsKept s t) : SnapshotNoted stamp t := by
  obtain ⟨g, hold, rest⟩ := noted
  exact ⟨g, k.hold.trans hold, rest⟩

/-- Step 3 as far as its STORE, which is skipped, or runs where it finds a slot (R134, R210, R212). -/
structure StoreAsked (stores : Bool) (s t : State) : Prop where
  chip : s.chip.state = .hold → t.chip = s.chip
  reset : t.chip.reset = s.chip.reset
  banks : t.shell.banks = s.shell.banks
  holdSnap : t.power.holdSnap = s.power.holdSnap
  paneDone : t.panel.paneDone = s.panel.paneDone
  stripDone : t.panel.stripDone = s.panel.stripDone
  noted : ∀ stamp, SnapshotNoted stamp s → SnapshotNoted stamp t
  stored : stores = true → nextSlot s ≠ none → t.shell.run.isSome = true
  skipped : stores = false → t.shell = s.shell

theorem startStoreOn_asked (stores : Bool) (slot : Option Nat) (reasons : Nat) (repeated : Bool) (started : Tick) (s : State) :
    StoreAsked stores s (if stores then startStoreOn slot reasons repeated started s else s) := by
  cases stores with
  | false => exact ⟨fun _ => rfl, rfl, rfl, rfl, rfl, rfl, fun _ noted => noted, nofun, fun _ => rfl⟩
  | true =>
    have kept := startStoreOn_steps slot reasons repeated started s
    exact ⟨kept.chip, kept.reset, kept.banks, kept.holdSnap, kept.paneDone, kept.stripDone, fun _ noted => noted.kept kept,
      fun _ slots => startStoreOn_runs slots slot reasons repeated started, nofun⟩

namespace StoreAsked

variable {stores : Bool} {s t : State} (a : StoreAsked stores s t)

include a

theorem notes {k : Nat} (later : 1 < k) : StoreAsked stores s (holdStep k t) :=
  ⟨a.chip, a.reset, a.banks, a.holdSnap, a.paneDone, a.stripDone, fun stamp noted => (a.noted stamp noted).step later, a.stored, a.skipped⟩

theorem notesIf {c : Prop} [Decidable c] {k : Nat} (later : 1 < k) : StoreAsked stores s (if c then holdStep k t else t) := by
  split
  · exact a.notes later
  · exact a

theorem discharges : StoreAsked stores s (startDischarges t) := by
  have kept := startDischarges_steps t
  refine ⟨fun hold => ?_, kept.reset.trans a.reset, kept.banks.trans a.banks, kept.holdSnap.trans a.holdSnap, kept.paneDone.trans a.paneDone,
    kept.stripDone.trans a.stripDone, fun stamp noted => (a.noted stamp noted).kept kept, ?_, ?_⟩
  · rw [← a.chip hold]
    exact kept.chip (by rw [a.chip hold]; exact hold)
  · rw [startDischarges_shell]
    exact a.stored
  · rw [startDischarges_shell]
    exact a.skipped

theorem begun : (startDischarges t).panel.paneDischarge = !s.panel.paneDone ∧ (startDischarges t).panel.stripDischarge = !s.panel.stripDone := by
  rw [← a.paneDone, ← a.stripDone]
  exact startDischarges_panel t

end StoreAsked

theorem holdStepThree_begun (s : State) :
    StoreAsked s.power.holdStore s (holdStepThree s) ∧ (holdStepThree s).panel.paneDischarge = !s.panel.paneDone ∧
      (holdStepThree s).panel.stripDischarge = !s.panel.stripDone := by
  unfold holdStepThree
  extract_lets s1 s2
  have asked : StoreAsked s.power.holdStore s s1 := startStoreOn_asked ..
  have noted := (asked.notesIf (c := s.panel.paneDone = true) (k := 3) (by decide)).notesIf (c := s.panel.stripDone = true) (k := 4) (by decide)
  exact ⟨noted.discharges, noted.begun⟩

/-! ### The end of step 2 -/

/-- HOLD waits for its snapshot no longer. -/
def holdSnapTaken (s : State) : State := { s with power := { s.power with holdSnap := false } }

/-- Step 2 of HOLD has ended: the bank is written, and HOLD's record says so (R134). -/
def holdSnapshot (s : State) : State := holdStep 1 (writeSnapshot 1 (holdSnapTaken s))

theorem execSnapshotEnd_hold {h : HoldRec} {s : State} (state : s.chip.state = .hold) (hold : s.power.hold = some h)
    (due : s.power.holdSnap = true) (frozen : bit h.steps 0 = true) :
    execSnapshotEnd s = .next (holdStepThree (holdSnapshot s)) := by
  unfold execSnapshotEnd
  rw [hold]
  exact congrArg Host.Outcome.next (if_pos ⟨state, due, frozen⟩)

theorem holdSnapshot_chip (s : State) : (holdSnapshot s).chip = s.chip := by
  rw [holdSnapshot, holdStep_chip, (writeSnapshot_snapshotOnly ..).chip]
  rfl

theorem holdSnapshot_shell (s : State) : (holdSnapshot s).shell = (writeSnapshot 1 (holdSnapTaken s)).shell := by
  rw [holdSnapshot, holdStep_shell]

theorem holdSnapshot_panel (s : State) : (holdSnapshot s).panel = (writeSnapshot 1 (holdSnapTaken s)).panel := by
  rw [holdSnapshot, holdStep_panel]

theorem holdSnapshot_power {h : HoldRec} {s : State} (hold : s.power.hold = some h) :
    (holdSnapshot s).power.holdSnap = false ∧ (holdSnapshot s).power.holdStore = s.power.holdStore ∧
      SnapshotNoted h.stamp (holdSnapshot s) := by
  have power := (writeSnapshot_snapshotOnly 1 (holdSnapTaken s)).power
  unfold holdSnapshot holdStep SnapshotNoted
  rw [power]
  refine ⟨rfl, rfl, { h with steps := setBit h.steps 1 }, ?_, rfl, bit_setBit ..⟩
  dsimp only [holdSnapTaken]
  rw [hold]
  rfl

/-- The sequence's record says that its snapshot has ended, and that its STORE has been asked for (R210). -/
def resetSnapTaken (r : ResetRun) (s : State) : State :=
  { s with chip := { s.chip with reset := some { r with snapshotDone := true, storeDone := true } } }

/-- The STORE that follows the snapshot of a reset sequence, unless it has been asked for before (R210). -/
def resetStore (r : ResetRun) (s : State) : State :=
  if (!r.storeDone) = true then startStoreOn s.shell.abortedSlot (2 ^ 6) false s.time.elapsed s else s

theorem execSnapshotEnd_reset {r : ResetRun} {s : State} (hold : s.power.hold = none) (reset : s.chip.reset = some r)
    (due : r.snapshotDone = false) (frozen : allFrozen s = true) :
    execSnapshotEnd s = .next (startDischarges (resetStore r (writeSnapshot 2 (resetSnapTaken r s)))) := by
  unfold execSnapshotEnd resetStore resetSnapTaken
  rw [hold, reset]
  dsimp only
  rw [due, frozen, if_neg (by decide)]
  generalize writeSnapshot 2 _ = u
  cases r.storeDone <;> rfl

theorem execSnapshotEnd_early {r : ResetRun} {s : State} (hold : s.power.hold = none) (reset : s.chip.reset = some r)
    (early : r.snapshotDone = true ∨ allFrozen s = false) : execSnapshotEnd s = .next s := by
  unfold execSnapshotEnd
  rw [hold, reset]
  dsimp only
  rw [if_pos (by simpa using early)]

theorem execSnapshotEnd_none {s : State} (hold : s.power.hold = none) (reset : s.chip.reset = none) : execSnapshotEnd s = .next s := by
  unfold execSnapshotEnd
  rw [hold, reset]

/-- Settles O10: the snapshot of HOLD and that of a reset sequence, when there is none, and what one leaves in the banks. -/
theorem snapshotsAreWritten : Obligations.SnapshotsAreWritten := by
  unfold Obligations.SnapshotsAreWritten
  refine ⟨fun h s state hold due frozen => ?_, fun r s hold reset due frozen => ?_, fun r s hold reset early => ?_,
    fun s hold reset => ?_, fun trig s octet => ?_⟩
  · have only := writeSnapshot_snapshotOnly 1 (holdSnapTaken s)
    have written := writeSnapshot_written (trig := 1) (by decide) (holdSnapTaken s)
    obtain ⟨taken, storing, noted⟩ := holdSnapshot_power hold
    obtain ⟨asked, pane, strip⟩ := holdStepThree_begun (holdSnapshot s)
    have banks := asked.banks.trans (congrArg Shell.banks (holdSnapshot_shell s))
    refine ⟨_, execSnapshotEnd_hold state hold due frozen, snapshotWritten_congr rfl rfl banks written, asked.holdSnap.trans taken,
      asked.noted _ noted, ?_, ?_, ?_, fun store slots => asked.stored (storing.trans store) ?_, fun skip => ?_⟩
    · rw [pane, holdSnapshot_panel, only.paneDone]
      rfl
    · rw [strip, holdSnapshot_panel, only.stripDone]
      rfl
    · rw [asked.chip (by rw [holdSnapshot_chip]; exact state), holdSnapshot_chip, state]
    · rw [nextSlot_of_slots ((congrArg Shell.slots (holdSnapshot_shell s)).trans only.slots)]
      exact slots
    · rw [asked.skipped (storing.trans skip), holdSnapshot_shell]
      exact ⟨only.run, only.slots⟩
  · have only := writeSnapshot_snapshotOnly 2 (resetSnapTaken r s)
    have written := writeSnapshot_written (trig := 2) (by decide) (resetSnapTaken r s)
    have asked : StoreAsked (!r.storeDone) _ (resetStore r (writeSnapshot 2 (resetSnapTaken r s))) := startStoreOn_asked ..
    obtain ⟨pane, strip⟩ := asked.begun
    refine ⟨_, execSnapshotEnd_reset hold reset due frozen, snapshotWritten_congr rfl rfl asked.discharges.banks written, ?_, ?_, ?_,
      fun store slots => asked.discharges.stored (congrArg not store) ?_, fun skip => ?_⟩
    · rw [asked.discharges.reset, only.chip]
      rfl
    · rw [pane, only.paneDone]
      rfl
    · rw [strip, only.stripDone]
      rfl
    · rw [nextSlot_of_slots only.slots]
      exact slots
    · rw [asked.discharges.skipped (congrArg not skip)]
      exact ⟨only.run, only.slots⟩
  · exact execSnapshotEnd_early hold reset early
  · exact execSnapshotEnd_none hold reset
  · obtain ⟨u, q, n, lost, o, -, only⟩ := writeSnapshot_only trig s
    exact ⟨writeSnapshot_written octet s, by rw [only]⟩

end Sys2Proof.Laws
end

section
/-! The governor: the walk, Pod by Pod, and an evaluation as a whole (R117, R119, R120, R122, R124). -/

namespace Sys2Proof.Laws

open Sys2Proof.Machine

/-! ### The walk -/

theorem walkPod_granted {w : Walk} {p : Nat} {s : State} (rests : walkRuns (podAt s p) = false) (waits : (podAt s p).wake.isSome = true)
    (left : 14 ≤ w.avail) (free : contained s 1 = false) :
    walkPod (w, s) p =
      ({ w with avail := w.avail - 14, granted := w.granted + 1 }, modPod p (fun d => { grantWake d with powerWait := true }) s) := by
  simp [walkPod, rests, waits, left, free]

theorem walkPod_refused {w : Walk} {p : Nat} {s : State} (rests : walkRuns (podAt s p) = false) (waits : (podAt s p).wake.isSome = true)
    (short : w.avail < 14 ∨ contained s 1 = true) :
    walkPod (w, s) p = ({ w with refused := w.refused + 1 }, modPod p refuseWake s) := by
  have held : ¬ (14 ≤ w.avail ∧ (!contained s 1) = true) := by
    rintro ⟨left, free⟩
    rcases short with less | contains
    · omega
    · rw [contains] at free
      exact absurd free (by decide)
  simp only [walkPod, rests, waits, held, Bool.false_eq_true, if_false, if_true]

theorem walkPod_passed {w : Walk} {p : Nat} {s : State} (rests : walkRuns (podAt s p) = false) (asks : (podAt s p).wake = none) :
    walkPod (w, s) p = (w, s) := by
  simp [walkPod, rests, asks]

/-- A step of the walk changes its Pod, if anything. -/
theorem walkPod_only (w : Walk) (s : State) (p : Nat) : (walkPod (w, s) p).2 = s ∨ ∃ f, (walkPod (w, s) p).2 = modPod p f s := by
  unfold walkPod
  extract_lets s' d d1 expired run d2 newlyLean
  by_cases runs : walkRuns d = true
  · rw [if_pos runs]
    exact .inr ⟨fun _ => d2, rfl⟩
  · rw [if_neg runs]
    by_cases waits : d.wake.isSome = true
    · rw [if_pos waits]
      split
      · exact .inr ⟨fun d => { grantWake d with powerWait := true }, rfl⟩
      · exact .inr ⟨refuseWake, rfl⟩
    · rw [if_neg waits]
      exact .inl rfl

/-- Settles O13: the wake granted, refused or absent, and every other Pod. -/
theorem governorWalksOnePod : Obligations.GovernorWalksOnePod := by
  unfold Obligations.GovernorWalksOnePod
  intro w p s _
  refine ⟨walkPod_granted, walkPod_refused, walkPod_passed, fun r _ other => ?_⟩
  rcases walkPod_only w s p with only | ⟨f, only⟩
  · rw [only]
  · rw [only, podAt_modPod_ne other]

/-! ### An evaluation -/

/-- Of the hub, the governor's outcome changes the Pane's level, the decision record, the Strip's grant, the log and counts alone. -/
structure Decided (s t : State) : Prop where
  triggers : t.power.triggers = s.power.triggers
  decisions : t.power.decisions = s.power.decisions
  dict : t.dict = s.dict
  engine : t.engine = s.engine
  chip : t.chip = s.chip
  slots : t.shell.slots = s.shell.slots

theorem Decided.refl (s : State) : Decided s s := ⟨rfl, rfl, rfl, rfl, rfl, rfl⟩

theorem Decided.trans {s t u : State} (a : Decided s t) (b : Decided t u) : Decided s u :=
  ⟨b.triggers.trans a.triggers, b.decisions.trans a.decisions, b.dict.trans a.dict, b.engine.trans a.engine, b.chip.trans a.chip,
    b.slots.trans a.slots⟩

theorem Decided.ite {c : Prop} [Decidable c] {s t u : State} (a : Decided s t) (b : Decided s u) : Decided s (if c then t else u) := by
  split <;> assumption

theorem logAdd_decided (kind inst detail : Nat) (payload : List Nat) (s : State) : Decided s (logAdd kind inst detail payload s) := by
  obtain ⟨q, n, lost, shell⟩ := logAdd_shell kind inst detail payload s
  rw [logAdd_only, shell]
  exact ⟨rfl, rfl, rfl, rfl, rfl, rfl⟩

theorem traceAdd_decided (kind stamp : Nat) (payload : List Nat) (s : State) : Decided s (traceAdd kind stamp payload s) := by
  rw [traceAdd_only]
  exact ⟨rfl, rfl, rfl, rfl, rfl, rfl⟩

theorem hubCount_decided (k : Nat) (s : State) : Decided s (hubCount k s) := ⟨rfl, rfl, rfl, rfl, rfl, rfl⟩

theorem walk_decided (l : List Nat) (w : Walk) (s : State) : Decided s (l.foldl walkPod (w, s)).2 := by
  refine List.foldlRecOn (motive := fun x : Walk × State => Decided s x.2) l walkPod (.refl s) fun x kept p _ => ?_
  rcases walkPod_only x.1 x.2 p with only | ⟨f, only⟩
  · rw [only]
    exact kept
  · rw [only]
    exact kept.trans ⟨rfl, rfl, rfl, rfl, rfl, rfl⟩

theorem releaseWakes_decided (s : State) : Decided s (releaseWakes s) := .ite (.refl s) ⟨rfl, rfl, rfl, rfl, rfl, rfl⟩

/-- The triggers are consumed and the evaluation is counted. -/
def evaluationBegun (s : State) : State :=
  { s with power := { s.power with triggers := [], decisions := wrap32 (s.power.decisions + 1) } }

theorem evaluate_decided {tr : Trigger} {rest : List Trigger} {s : State} (waits : s.power.triggers = tr :: rest)
    (plain : ∀ x ∈ tr :: rest, x.code ≠ 8) : Decided (evaluationBegun s) (evaluate s) := by
  have noRestart : s.power.triggers.find? (·.code == 8) = none := by
    rw [waits, List.find?_eq_none]
    exact fun x mem => by simpa using plain x mem
  have named : (tr.code == 8) = false := by simpa using plain tr List.mem_cons_self
  unfold evaluate
  rw [noRestart, waits]
  extract_lets restart t strip grantStrip _ _ s0 running start overrun
  have begun : Decided (evaluationBegun s) s0 := ⟨rfl, rfl, rfl, rfl, rfl, rfl⟩
  have walked := begun.trans (walk_decided (byRank s0) start s0)
  generalize (byRank s0).foldl walkPod (start, s0) = r at walked
  obtain ⟨w, s1⟩ := r
  dsimp -zeta only at walked ⊢
  extract_lets level dimmed refused outcome changed _ s2 _ s3 s4 s5
  have levelled : Decided (evaluationBegun s) s2 := walked.trans ⟨rfl, rfl, rfl, rfl, rfl, rfl⟩
  have recorded : Decided s2 s3 := by
    refine .ite (.trans ?_ (logAdd_decided ..)) (.refl s2)
    exact ⟨rfl, rfl, rfl, rfl, rfl, rfl⟩
  have counted : Decided s3 s5 := (traceAdd_decided ..).trans (.ite (hubCount_decided ..) (.refl s4))
  have quiet : ¬ (overrun && t.code == 8) = true := by
    rw [show t = tr from rfl, named, Bool.and_false]
    decide
  rw [if_neg quiet]
  exact levelled.trans (recorded.trans (counted.trans (releaseWakes_decided s5)))

theorem Decided.quiet {s t : State} (d : Decided s t) (q : Quiet s) : Quiet t :=
  ⟨by rw [d.engine]; exact q.running, by rw [d.engine]; exact q.frames, by rw [d.chip]; exact q.standby, by rw [d.engine]; exact q.noSub⟩

/-- Settles O12: the evaluation that is due, the one without a trigger, and the trigger of a restore hold. -/
theorem governorConsumesTriggers : Obligations.GovernorConsumesTriggers := by
  unfold Obligations.GovernorConsumesTriggers
  refine ⟨fun tr rest s free waits plain => ?_, fun s idle => ?_, fun p s lean run acts => ?_⟩
  · have decided := evaluate_decided waits plain
    have due : s.power.triggers ≠ [] ∧ governorActs s = true := ⟨by simp [waits], by simp [governorActs, free.active]⟩
    have quiet : Quiet (evaluationBegun s) := ⟨free.running, free.frames, free.standby, free.noSub⟩
    refine ⟨evaluate s, ?_, decided.triggers, decided.decisions, decided.dict, decided.engine, decided.chip, decided.slots⟩
    show execGovernorEvaluation s = _
    rw [execGovernorEvaluation, if_pos due, settle_quiet (decided.quiet quiet)]
  · exact congrArg Host.Outcome.next (if_neg fun due => due.1 idle)
  · have due : (podAt s p.val).mode = .lean ∧ holdRun s (podAt s p.val) = true ∧ governorActs s = true :=
      ⟨lean, decide_eq_true run, acts⟩
    exact congrArg Host.Outcome.next (if_pos due)

end Sys2Proof.Laws
end

section
/-! The power-fail warning (R29, R125): the sequencer that it starts leaves the chip in HOLD. -/

namespace Sys2Proof.Laws

open Sys2Proof.Machine

theorem abortStore_steps (s : State) : StepsKept s (abortStore s) := by
  unfold abortStore
  cases s.shell.run with
  | none => exact ⟨fun _ => rfl, rfl, rfl, rfl, rfl, rfl, rfl⟩
  | some r =>
    dsimp -zeta only
    extract_lets _ s1 s2
    have torn : StepsKept s s1 := ⟨fun _ => rfl, rfl, rfl, rfl, rfl, rfl, rfl⟩
    have ended : StepsKept s s2 := torn.trans (storeEnds_steps ..)
    clear_value s2
    exact ended.trans ⟨fun _ => rfl, rfl, rfl, rfl, rfl, rfl, rfl⟩

theorem holdFrozen_chip {s : State} (hold : s.chip.state = .hold) : (holdFrozen s).chip = s.chip := by
  unfold holdFrozen
  extract_lets s1
  have stepped : s1.chip = s.chip := rfl
  split_ifs
  · exact stepped
  · exact ((holdStepThree_begun s1).1.chip (by rw [stepped]; exact hold)).trans stepped
  · rfl

theorem holdBegin_chip {s : State} (hold : s.chip.state = .hold) : (holdBegin s).chip = s.chip := by
  have frozen : ∀ u : State, u.chip = s.chip → (freezePods u).chip = s.chip := fun u same =>
    ((freezePods_steps u).chip (by rw [same]; exact hold)).trans same
  have begun := frozen { s with power := { s.power with holdWait := false } } rfl
  unfold holdBegin
  rw [holdFrozen_chip (by rw [begun]; exact hold), begun]

theorem enterHold_chip (mv : Nat) (s : State) : (enterHold mv s).chip = { s.chip with state := .hold, reset := none, standbyWanted := false } := by
  unfold enterHold
  extract_lets from_ run snapshot store s1 s2 _ _ _ _ s3 s4
  have sources : s2.chip = s.chip := by
    have logged : s1.chip = s.chip := logAdd_chip ..
    have started : OuterStep s1 s2 := .ite ((startOsc_outer ..).trans ((startOsc_outer ..).trans (startOsc_outer ..))) (.refl s1)
    exact started.chip.trans logged
  have entered : s3.chip = { s.chip with state := .hold, reset := none, standbyWanted := false } := by rw [← sources]
  have raised : StepsKept s3 s4 := by
    refine StepsKept.trans ?_ ((abortStore_steps _).trans (raise_steps ..))
    exact guard_steps ..
  have held : s4.chip = s3.chip := raised.chip (by rw [entered])
  have begun : (if s4.power.holdWait then s4 else holdBegin s4).chip = s4.chip := by
    split
    · rfl
    · exact holdBegin_chip (by rw [held, entered])
  rw [(displayWatch_outer _).chip, begun, held, entered]

/-- A dip that R125 answers. -/
def Warns (mv micros : Nat) (s : State) : Prop :=
  10 ≤ micros ∧ mv ≤ 16700 ∧ (s.chip.state = .boot ∨ s.chip.state = .active ∨ s.chip.state = .standby ∨ s.chip.state = .safe)

theorem execPowerFailWarning_warns {mv micros : Nat} {s : State} (dip : Warns mv micros s) :
    execPowerFailWarning mv micros s = .next (enterHold mv s) := congrArg Host.Outcome.next (if_pos dip)

theorem execPowerFailWarning_ignored {mv micros : Nat} {s : State} (calm : ¬ Warns mv micros s) :
    execPowerFailWarning mv micros s = .next s := congrArg Host.Outcome.next (if_neg calm)

/-- Settles O9: a dip that warns, one that is too short, and one in HOLD or without power. -/
theorem powerFailWarningEntersHold : Obligations.PowerFailWarningEntersHold := by
  unfold Obligations.PowerFailWarningEntersHold
  refine ⟨fun mv us s long low state => ?_, fun mv us s short => ?_, fun mv us s elsewhere => ?_⟩
  · exact ⟨_, execPowerFailWarning_warns ⟨long, low, state⟩, enterHold_chip mv s⟩
  · exact execPowerFailWarning_ignored fun dip => absurd dip.1 (Nat.not_le.2 short)
  · refine execPowerFailWarning_ignored ?_
    rintro ⟨-, -, state⟩
    rcases elsewhere with hold | dark
    · simp [hold] at state
    · simp [dark] at state

end Sys2Proof.Laws
end

section
/-! Power-on reset (R108, R187, R207, R215): what it starts anew and what it keeps. -/

namespace Sys2Proof.Laws

open Sys2Proof.Machine

/-- Starting the sources writes the clocks and the trace alone. -/
theorem startSources_only (s : State) : ∃ c o, startSources s = { s with clocks := c, obs := o } := by
  have fold (f : State → Nat → State) (step : ∀ t k, ∃ c o, f t k = { t with clocks := c, obs := o }) (l : List Nat) :
      ∃ c o, l.foldl f s = { s with clocks := c, obs := o } := by
    refine List.foldlRecOn (motive := fun t : State => ∃ c o, t = { s with clocks := c, obs := o }) l f ⟨_, _, rfl⟩ ?_
    rintro _ ⟨c, o, rfl⟩ k -
    obtain ⟨c', o', only⟩ := step { s with clocks := c, obs := o } k
    exact ⟨c', o', only⟩
  have restarts (t : State) (k : Nat) : ∃ c o, restartOsc k t = { t with clocks := c, obs := o } := by
    unfold restartOsc
    split
    · exact ⟨_, _, rfl⟩
    · exact ⟨_, _, setOsc_only ..⟩
  have starts (t : State) (k : Nat) : ∃ c o, startOsc k t = { t with clocks := c, obs := o } := by
    unfold startOsc
    dsimp only
    split
    · exact ⟨_, _, rfl⟩
    · exact ⟨_, _, setOsc_only ..⟩
  unfold startSources
  split
  · exact fold _ restarts _
  · exact fold _ starts _

/-- What B0 and B1 keep beside the cause of the reset, and the straps that they sample (R187). -/
structure StrapsSampled (straps : Straps) (s t : State) : Prop where
  straps : t.chip.straps = straps
  power : t.power = s.power
  dict : t.dict = s.dict
  engine : t.engine = s.engine
  slots : t.shell.slots = s.shell.slots
  banks : t.shell.banks = s.shell.banks
  armed : t.guard.armed = s.guard.armed

theorem bootStart_sampled (straps : Straps) (s : State) : StrapsSampled straps s (bootStart straps s) := by
  unfold bootStart
  dsimp only
  generalize hu : sinceBoot _ = u
  obtain ⟨c, o, only⟩ := startSources_only u
  rw [only, ← hu]
  exact ⟨rfl, rfl, rfl, rfl, rfl, rfl, rfl⟩

theorem resetRecord_powerOn (s : State) : StrapsSampled s.chip.straps s (resetRecord .powerOn s) := by
  unfold resetRecord
  extract_lets cls stamp
  generalize hu : State.mk .. = u
  obtain ⟨q, n, lost, shell⟩ := logAdd_shell 4 ResetKind.powerOn.code s.chip.state.code [cls] u
  rw [logAdd_only, shell, ← hu]
  exact ⟨rfl, rfl, rfl, rfl, rfl, rfl, rfl⟩

theorem StrapsSampled.trans {a b : Straps} {s t u : State} (x : StrapsSampled a s t) (y : StrapsSampled b t u) : StrapsSampled b s u :=
  ⟨y.straps, y.power.trans x.power, y.dict.trans x.dict, y.engine.trans x.engine, y.slots.trans x.slots, y.banks.trans x.banks,
    y.armed.trans x.armed⟩

/-- Before B4 Guard holds a fault, and nothing else comes of it (R190). -/
theorem raise_unarmed {s : State} (unarmed : s.guard.armed = false) (c : FaultClass) (p source detail : Nat) :
    ∃ g, raise c p source detail s = { s with guard := g } := by
  unfold raise
  simp only [unarmed, Bool.not_false, if_true]
  split <;> exact ⟨_, rfl⟩

/-- R108, R207, R215: BOOT with the straps sampled and POWER-ON recorded, everything but the shadow array anew. -/
structure PoweredOn (straps : Straps) (s t : State) : Prop where
  state : t.chip.state = .boot
  phases : t.chip.phases = [0, 1]
  straps : t.chip.straps = straps
  causeKind : t.chip.causeKind = 1
  dict : t.dict = State.reset.dict
  engine : t.engine = Engine.reset
  slots : t.shell.slots = s.shell.slots
  banks : t.shell.banks = s.shell.banks
  phase : t.power.phase = .released
  charger : t.power.charger = true

theorem powerOnReset_on (straps : Straps) (s : State) : PoweredOn straps s (powerOnReset straps s) := by
  unfold powerOnReset
  extract_lets z cls _ _ _ _ _ _ s1 _ s2
  have booting : Booting _ s2 := bootStart_booting ..
  have cause : s2.chip.causeKind = 1 := by
    rw [booting.causeKind, resetRecord_causeKind]
    rfl
  have sampled : StrapsSampled straps s1 s2 := by
    refine StrapsSampled.trans (a := s1.chip.straps) ?_ (bootStart_sampled ..)
    refine StrapsSampled.trans (a := s1.chip.straps) ?_ (resetRecord_powerOn _)
    exact ⟨rfl, rfl, rfl, rfl, rfl, rfl, rfl⟩
  clear_value s2
  have unarmed : s2.guard.armed = false := sampled.armed
  have raised : ∃ g, (if cls = 0x12 then raise .pwr 0 5 0 s2 else s2) = { s2 with guard := g } := by
    split
    · exact raise_unarmed unarmed ..
    · exact ⟨_, rfl⟩
  obtain ⟨g, only⟩ := raised
  rw [only]
  exact ⟨booting.state, booting.phases, sampled.straps, cause, sampled.dict, sampled.engine, sampled.slots, sampled.banks,
    congrArg Power.phase sampled.power, congrArg Power.charger sampled.power⟩

/-- Settles O8: the release, and the trunk too low for it. -/
theorem powerOnResetReleases : Obligations.PowerOnResetReleases := by
  unfold Obligations.PowerOnResetReleases
  refine ⟨fun mv straps s dark bucks good high => ?_, fun mv straps s low => ?_⟩
  · have on := powerOnReset_on straps { s with power := { s.power with level := mv } }
    exact ⟨_, congrArg Host.Outcome.next (if_pos ⟨dark, bucks, good, high⟩), on.state, on.phases, on.straps, on.causeKind, on.dict, on.engine,
      on.slots, on.banks, on.phase, on.charger⟩
  · exact congrArg Host.Outcome.next (if_neg fun release => absurd release.2.2.2 (Nat.not_le.2 low))

end Sys2Proof.Laws
end

section
/-! The power die between its start and its faults (R101, R107, R111, R127, R128, R130, R131). -/

namespace Sys2Proof.Laws

open Sys2Proof.Machine

/-! ### The hold-up reserve -/

theorem reserveNow_onHold {s : State} (sampled : s.power.sampled = true) (carries : s.power.onHold = true) (trunk vhold : Nat) :
    reserveNow trunk vhold s = min vhold s.power.vhold := by
  simp [reserveNow, sampled, carries]

/-- Outside HOLD a lower reading counts as far as leakage explains it (R131). -/
theorem reserveNow_leaks {vhold : Nat} {s : State} (sampled : s.power.sampled = true) (off : s.power.onHold = false)
    (lower : vhold < s.power.vhold) (trunk : Nat) : reserveNow trunk vhold s = max vhold (s.power.vhold - 1) := by
  simp [reserveNow, sampled, off, Nat.not_le.2 lower]

/-- Without the charger a higher reading counts for nothing (R128). -/
theorem reserveNow_keeps {trunk vhold : Nat} {s : State} (sampled : s.power.sampled = true) (off : s.power.onHold = false)
    (higher : s.power.vhold ≤ vhold) (idle : charges trunk s = false) : reserveNow trunk vhold s = s.power.vhold := by
  simp [reserveNow, sampled, off, higher, idle]

/-- The charger lifts the reserve from where it stood, to no more than the trunk (R128). -/
theorem reserveNow_charges {trunk vhold : Nat} {s : State} (sampled : s.power.sampled = true) (off : s.power.onHold = false)
    (higher : s.power.vhold ≤ vhold) (on : charges trunk s = true) :
    s.power.vhold ≤ reserveNow trunk vhold s ∧ reserveNow trunk vhold s ≤ trunk := by
  have below : s.power.vhold + 20 < trunk := by
    simp only [charges, Bool.and_eq_true, decide_eq_true_eq] at on
    exact on.2
  simp only [reserveNow, sampled, off, higher, on, Bool.not_true, Bool.false_eq_true, if_false, if_true]
  split <;> omega

theorem charges_idle {trunk : Nat} {s : State} (idle : s.power.charger = false ∨ trunk ≤ s.power.vhold + 20) : charges trunk s = false := by
  rcases idle with off | near
  · rw [charges, off, Bool.false_and, Bool.false_and]
  · rw [charges, decide_eq_false (Nat.not_lt.2 near), Bool.and_false]

/-- R128, R131 of a reserve that the trunk charges. -/
theorem reserveNow_bounds {s : State} (sampled : s.power.sampled = true) (off : s.power.onHold = false) (trunk vhold : Nat) :
    s.power.vhold ≤ reserveNow trunk vhold s + 1 ∧ reserveNow trunk vhold s ≤ max trunk s.power.vhold ∧
      (s.power.charger = false ∨ trunk ≤ s.power.vhold + 20 → reserveNow trunk vhold s ≤ s.power.vhold) := by
  rcases Nat.lt_or_ge vhold s.power.vhold with lower | higher
  · rw [reserveNow_leaks sampled off lower]
    omega
  · cases on : charges trunk s with
    | false =>
      rw [reserveNow_keeps sampled off higher on]
      omega
    | true =>
      obtain ⟨least, most⟩ := reserveNow_charges sampled off higher on
      refine ⟨by omega, by omega, fun idle => ?_⟩
      rw [charges_idle idle] at on
      exact absurd on (by decide)

/-! ### The commands of the power die -/

theorem execTrunkStart_idle {s : State} (dark : s.chip.state = .unpowered) (idle : s.power.phase = .idle) (mv : Nat) :
    execTrunkStart mv s = .next (if 11700 ≤ mv then { s with power := { s.power with phase := .inrush, level := mv } } else s) := by
  simp only [execTrunkStart, dark, idle, true_and]

theorem execStartStop_started {s : State} (dark : s.chip.state = .unpowered) (started : s.power.phase ≠ .idle) (mv : Nat) :
    execStartStop mv s = .next (if mv ≤ 11800 then { s with power := { s.power with phase := .idle, rails := 0, level := mv } } else s) := by
  simp only [execStartStop, dark, ne_eq, started, not_false_eq_true, true_and]

/-- Settles O7: start, inrush and stop, the capacitance, the reserve that is not ready, a sample, the reserve's bounds, a rail. -/
theorem powerDieActs : Obligations.PowerDieActs := by
  unfold Obligations.PowerDieActs
  refine ⟨fun mv s dark idle => execTrunkStart_idle dark idle mv, fun s dark inrush => ?_,
    fun mv s dark started => execStartStop_started dark started mv, fun uf s on => ?_, fun s on early => ?_,
    fun trunk vhold hub pwr s on => ?_, fun trunk vhold s sampled => ?_, fun rail s on => ?_⟩
  · exact congrArg Host.Outcome.next (if_pos ⟨dark, inrush⟩)
  · exact congrArg Host.Outcome.next (if_neg on)
  · have due : ¬ (s.chip.state = .unpowered ∨ s.power.readyFault = true) := by simp [on, early]
    exact congrArg Host.Outcome.next (if_neg due)
  · exact congrArg Host.Outcome.next (if_neg on)
  · refine ⟨fun carries => ?_, fun off => reserveNow_bounds sampled off trunk vhold⟩
    rw [reserveNow_onHold sampled carries]
    exact Nat.min_le_right ..
  · exact congrArg Host.Outcome.next (if_pos on)

end Sys2Proof.Laws
end

section
/-! One tick of time on an empty queue (R178, R184, log 1). -/

namespace Sys2Proof.Laws

open Sys2Proof.Machine

theorem stampRuns_unpowered {s : State} (down : s.chip.state = .unpowered) : stampRuns s = false := by
  simp [stampRuns, down]

theorem stampRuns_powered {s : State} (powered : s.chip.state ≠ .unpowered) : stampRuns s = (s.clocks.spineLocked || huskRuns s) := by
  simp [stampRuns, powered]

/-- Where no clock keeps it, STAMP stands and the model's clock alone goes on. -/
theorem idleTick_stopped {s : State} (stopped : stampRuns s = false) :
    idleTick s = { s with time := { s.time with elapsed := s.time.elapsed + 1 } } :=
  if_pos (by rw [stopped]; rfl)

/-- R178: while SPINE is locked STAMP takes each tick. -/
theorem idleTick_locked {s : State} (powered : s.chip.state ≠ .unpowered) (locked : s.clocks.spineLocked = true) :
    idleTick s = { s with time := { s.time with elapsed := s.time.elapsed + 1, stamp := s.time.stamp + 1 } } := by
  have runs : stampRuns s = true := by rw [stampRuns_powered powered, locked]; rfl
  simp only [idleTick, runs, locked, Bool.not_true, Bool.false_eq_true, if_false, if_true]

/-- R184: on HUSK STAMP takes 2000 ticks at once, and none between. -/
theorem idleTick_onHusk {s : State} (powered : s.chip.state ≠ .unpowered) (unlocked : s.clocks.spineLocked = false)
    (husk : huskRuns s = true) :
    idleTick s = { s with time := if 2000 ≤ s.time.huskTicks + 1
      then { s.time with elapsed := s.time.elapsed + 1, stamp := s.time.stamp + 2000, huskTicks := 0 }
      else { s.time with elapsed := s.time.elapsed + 1, huskTicks := s.time.huskTicks + 1 } } := by
  have runs : stampRuns s = true := by rw [stampRuns_powered powered, husk, Bool.or_true]
  simp only [idleTick, runs, unlocked, Bool.not_true, Bool.false_eq_true, if_false, ge_iff_le]
  split_ifs <;> rfl

theorem idleTick_only (s : State) :
    idleTick s = { s with time := (idleTick s).time } ∧ (idleTick s).time.elapsed = s.time.elapsed + 1 := by
  unfold idleTick
  dsimp only
  split_ifs <;> exact ⟨rfl, rfl⟩

/-- Settles O2: the tick is `idleTick`, by the clock that keeps STAMP. -/
theorem emptyQueuePassesOneTick : Obligations.EmptyQueuePassesOneTick := by
  unfold Obligations.EmptyQueuePassesOneTick
  intro s empty
  obtain ⟨only, elapsed⟩ := idleTick_only s
  refine ⟨idleTick s, ?_, elapsed, fun stopped => ?_, fun powered locked => ?_, fun powered unlocked husk early => ?_,
    fun powered unlocked husk due => ?_⟩
  · rw [← only]
    simp only [step, empty]
  · have stands : stampRuns s = false := by
      rcases stopped with down | ⟨unlocked, noHusk⟩
      · exact stampRuns_unpowered down
      · simp [stampRuns, unlocked, noHusk]
    rw [idleTick_stopped stands]
  · rw [idleTick_locked powered locked]
  · rw [idleTick_onHusk powered unlocked husk, if_neg (by omega)]
    exact ⟨rfl, rfl⟩
  · rw [idleTick_onHusk powered unlocked husk, if_pos due]
    exact ⟨rfl, rfl⟩

end Sys2Proof.Laws
end

section
/-! The sources of the clock tree (R139-R143, R174, R189). -/

namespace Sys2Proof.Laws

open Sys2Proof.Machine

/-! ### The detector -/

theorem execOscillationDetected_starts {k : Fin 6} {s : State} (on : (oscAt s k.val).driven = true)
    (still : (oscAt s k.val).oscillating = false) :
    execOscillationDetected k s = .next { s with clocks := { s.clocks with
      oscs := putAt s.clocks.oscs k.val { oscAt s k.val with oscillating := true, count := 0 } } } :=
  congrArg Host.Outcome.next (if_neg (by simp [on, still]))

theorem execOscillationDetected_idle {k : Fin 6} {s : State} (idle : (oscAt s k.val).driven = false ∨ (oscAt s k.val).oscillating = true) :
    execOscillationDetected k s = .next s :=
  congrArg Host.Outcome.next (if_pos (by simpa using idle))

theorem execOscillationLost_restarts {k : Fin 6} {s : State} (seen : (oscAt s k.val).oscillating = true) :
    execOscillationLost k s = .next { s with clocks := { s.clocks with
      oscs := putAt s.clocks.oscs k.val { oscAt s k.val with oscillating := false, count := 0 } } } :=
  congrArg Host.Outcome.next (if_neg (by simp [seen]))

theorem execOscillationLost_idle {k : Fin 6} {s : State} (still : (oscAt s k.val).oscillating = false) : execOscillationLost k s = .next s :=
  congrArg Host.Outcome.next (if_pos (by simp [still]))

/-! ### Qualification and failure -/

/-- The source has counted out and is QUALIFIED. -/
def sourceCounted (k : Nat) (s : State) : State := setOsc k { oscAt s k with code := .qualified, count := qualCount k } 4 s

theorem execSourceQualified_idle {k : Fin 6} {s : State} (still : (oscAt s k.val).oscillating = false) : execSourceQualified k s = .next s :=
  congrArg Host.Outcome.next (if_pos (by simp [still]))

@[simp] theorem setOsc_power (k : Nat) (o : Osc) (cause : Nat) (s : State) : (setOsc k o cause s).power = s.power := by
  rw [setOsc_only]

/-- A source that is not QUALIFIED yet becomes so, and HOLD goes on where it waits for it (R174). -/
theorem execSourceQualified_counted {k : Fin 6} {s : State} (fresh : (oscAt s k.val).code ≠ .qualified)
    (seen : (oscAt s k.val).oscillating = true) :
    execSourceQualified k s = .next (if k.val = 5 ∧ s.power.holdWait = true then holdBegin (sourceCounted k.val s)
      else afterQualified k.val ((oscAt s k.val).code == .failed) (sourceCounted k.val s)) := by
  unfold execSourceQualified
  dsimp only
  rw [if_neg (by simp [seen]), if_neg fresh]
  simp only [setOsc_power, sourceCounted]

theorem execLfrcStop_unused {s : State} (husk : huskOnLfxo s = true) (wanted : devVal s 0x2115 0 = 1) :
    execLfrcStop s = .next (stopOsc 1 s) :=
  congrArg Host.Outcome.next (if_pos (by simp [husk, wanted]))

/-- Settles O14: the detector, the end of the count, the start-up limit, and LFRC's stop. -/
theorem sourcesQualifyOrFail : Obligations.SourcesQualifyOrFail := by
  unfold Obligations.SourcesQualifyOrFail
  refine ⟨fun k s on still => execOscillationDetected_starts on still, fun k s seen => execOscillationLost_restarts seen,
    fun k s idle => execOscillationDetected_idle idle, fun k s still => ⟨execOscillationLost_idle still, execSourceQualified_idle still⟩,
    fun s fresh seen waits => ?_, fun k s fresh seen noWait => ?_, fun k s crystal starting => ?_, fun s husk wanted whole => ?_,
    fun s husk wanted failed => ?_⟩
  · refine (execSourceQualified_counted (k := 5) fresh seen).trans ?_
    rw [if_pos ⟨rfl, waits⟩]
    rfl
  · refine (execSourceQualified_counted fresh seen).trans ?_
    rw [if_neg fun ⟨holdRc, waits⟩ => by simp [noWait holdRc] at waits]
    rfl
  · exact congrArg Host.Outcome.next ((if_pos ⟨crystal, starting⟩).trans (by simp only [Bool.not_eq_true']))
  · refine (execLfrcStop_unused husk wanted).trans ?_
    rw [stopOsc, if_neg whole]
  · refine (execLfrcStop_unused husk wanted).trans ?_
    rw [stopOsc, if_pos failed]

end Sys2Proof.Laws
end

section
/-! The SPINE PLL, and the discipline of its fraction F (R144-R151, R170, R171, R184). -/

namespace Sys2Proof.Laws

open Sys2Proof.Machine

/-! ### Lock and loss of lock -/

/-- The SPINE mux rests on one of its sides. -/
def SpineRests (s : State) : Prop := (muxAt s 2).code = .primary ∨ (muxAt s 2).code = .alternate

theorem timeGap_keeps (kind : Nat) (before after : Tick) (uncertainty : Nat) (s : State) :
    (timeGap kind before after uncertainty s).clocks = s.clocks ∧
      (timeGap kind before after uncertainty s).time =
        { s.time with gapCount := wrap32 (s.time.gapCount + 1), lastGap := ⟨kind, before, after, uncertainty⟩ } := by
  unfold timeGap
  rw [logAdd_only]
  exact ⟨rfl, rfl⟩

/-- R145, R184: the lock ends the relock and moves STAMP no further. -/
theorem spineLock_locked (s : State) :
    (spineLock s).clocks.spineLocked = true ∧ (spineLock s).clocks.relock = none ∧ (spineLock s).time.stamp = s.time.stamp := by
  unfold spineLock
  extract_lets s1 lost _ _ s2
  cases s.clocks.relock with
  | none => exact ⟨rfl, rfl, rfl⟩
  | some t =>
    dsimp only
    split
    · obtain ⟨clocks, time⟩ := timeGap_keeps 3 t s2.time.stamp 31 s2
      rw [time, clocks]
      exact ⟨rfl, rfl, rfl⟩
    · exact ⟨rfl, rfl, rfl⟩

theorem execSpinePllLock_locks {s : State} (on : s.clocks.spineOn = true) (unlocked : s.clocks.spineLocked = false)
    (reference : qualified s (if s.clocks.spineHfrc then 3 else 2) = true) (rests : SpineRests s) :
    execSpinePllLock s = .next (spineLock s) :=
  congrArg Host.Outcome.next (if_pos (by simpa [on, unlocked, reference, SpineRests] using rests))

theorem execSpineRelockTimeout_rescues {s : State} (relocks : s.clocks.relock.isSome = true) (unlocked : s.clocks.spineLocked = false)
    (rests : SpineRests s) :
    execSpineRelockTimeout s = .next (rescueMux 2 ((muxAt s 2).code == .primary) (raise .clk 0 5 0 s)) :=
  congrArg Host.Outcome.next (if_pos (by simpa [relocks, unlocked, SpineRests] using rests))

/-- Settles O15: the lock, its loss, and the relock that takes too long. -/
theorem spineLocksAndUnlocks : Obligations.SpineLocksAndUnlocks := by
  unfold Obligations.SpineLocksAndUnlocks
  refine ⟨fun s on unlocked reference rests => ⟨_, execSpinePllLock_locks on unlocked reference rests, spineLock_locked s⟩,
    fun s locked => ⟨spineUnlock s, congrArg Host.Outcome.next (if_pos locked), rfl, rfl, rfl, rfl⟩,
    fun s relocks unlocked rests => execSpineRelockTimeout_rescues relocks unlocked rests⟩

/-! ### F and its range -/

theorem clampInt_mem {lo hi : Int} (h : lo ≤ hi) (v : Int) : lo ≤ clampInt lo hi v ∧ clampInt lo hi v ≤ hi := by
  unfold clampInt
  split_ifs <;> omega

/-- The range of F lies above zero (R144). -/
theorem fracRange_le_nominal (hfrc : Bool) : 0 ≤ fracRange hfrc ∧ fracRange hfrc ≤ nominalFrac hfrc := by
  cases hfrc <;> decide

theorem clampFrac_mem (hfrc : Bool) (f : Int) :
    nominalFrac hfrc - fracRange hfrc ≤ (clampFrac hfrc f : Int) ∧ (clampFrac hfrc f : Int) ≤ nominalFrac hfrc + fracRange hfrc := by
  obtain ⟨positive, small⟩ := fracRange_le_nominal hfrc
  obtain ⟨above, below⟩ := clampInt_mem (lo := nominalFrac hfrc - fracRange hfrc) (hi := nominalFrac hfrc + fracRange hfrc) (by omega) f
  unfold clampFrac
  omega

/-! ### What moves F -/

theorem execHfrcMeasure_corrects {s : State} (locked : s.clocks.spineLocked = true) (onHfxo : s.clocks.spineHfrc = false)
    (ready : qualified s 3 = true) (steps : Int) :
    execHfrcMeasure steps s = .next { s with clocks := { s.clocks with hfrcOffset := clampInt (-1407374884) 1407374884 steps } } :=
  congrArg Host.Outcome.next (if_pos (by simp [locked, onHfxo, ready]))

/-- A node is the frequency source, and the link hears it (R149). -/
structure BrcHeard (s : State) : Prop where
  source : devVal s 0x2108 0 ≠ 0xFF
  locked : s.clocks.spineLocked = true
  plca : s.link.code = .follower ∨ s.link.code = .coordinator

theorem execBrcEstimate_heard {s : State} (h : BrcHeard s) (ppb : Int) :
    execBrcEstimate ppb s =
      (let t : State := { s with clocks := { s.clocks with freqError := ppb, brc := true } }
       .next (if timeFresh s then t else moveFrac (-(roundOpen (ppb * vcoRatio s) 1000000000)) t)) :=
  congrArg Host.Outcome.next (if_neg (by
    rintro (none | unlocked | deaf)
    · exact h.source none
    · simp [h.locked] at unlocked
    · rcases h.plca with plca | plca <;> simp [plca] at deaf))

theorem sourceNodeSet_other {node : Nat} {s : State} (other : node ≠ devVal s 0x2108 0) : (sourceNodeSet node s).clocks.brc = false := by
  rw [sourceNodeSet, if_neg other]

/-- A device-level value that no rule follows but the frequency source's (R149). -/
theorem hotDevice_sourceNode (v : Nat) (s : State) : hotDevice 0x2108 0 v s = setDev 0x2108 0 v (sourceNodeSet v s) := rfl

theorem execLfxoDiscipline_moves {s : State} (locked : s.clocks.spineLocked = true) (hfrc : s.clocks.spineHfrc = true)
    (husk : huskOnLfxo s = true) (stale : timeFresh s = false) (noBrc : s.clocks.brc = false) (steps : Int) :
    execLfxoDiscipline steps s = .next (moveFrac steps s) :=
  congrArg Host.Outcome.next (if_pos (by simp [locked, hfrc, husk, stale, noBrc]))

theorem execTimeFrameAbsence_stale {s : State} (stale : timeFresh s = false) :
    execTimeFrameAbsence s = .next { s with time := { s.time with lastTime := none } } :=
  congrArg Host.Outcome.next (if_neg (by simp [stale]))

/-! ### Frames of an RC-timed Pod -/

theorem execFramePeriodUpdate_mean {p : Fin 64} {s : State} (rc : rcTimed (podAt s p.val) = true)
    (enough : 1024 ≤ (podAt s p.val).periodFrames) :
    execFramePeriodUpdate p s = .next (modPod p.val (fun d => { d with
        framePeriod := (roundOpen (((d.marker - d.periodStart) * 65536 : Nat) : Int) d.periodFrames).toNat,
        periodStart := d.marker, periodFrames := 0 }) s) :=
  congrArg Host.Outcome.next (if_pos (by simp [rc, enough]))

theorem execRcFrameRateFault_raised {p : Fin 64} {hz silent : Nat} {s : State} (rc : rcTimed (podAt s p.val) = true)
    (off : hz < 14000000 ∨ 18000000 < hz ∨ 64 ≤ silent) : execRcFrameRateFault p hz silent s = .next (raise .pod p.val 5 0 s) :=
  congrArg Host.Outcome.next (if_pos (by simpa [rc, or_assoc] using off))

theorem execRcFrameRateFault_within {p : Fin 64} {hz silent : Nat} {s : State} (low : 14000000 ≤ hz) (high : hz ≤ 18000000)
    (heard : silent < 64) : execRcFrameRateFault p hz silent s = .next s :=
  congrArg Host.Outcome.next (if_neg (by
    simp only [Bool.and_eq_true, Bool.or_eq_true, decide_eq_true_eq]
    omega))

/-- Settles O19: what moves F, the range that F keeps, and the frames of an RC-timed Pod. -/
theorem frequencyIsDisciplined : Obligations.FrequencyIsDisciplined := by
  unfold Obligations.FrequencyIsDisciplined
  refine ⟨fun steps s locked onHfxo ready => execHfrcMeasure_corrects locked onHfxo ready steps,
    fun ppb s source locked plca => execBrcEstimate_heard ⟨source, locked, plca⟩ ppb, fun s => rfl, fun v s other => ?_,
    fun steps s locked hfrc husk stale noBrc => ?_, fun s => rfl, fun s stale => execTimeFrameAbsence_stale stale,
    fun hfrc f => clampFrac_mem hfrc f, fun p s rc enough => execFramePeriodUpdate_mean rc enough,
    fun p hz silent s rc off => execRcFrameRateFault_raised rc off,
    fun p hz silent s low high heard => execRcFrameRateFault_within low high heard⟩
  · rw [hotDevice_sourceNode, setDev_clocks, sourceNodeSet_other other]
  · refine (execLfxoDiscipline_moves locked hfrc husk stale noBrc steps).trans ?_
    rw [moveFrac, hfrc]

end Sys2Proof.Laws
end

section
/-! TIME frames and the steps of STAMP (R178-R180, R489, R639, R640). -/

namespace Sys2Proof.Laws

open Sys2Proof.Machine

/-! ### Faults and gaps move no STAMP -/

/-- The state's time is as it was. -/
structure TimeKept (s t : State) : Prop where
  time : t.time = s.time

theorem TimeKept.refl (s : State) : TimeKept s s := ⟨rfl⟩

theorem TimeKept.trans {s t u : State} (a : TimeKept s t) (b : TimeKept t u) : TimeKept s u := ⟨b.time.trans a.time⟩

theorem TimeKept.ite {c : Prop} [Decidable c] {s t u : State} (a : TimeKept s t) (b : TimeKept s u) : TimeKept s (if c then t else u) := by
  split <;> assumption

theorem TimeKept.foldl {α : Type} {f : State → α → State} (step : ∀ s a, TimeKept s (f s a)) (l : List α) (s : State) :
    TimeKept s (l.foldl f s) :=
  List.foldlRecOn (motive := TimeKept s) l f (.refl s) fun t kept a _ => kept.trans (step t a)

theorem modPod_timeKept (p : Nat) (f : Pod → Pod) (s : State) : TimeKept s (modPod p f s) := ⟨rfl⟩

theorem modInst_timeKept (k : Nat) (f : Inst → Inst) (s : State) : TimeKept s (modInst k f s) := ⟨rfl⟩

theorem putGuard_timeKept (g : Guard) (s : State) : TimeKept s { s with guard := g } := ⟨rfl⟩

theorem displayWatch_timeKept (s : State) : TimeKept s (displayWatch s) := ⟨by rw [displayWatch_only]⟩

theorem evAdd_timeKept (r : EvRec) (s : State) : TimeKept s (evAdd r s) := ⟨by rw [evAdd_only]⟩

theorem closeGap_timeKept (p cause : Nat) (start stop : Tick) (bound : Option Nat) (dormant add : Bool) (s : State) :
    TimeKept s (closeGap p cause start stop bound dormant add s) := ⟨(closeGap_step ..).time⟩

theorem histAdd_timeKept (c : FaultClass) (p source action flags detail before : Nat) (logged notified : Bool) (s : State) :
    TimeKept s (histAdd c p source action flags detail before logged notified s) := by
  unfold histAdd
  extract_lets k seq inst e g s1 s2 podByte s3
  have traced : TimeKept s s2 := (putGuard_timeKept ..).trans ⟨(traceAdd_step 0 ..).time⟩
  have recorded : TimeKept s s3 := .ite (traced.trans ⟨(logAdd_step 0 ..).time⟩) traced
  exact .ite (recorded.trans (evAdd_timeKept ..)) recorded

theorem withBooking_timeKept (p : Nat) (f : Pod → Pod × List PhaseGap) (s : State) : TimeKept s (withBooking p f s) :=
  ((modPod_timeKept ..).trans (modPod_timeKept ..)).trans (.foldl (fun _ _ => closeGap_timeKept ..) _ _)

theorem drainEvents_timeKept (p : Nat) (s : State) : TimeKept s (drainEvents p s) :=
  .ite (.refl s) ((TimeKept.foldl (fun s r => evAdd_timeKept ⟨2, p, eventOctets r⟩ s) _ s).trans (modPod_timeKept ..))

theorem endBooking_timeKept (p : Nat) (limit : Option Tick) (s : State) : TimeKept s (endBooking p limit s) := by
  unfold endBooking
  extract_lets stop s0 s1 source s2
  have booked : TimeKept s s0 := .foldl (fun s _ => .ite (withBooking_timeKept ..) (.refl s)) _ s
  exact booked.trans ((withBooking_timeKept ..).trans ((modPod_timeKept ..).trans (drainEvents_timeKept ..)))

theorem freezePod_timeKept (p : Nat) (s : State) : TimeKept s (freezePod p s) := by
  unfold freezePod freezeNow
  extract_lets s1 s2
  have stopped : TimeKept s1 s2 := .ite (endBooking_timeKept ..) (.refl s1)
  exact .ite (modPod_timeKept ..) (((modPod_timeKept ..).trans stopped).trans (modPod_timeKept ..))

theorem enterSafe_timeKept (s : State) : TimeKept s (enterSafe s) := by
  have frozen : TimeKept s (freezePods s) := .foldl (fun s p => freezePod_timeKept p s) _ s
  have held (u : State) (k : TimeKept s u) : TimeKept s (runTimers false (setChip .safe u)) := ⟨k.time⟩
  exact (held _ frozen).trans (displayWatch_timeKept _)

theorem levelFour_timeKept (c : FaultClass) (p source : Nat) (s : State) : TimeKept s (levelFour c p source s) := by
  unfold levelFour
  extract_lets _ s1
  have noted : TimeKept s s1 := putGuard_timeKept ..
  cases s.chip.state
  case active | boot => exact noted.trans (enterSafe_timeKept s1)
  case standby => exact noted.trans (putGuard_timeKept ..)
  case unpowered | hold | safe => exact noted

/-- The containment of TIME freezes its frames, and nothing else comes of it (R523). -/
theorem enterContainment_timeKept (p : Nat) (s : State) : TimeKept s (enterContainment .time p s) := by
  unfold enterContainment
  exact modInst_timeKept ..

theorem levelEffects_timeKept (p source level : Nat) (s : State) : TimeKept s (levelEffects .time p source level s) := by
  unfold levelEffects
  extract_lets k i s1
  have contained : TimeKept s s1 := .ite (enterContainment_timeKept ..) (.refl s)
  exact .ite (contained.trans (levelFour_timeKept ..)) contained

theorem dropEnded_timeKept (k : Nat) (s : State) : TimeKept s (dropEnded k s) := by
  unfold dropEnded
  exact .ite ⟨rfl⟩ (modInst_timeKept ..)

theorem raiseAt_timeKept (p source detail : Nat) (at_ : Tick) (held present : Bool) (s : State) (least : Nat) :
    TimeKept s (raiseAt .time p source detail at_ held present s least) := by
  have risen (u : State) (f : Inst → Inst) (action flags before level k : Nat) (g : Bool) (raised : TimeKept s u) :
      TimeKept s (dropEnded k (levelEffects .time p source level
        (histAdd .time p source action flags detail before g g (modInst k f u)))) :=
    raised.trans ((modInst_timeKept ..).trans ((histAdd_timeKept ..).trans ((levelEffects_timeKept ..).trans (dropEnded_timeKept ..))))
  unfold raiseAt
  dsimp only
  split
  · exact risen _ _ _ _ _ _ _ _ (putGuard_timeKept ..)
  · exact risen _ _ _ _ _ _ _ _ (putGuard_timeKept ..)

/-- A fault of TIME leaves STAMP and what is known of it. -/
theorem raise_timeKept (p source detail : Nat) (s : State) : TimeKept s (raise .time p source detail s) := by
  unfold raise
  extract_lets cond
  exact .ite (.refl s) (.ite (putGuard_timeKept ..) (raiseAt_timeKept ..))

theorem resolveGaps_timeKept (o : Int) (s : State) : TimeKept s (resolveGaps o s) := by
  unfold resolveGaps
  extract_lets gs
  have emptied : TimeKept s { s with shell := { s.shell with gaps := [] } } := ⟨rfl⟩
  exact emptied.trans (.foldl (fun _ _ => closeGap_timeKept ..) _ _)

/-! ### A step of STAMP -/

/-- R180: the step moves STAMP by its offset and leaves a record of its gap. -/
theorem stepStamp_time (o : Int) (s : State) :
    (stepStamp o s).time = { s.time with
      stamp := moveTick o s.time.stamp, gapCount := wrap32 (s.time.gapCount + 1),
      lastGap := ⟨1, s.time.stamp, moveTick o s.time.stamp, 0⟩ } := by
  unfold stepStamp
  extract_lets before after s1
  rw [(resolveGaps_timeKept ..).time, (raise_timeKept ..).time, (timeGap_keeps ..).2]
  rfl

/-! ### TIME frames -/

/-- R180: the first accepted frame steps STAMP, and so does one that is off by the limit or more. -/
theorem acceptTime_steps {offset : Int} {s : State} (due : s.time.stepped = false ∨ devVal s 0x2504 0 ≤ offset.natAbs) :
    (acceptTime offset s).time.stamp = moveTick offset s.time.stamp ∧ (acceptTime offset s).time.stepped = true ∧
      (acceptTime offset s).time.lastOffset = offset := by
  unfold acceptTime
  extract_lets t first start n s1
  rw [if_pos (by simpa [first] using due), stepStamp_time]
  exact ⟨rfl, rfl, rfl⟩

/-- R151: a smaller offset is slewed away, and STAMP stands. -/
theorem acceptTime_slews {offset : Int} {s : State} (stepped : s.time.stepped = true) (small : offset.natAbs < devVal s 0x2504 0) :
    (acceptTime offset s).time.stamp = s.time.stamp ∧ (acceptTime offset s).time.lastOffset = offset := by
  unfold acceptTime
  extract_lets t first start n s1
  rw [if_neg (by simpa [first, t, stepped] using small)]
  exact ⟨rfl, rfl⟩

theorem sfdSlip_near {v : Nat} (t : Nat) (h : v < 7) : t + v - 3 ≤ t + 3 ∧ t ≤ t + v - 3 + 3 := by omega

/-- R179: the latch is the STAMP within three ticks. -/
theorem latchSfd_near (s : State) : (latchSfd s).1 ≤ s.time.stamp + 3 ∧ s.time.stamp ≤ (latchSfd s).1 + 3 :=
  sfdSlip_near _ (Config.sfdSlip s.fresh).isLt

theorem engineTakes_serving {s : State} (serves : serving s = true) : engineTakes s = true := by
  unfold serving at serves
  exact (Bool.and_eq_true _ _ ▸ serves).1

theorem execTime_serving {s : State} (serves : serving s = true) (node epoch seq body : Nat) :
    execTime node epoch seq body s = .next (timeFrame node epoch seq body (latchSfd s).1 (latchSfd s).2) := by
  refine congrArg Host.Outcome.next ((if_pos (engineTakes_serving serves)).trans ?_)
  exact if_pos serves

theorem timeFrame_stranger {node : Nat} {s : State} (stranger : devVal s 0x2503 0 = 0xFFFF ∨ node ≠ devVal s 0x2503 0)
    (epoch seq body : Nat) (latch : Tick) : timeFrame node epoch seq body latch s = s :=
  if_pos stranger

theorem timeFrame_rejected {node epoch : Nat} {s : State} (set : devVal s 0x2503 0 ≠ 0xFFFF) (master : node = devVal s 0x2503 0)
    (wrong : epoch ≠ devVal s 0x2500 0 ∨ contained s 5 = true) (seq body : Nat) (latch : Tick) :
    timeFrame node epoch seq body latch s = { s with time := { s.time with rejects := wrap32 (s.time.rejects + 1) } } :=
  (if_neg (not_or.2 ⟨set, not_not.2 master⟩)).trans (if_pos wrong)

/-- Settles O56: the frame reaches the engine, whose it is, and what an accepted one does. -/
theorem timeFramesSetStamp : Obligations.TimeFramesSetStamp := by
  unfold Obligations.TimeFramesSetStamp
  exact ⟨fun node epoch seq body s serves => execTime_serving serves node epoch seq body,
    fun node epoch seq body latch s stranger => timeFrame_stranger stranger epoch seq body latch,
    fun node epoch seq body latch s set master wrong => timeFrame_rejected set master wrong seq body latch,
    latchSfd_near, fun offset s due => acceptTime_steps due, fun offset s stepped small => acceptTime_slews stepped small⟩

end Sys2Proof.Laws
end

section
/-! Switches and automatic returns of the muxes (R155, R157, R158, R167, R170, R174, R684). -/

namespace Sys2Proof.Laws

open Sys2Proof.Machine

/-! ### The start of a software switch -/

/-- Nothing keeps a waiting switch from its start: the chip is not in HOLD and the reply has left (R158, R174). -/
structure MayStart (s : State) : Prop where
  notHold : s.chip.state ≠ .hold
  replied : repliesLeft s = true

/-- The switch of a mux that waits leaves the list. -/
def switchTaken (m : MuxName) (alt : Bool) (s : State) : State :=
  { s with clocks := { s.clocks with waiting := s.clocks.waiting.erase (m, alt) } }

theorem execSwitchStart_due {m : MuxName} {k : Nat} {alt : Bool} {s : State} (may : MayStart s)
    (waits : s.clocks.waiting.find? (fun w => w.1 == m) = some (m, alt)) (number : muxNumber m = some k) :
    execSwitchStart m s = .next (
      if (muxAt s k).code = (if alt then .primary else .alternate) ∧ switchTargetReady k alt s = true then
        beginSwitch k alt true 1 (switchTaken m alt s)
      else endClkCommand true 4 (switchTaken m alt s)) := by
  unfold execSwitchStart
  rw [waits, number]
  refine congrArg Host.Outcome.next (if_neg ?_)
  rintro (hold | left)
  · exact may.notHold hold
  · simp [may.replied] at left

theorem execSwitchStart_waits {m : MuxName} {s : State}
    (stays : s.chip.state = .hold ∨ repliesLeft s = false ∨ s.clocks.waiting.find? (fun w => w.1 == m) = none) :
    execSwitchStart m s = .next s := by
  unfold execSwitchStart
  cases waits : s.clocks.waiting.find? (fun w => w.1 == m) with
  | none => rfl
  | some w =>
    have early : s.chip.state = .hold ∨ (!repliesLeft s) = true := by simpa [waits] using stays
    cases muxNumber m with
    | none => rfl
    | some k => exact congrArg Host.Outcome.next (if_pos early)

/-! ### The end of a switch -/

/-- A hub mux rests on the side asked for, and its command, if one asked for it, completes (R155, R158). -/
def hubSwitched (k : Nat) (s : State) : State :=
  endClkCommand (muxAt s k).byCommand 2 (settleMux k (muxAt s k).toAlternate (if (muxAt s k).byCommand then 1 else 2) s)

theorem switchCompletes_hub {m : MuxName} {k : Nat} {s : State}
    (number : (m = .husk ∧ k = 0) ∨ (m = .core ∧ k = 1) ∨ (m = .spineRef ∧ k = 2))
    (switches : (muxAt s k).code = .switching) : switchCompletes m s = hubSwitched k s := by
  rcases number with ⟨rfl, rfl⟩ | ⟨rfl, rfl⟩ | ⟨rfl, rfl⟩ <;> exact if_pos ⟨switches, .inl (by decide)⟩

/-- R684: a switch of TRACE starts its port anew. -/
theorem switchCompletes_trace {s : State} (switches : (muxAt s 5).code = .switching) :
    switchCompletes .trace s = { hubSwitched 5 s with obs := { (hubSwitched 5 s).obs with syncDue := true } } :=
  if_pos ⟨switches, .inr rfl⟩

theorem podAt_setPodMux {p : Nat} (hp : p < 64) (c : MuxCode) (cause : Nat) (s : State) :
    podAt (setPodMux p c cause s) p = { podAt s p with mux := c } :=
  (podAt_traceClock ..).trans (podAt_modPod hp ..)

/-- The completion of a command is no part of the Pod's clock. -/
theorem podAt_completeIf {p : Nat} (hp : p < 64) (code completion : Nat) (s : State) :
    ∃ w, podAt (completeIf p code completion s) p = { podAt s p with command := w } := by
  unfold completeIf
  dsimp only
  split_ifs
  · exact ⟨_, podAt_modPod hp ..⟩
  · exact ⟨_, rfl⟩

theorem podSwitched_toRc {p : Nat} {s : State} (hp : p < 64) (switches : (podAt s p).mux = .switching)
    (toRc : (podAt s p).muxToRc = true) : (podAt (podSwitched p s) p).mux = .alternate := by
  have e : podSwitched p s = completeIf p 0x20 2 (setPodMux p .alternate 1 s) :=
    (if_neg (not_not.2 switches)).trans (if_pos toRc)
  obtain ⟨w, completed⟩ := podAt_completeIf hp 0x20 2 (setPodMux p .alternate 1 s)
  rw [e, completed, podAt_setPodMux hp]

/-- R157, R170: a Pod on SPINE again runs its nominal frame. -/
theorem podSwitched_toSpine {p : Nat} {s : State} (hp : p < 64) (switches : (podAt s p).mux = .switching)
    (toSpine : (podAt s p).muxToRc = false) :
    (podAt (podSwitched p s) p).mux = .primary ∧ (podAt (podSwitched p s) p).framePeriod = 33554432 := by
  have e : ∃ cause, podSwitched p s =
      completeIf p 0x21 2 (setPodMux p .primary cause (modPod p (fun d => { d with framePeriod := 33554432 }) s)) :=
    ⟨_, (if_neg (not_not.2 switches)).trans (if_neg (by simp [toSpine]))⟩
  obtain ⟨cause, e⟩ := e
  obtain ⟨w, completed⟩ := podAt_completeIf hp 0x21 2
    (setPodMux p .primary cause (modPod p (fun d => { d with framePeriod := 33554432 }) s))
  rw [e, completed, podAt_setPodMux hp, podAt_modPod hp]
  exact ⟨rfl, rfl⟩

/-! ### Automatic returns -/

/-- Returns are allowed, and neither the chip's state nor a containment of CLK forbids them (R167, R523). -/
structure MayReturn (s : State) : Prop where
  allowed : devVal s 0x2105 0 ≠ 0
  notHold : s.chip.state ≠ .hold
  powered : s.chip.state ≠ .unpowered
  free : contained s 0 = false

theorem MayReturn.not_kept {s : State} (may : MayReturn s) :
    ¬ (devVal s 0x2105 0 = 0 ∨ s.chip.state = .hold ∨ s.chip.state = .unpowered ∨ contained s 0 = true) := by
  rintro (never | hold | dark | held)
  · exact may.allowed never
  · exact may.notHold hold
  · exact may.powered dark
  · simp [may.free] at held

theorem execAutomaticReturn_husk {s : State} (may : MayReturn s) (rests : (muxAt s 0).code = .alternate) (ready : qualified s 0 = true) :
    execAutomaticReturn .husk s = .next (beginSwitch 0 false false 2 s) :=
  congrArg Host.Outcome.next ((if_neg may.not_kept).trans (if_pos ⟨rests, ready⟩))

theorem execAutomaticReturn_core {s : State} (may : MayReturn s) (rests : (muxAt s 1).code = .alternate) (ready : qualified s 2 = true) :
    execAutomaticReturn .core s = .next (beginSwitch 1 false false 2 s) :=
  congrArg Host.Outcome.next ((if_neg may.not_kept).trans (if_pos ⟨rests, ready⟩))

/-- R157, R167: a Pod that no command put on its RC returns at its next boundary. -/
theorem execAutomaticReturn_pod {p : Fin 64} {s : State} (may : MayReturn s) (rests : (podAt s p.val).mux = .alternate)
    (locked : s.clocks.spineLocked = true) (own : (podAt s p.val).rcByCommand = false) :
    execAutomaticReturn (.pod p) s = .next (modPod p.val (fun d => { d with plan := { d.plan with toSpine := true } }) s) :=
  congrArg Host.Outcome.next ((if_neg may.not_kept).trans (if_pos ⟨rests, locked, by simp [own]⟩))

theorem execAutomaticReturn_contained {s : State} (held : contained s 0 = true) (m : MuxName) : execAutomaticReturn m s = .next s :=
  congrArg Host.Outcome.next (if_pos (.inr (.inr (.inr held))))

/-- Settles O18: the start of a switch or what keeps it, its end by the mux, and the returns. -/
theorem muxesSwitch : Obligations.MuxesSwitch := by
  unfold Obligations.MuxesSwitch
  refine ⟨fun m k alt s waits number notHold replied => ⟨fun rests ready => ?_, fun moved => ?_⟩,
    fun m s stays => execSwitchStart_waits stays, fun m k s number switches => ?_, fun s switches => ?_,
    fun p s switches => ⟨fun toRc => ⟨podSwitched p.val s, rfl, podSwitched_toRc p.isLt switches toRc⟩,
      fun toSpine => ⟨podSwitched p.val s, rfl, podSwitched_toSpine p.isLt switches toSpine⟩⟩,
    fun s switches => congrArg Host.Outcome.next (switchCompletes_trace switches),
    fun s allowed notHold powered free rests ready => execAutomaticReturn_husk ⟨allowed, notHold, powered, free⟩ rests ready,
    fun s allowed notHold powered free rests ready => execAutomaticReturn_core ⟨allowed, notHold, powered, free⟩ rests ready,
    fun p s allowed notHold powered free rests locked own => execAutomaticReturn_pod ⟨allowed, notHold, powered, free⟩ rests locked own,
    fun m s held => execAutomaticReturn_contained held m⟩
  · refine (execSwitchStart_due ⟨notHold, replied⟩ waits number).trans ?_
    rw [if_pos ⟨rests, ready⟩]
    rfl
  · refine (execSwitchStart_due ⟨notHold, replied⟩ waits number).trans ?_
    rw [if_neg fun ⟨rests, ready⟩ => moved.elim (· rests) (by simp [ready])]
    rfl
  · have notCore : m ≠ .core := by rcases number with ⟨rfl, -⟩ | ⟨rfl, -⟩ <;> decide
    have hub : (m = .husk ∧ k = 0) ∨ (m = .core ∧ k = 1) ∨ (m = .spineRef ∧ k = 2) := number.imp_right .inr
    exact congrArg Host.Outcome.next ((if_neg notCore).trans (switchCompletes_hub hub switches))
  · have completed : switchCompletes .core s = hubSwitched 1 s := switchCompletes_hub (.inr (.inl ⟨rfl, rfl⟩)) switches
    exact congrArg Host.Outcome.next ((if_pos rfl).trans (congrArg resumeCore completed))

end Sys2Proof.Laws
end

section
/-! The clock commands and `Clk.LfxoEnable` (R140, R156, R158). -/

namespace Sys2Proof.Laws

open Sys2Proof.Machine

/-! ### The word of a command -/

/-- A command word gives back its code and its argument. -/
theorem commandValue_parts {code : Nat} (small : code < 65536) (arg : Nat) :
    (code + arg % 256 * 65536) % 256 ^ 4 % 65536 = code ∧ (code + arg % 256 * 65536) % 256 ^ 4 / 65536 % 256 = arg % 256 := by
  omega

/-! ### `Clk.Command` as an object -/

/-- `Clk.Command`. -/
def clkCommandPlace : Place := ⟨none, ⟨0x2100, .simple .u32, 1, some 2, .hot, .each 0, .any, none, false, false, false⟩⟩

theorem clkCommand_writable : WritableAt 0x2100 0 clkCommandPlace .u32 2 := ⟨rfl, rfl, rfl, .inl rfl⟩

/-- A word for the clocks reaches `clkCommand` without a lane between, and waits for nothing. -/
theorem commandWrite_clk {who : Who} (high : 2 ≤ who.level.val) (value : Nat) (s : State) :
    commandWrite who clkCommandPlace value true s =
      answered (clkCommand (value % 65536) (value / 65536 % 256) s).1 (clkCommand (value % 65536) (value / 65536 % 256) s).2 := by
  simp [commandWrite, commandLevel, clkCommandPlace, Nat.not_lt.2 high, Place.unreachable, Place.laneServed, laneOf, commandWait, answered]

/-- A clock command that leaves the engine alone is answered at once. -/
theorem clkRow_answers {who : Who} {code arg st : Nat} {s t : State} (h : EngineFree s) (high : 2 ≤ who.level.val) (small : code < 65536)
    (run : clkCommand code (arg % 256) s = (st, t)) (engine : t.engine = s.engine) (chip : t.chip = s.chip) :
    rowCommand who 0x2100 code arg s = withLast st t := by
  obtain ⟨codeIs, argIs⟩ := commandValue_parts small arg
  unfold rowCommand
  rw [clkCommand_writable.rowWrite]
  refine rowRun_answers h ((clkCommand_writable.typed high ..).trans ?_) engine (by rw [chip])
  rw [if_neg (by simp), gatedAccess_open rfl]
  refine (commandWrite_clk high ..).trans ?_
  rw [show Ty.u32.size = 4 from rfl, codeIs, argIs, run]
  rfl

theorem clkRow_denied {who : Who} {s : State} (h : EngineFree s) (low : who.level.val < 2) (code arg : Nat) :
    rowCommand who 0x2100 code arg s = withLast stDenied s := by
  unfold rowCommand
  rw [clkCommand_writable.rowWrite]
  exact rowRun_answers h ((clkCommand_writable.denied low ..).trans (by rw [gatedAccess_open rfl]; rfl)) rfl rfl

/-! ### What a clock command comes to -/

/-- The code of a clock command, the number of its mux and the mux. -/
inductive ClkMux : Nat → Nat → MuxName → Prop
  | husk : ClkMux 1 0 .husk
  | core : ClkMux 2 1 .core
  | spineRef : ClkMux 3 2 .spineRef
  | trace : ClkMux 4 5 .trace

theorem ClkMux.small {code k : Nat} {name : MuxName} (c : ClkMux code k name) : code < 65536 := by
  cases c <;> decide

/-- The side that an argument asks for. -/
def sideArg (alt : Bool) : Nat := if alt then 1 else 0

/-- An accepted switch waits in place of any earlier one of its mux (R158, log 48). -/
def switchAsked (code : Nat) (name : MuxName) (alt : Bool) (s : State) : State :=
  { s with clocks := { s.clocks with
      waiting := s.clocks.waiting.filter (fun w => w.1 != name) ++ [(name, alt)], command := commandWord code (sideArg alt) 1 } }

/-- The mux stands on the side asked for. -/
def standsOn (k : Nat) (alt : Bool) (s : State) : Bool := if alt then (muxAt s k).code == .alternate else (muxAt s k).code == .primary

/-- A CLK containment keeps the mux from the side asked for (R523). -/
def sideHeld (k : Nat) (alt : Bool) (s : State) : Bool :=
  pinned k s || (contained s 0 && k != 5 && s.clocks.failedSince.contains (muxOsc k alt))

/-- What a clock command of a known code and side comes to. -/
theorem clkCommand_side {code k : Nat} {name : MuxName} (c : ClkMux code k name) (alt : Bool) (s : State) :
    clkCommand code (sideArg alt) s =
      if (muxAt s k).code.holds || standsOn k alt s || (muxAt s k).code == .off || sideHeld k alt s || !switchTargetReady k alt s then
        (stWrongState, { s with clocks := { s.clocks with command := commandWord code (sideArg alt) 3 } })
      else (stOk, switchAsked code name alt s) := by
  cases c <;> cases alt <;> rfl

theorem sideHeld_free {s : State} (free : contained s 0 = false) (k : Nat) (alt : Bool) : sideHeld k alt s = false := by
  rw [sideHeld, pinned, free, Bool.false_and, Bool.false_and, Bool.false_and, Bool.or_self]

/-- R156: the mux rests on the other side, and the side asked for is ready. -/
theorem clkCommand_accepted {code k : Nat} {name : MuxName} {alt : Bool} {s : State} (c : ClkMux code k name) (free : contained s 0 = false)
    (rests : (muxAt s k).code = if alt then .primary else .alternate) (ready : switchTargetReady k alt s = true) :
    clkCommand code (sideArg alt) s = (stOk, switchAsked code name alt s) := by
  rw [clkCommand_side c, sideHeld_free free, ready, standsOn, rests]
  cases alt <;> rfl

/-- R156: the mux moves, is off, or stands on the side asked for already. -/
theorem clkCommand_refused {code k : Nat} {name : MuxName} {alt : Bool} {s : State} (c : ClkMux code k name)
    (stays : (muxAt s k).code.holds = true ∨ (muxAt s k).code = .off ∨ standsOn k alt s = true) :
    clkCommand code (sideArg alt) s =
      (stWrongState, { s with clocks := { s.clocks with command := commandWord code (sideArg alt) 3 } }) := by
  rw [clkCommand_side c]
  refine if_pos ?_
  rcases stays with moves | off | present
  · simp [moves]
  · simp [off]
  · simp [present]

theorem clkCommand_badValue {code arg : Nat} (large : 2 ≤ arg) (s : State) : clkCommand code arg s = (stBadValue, s) :=
  if_pos (.inr (.inr large))

/-! ### The rows -/

theorem sideArg_octet (alt : Bool) : sideArg alt % 256 = sideArg alt := by
  cases alt <;> rfl

theorem clkRow_accepted {who : Who} {code k : Nat} {name : MuxName} {alt : Bool} {s : State} (h : EngineFree s) (high : 2 ≤ who.level.val)
    (c : ClkMux code k name) (free : contained s 0 = false) (rests : (muxAt s k).code = if alt then .primary else .alternate)
    (ready : switchTargetReady k alt s = true) :
    rowCommand who 0x2100 code (sideArg alt) s = withLast stOk (switchAsked code name alt s) :=
  clkRow_answers h high c.small (by rw [sideArg_octet]; exact clkCommand_accepted c free rests ready) rfl rfl

theorem clkRow_refused {who : Who} {code k : Nat} {name : MuxName} {alt : Bool} {s : State} (h : EngineFree s) (high : 2 ≤ who.level.val)
    (c : ClkMux code k name) (stays : (muxAt s k).code.holds = true ∨ (muxAt s k).code = .off ∨ standsOn k alt s = true) :
    rowCommand who 0x2100 code (sideArg alt) s =
      withLast stWrongState { s with clocks := { s.clocks with command := commandWord code (sideArg alt) 3 } } :=
  clkRow_answers h high c.small (by rw [sideArg_octet]; exact clkCommand_refused c stays) rfl rfl

theorem clkRow_badValue {who : Who} {code k arg : Nat} {name : MuxName} {s : State} (h : EngineFree s) (high : 2 ≤ who.level.val)
    (c : ClkMux code k name) (large : 2 ≤ arg) (octet : arg < 256) : rowCommand who 0x2100 code arg s = withLast stBadValue s :=
  clkRow_answers h high c.small (by rw [Nat.mod_eq_of_lt octet]; exact clkCommand_badValue large s) rfl rfl

/-! ### `Clk.LfxoEnable` -/

/-- `Clk.LfxoEnable`. -/
def lfxoEnablePlace : Place := ⟨none, ⟨0x2115, .simple .bool, 1, some 2, .hot, .each 1, .any, none, false, false, false⟩⟩

theorem lfxoEnable_value : DeviceValue 0x2115 0 lfxoEnablePlace .bool 2 := ⟨⟨rfl, rfl, rfl, .inl rfl⟩, rfl, rfl⟩

theorem setMux_outer (k : Nat) (m : Mux) (cause : Nat) (s : State) : OuterStep s (setMux k m cause s) := by
  unfold setMux
  dsimp only
  rw [traceClock_only]
  split_ifs <;> exact ⟨rfl, rfl, rfl, rfl⟩

theorem huskFreeze_outer (s : State) : OuterStep s (huskFreeze s) := .ite (.refl s) ⟨rfl, rfl, rfl, rfl⟩

/-- R140: clocks, Pods and records aside, nothing changes as LFXO is switched on or off. -/
theorem lfxoSet_outer (on : Bool) (s : State) : OuterStep s (lfxoSet on s) := by
  have off : OuterStep s (startOsc 1 (stopOsc 0 s)) := (stopOsc_outer ..).trans (startOsc_outer ..)
  unfold lfxoSet
  extract_lets s1
  have moved (m : Mux) : OuterStep s (putMux 0 m 0 s1) := off.trans (setMux_outer 0 m 0 s1)
  exact .ite (startOsc_outer ..) (.ite (.ite (moved _) ((moved _).trans (huskFreeze_outer _))) off)

theorem lfxoEnable_check (s : State) (v : Nat) : devValueOk s lfxoEnablePlace.obj .bool 0 v = decide (v ≤ 1) := by
  simp [devValueOk, rangeOk, devRuleOk, lfxoEnablePlace]

theorem lfxoEnable_effect (v : Nat) (s : State) :
    deviceWrite lfxoEnablePlace.obj 0 v s = answered stOk (lfxoSet (v == 1) (setDev 0x2115 0 v s)) := rfl

theorem lfxoRow_ok {who : Who} {v : Nat} {s : State} (h : EngineFree s) (high : 2 ≤ who.level.val) (flag : v ≤ 1) :
    rowWrite who 0x2115 0 v s = withLast stOk (lfxoSet (v == 1) (setDev 0x2115 0 v s)) := by
  have kept : OuterStep (setDev 0x2115 0 v s) (lfxoSet (v == 1) (setDev 0x2115 0 v s)) := lfxoSet_outer ..
  exact lfxoEnable_value.rowWrite_ok h high rfl (flag.trans_lt (by decide)) ((lfxoEnable_check s v).trans (decide_eq_true flag))
    (lfxoEnable_effect v s) kept.engine kept.chip

/-- Settles O50: a switch accepted, refused by state, by argument and by level, and `Clk.LfxoEnable`. -/
theorem clockCommandsSwitch : Obligations.ClockCommandsSwitch := by
  unfold Obligations.ClockCommandsSwitch
  refine ⟨fun who s h high free => ⟨fun rests ready => ?_, fun rests ready => ?_, fun rests ready => ?_, fun rests => ?_⟩,
    fun who s h high => ⟨fun stays => ?_, fun off => ?_⟩, fun who arg s h high large octet => ⟨?_, ?_⟩,
    fun who arg s h low => ⟨?_, ?_, ?_, ?_⟩, fun who s h high => ⟨?_, ?_, ?_⟩⟩
  · exact congrArg Host.Outcome.next (clkRow_accepted (alt := false) h high .husk free rests ready)
  · exact congrArg Host.Outcome.next (clkRow_accepted (alt := true) h high .core free rests ready)
  · exact congrArg Host.Outcome.next (clkRow_accepted (alt := true) h high .spineRef free rests ready)
  · exact congrArg Host.Outcome.next (clkRow_accepted (alt := true) h high .trace free rests rfl)
  · refine congrArg Host.Outcome.next (clkRow_refused (alt := false) h high .husk ?_)
    rcases stays with present | moves
    · exact .inr (.inr (by rw [standsOn, present]; rfl))
    · exact .inl (by rw [moves]; rfl)
  · exact congrArg Host.Outcome.next (clkRow_refused (alt := false) h high .trace (.inr (.inl off)))
  · exact congrArg Host.Outcome.next (clkRow_badValue h high .husk large octet)
  · exact congrArg Host.Outcome.next (clkRow_badValue h high .spineRef large octet)
  · exact congrArg Host.Outcome.next (clkRow_denied h low 1 arg)
  · exact congrArg Host.Outcome.next (clkRow_denied h low 2 arg)
  · exact congrArg Host.Outcome.next (clkRow_denied h low 3 arg)
  · exact congrArg Host.Outcome.next (clkRow_denied h low 4 arg)
  · exact congrArg Host.Outcome.next (lfxoRow_ok h high (le_refl 1))
  · exact congrArg Host.Outcome.next (lfxoRow_ok h high (Nat.zero_le 1))
  · exact congrArg Host.Outcome.next (lfxoEnable_value.rowWrite_badValue h high rfl (by decide) (lfxoEnable_check s 2))

end Sys2Proof.Laws
end

section
/-! DOZE, ACK-DORMANT, the clock commands, slice control and test mode of a Pod (R157, R241, R414, R432, R445). -/

namespace Sys2Proof.Laws

open Sys2Proof.Machine

/-! ### A command of a Pod, whatever its code -/

/-- A code that its requester may give, of a command whose outcome waits for nothing but the lane (R655, R664, R665). -/
structure PodCode (who : Who) (p code : Nat) : Prop where
  small : code < 65536
  notStart : code ≠ 1
  level : commandLevel (podCommandPlace p) code ≤ who.level.val
  session : 1 ≤ who.level.val

theorem commandWait_notStart {p code : Nat} (notStart : code ≠ 1) (st : Nat) (t : State) :
    commandWait (podCommandPlace p) code st t = none := by
  simp [commandWait, podCommandPlace, notStart]

/-- A command that reaches its Pod over the lane runs there. -/
theorem commandWrite_runs {who : Who} {p code : Nat} {s : State} (c : PodCode who p code) (reached : laneSilent s p = false) (value : Nat)
    (codeIs : value % 65536 = code) :
    commandWrite who (podCommandPlace p) value true s =
      answered (podCommandRun who p code (value / 65536 % 256) true (laneDone p s)).1
        (podCommandRun who p code (value / 65536 % 256) true (laneDone p s)).2 := by
  have far : (podCommandPlace p).unreachable s = false := by simp [Place.unreachable, Place.laneServed, podCommandPlace, reached]
  have lane : laneOf (podCommandPlace p) s = laneDone p s := rfl
  have pod : (podCommandPlace p).pod = some p := rfl
  unfold commandWrite
  simp only [codeIs, Nat.not_lt.2 c.level, far, lane, pod, commandWait_notStart c.notStart, Bool.false_and, Bool.false_eq_true, if_false]

theorem podRow_answers {who : Who} {p code arg st : Nat} {s t : State} (h : EngineFree s) (hp : p < 64) (c : PodCode who p code)
    (reached : laneSilent s p = false) (run : podCommandRun who p code (arg % 256) true (laneDone p s) = (st, t))
    (engine : t.engine = s.engine) (chip : t.chip = s.chip) : rowCommand who (podIndex p 1) code arg s = withLast st t := by
  obtain ⟨codeIs, argIs⟩ := commandValue_parts c.small arg
  rw [(commandAt_pod hp).rowCommand]
  refine rowRun_answers h (((commandAt_pod hp).doItem c.session ..).trans ?_) engine (by rw [chip])
  rw [commandWrite_runs c reached _ codeIs, argIs, run]
  rfl

/-- A Pod's command changes the Pod alone, so the engine answers it at once. -/
theorem podRow_step {who : Who} {p code arg st : Nat} {s t : State} (h : EngineFree s) (hp : p < 64) (c : PodCode who p code)
    (reached : laneSilent s p = false) (run : podCommandRun who p code (arg % 256) true (laneDone p s) = (st, t))
    (only : PodStep p (laneDone p s) t) : rowCommand who (podIndex p 1) code arg s = withLast st t :=
  podRow_answers h hp c reached run (only.engine.trans (laneDone_engine p s).1) (only.chip.trans (laneDone_chip p s))

theorem commandWrite_denied {who : Who} {x : Place} {value : Nat} (low : who.level.val < commandLevel x (value % 65536)) (s : State) :
    commandWrite who x value true s = answered stDenied s :=
  if_pos low

/-- R655: a command above the level of its requester. -/
theorem podRow_denied {who : Who} {p code arg : Nat} {s : State} (h : EngineFree s) (hp : p < 64) (small : code < 65536)
    (low : who.level.val < commandLevel (podCommandPlace p) code) : rowCommand who (podIndex p 1) code arg s = withLast stDenied s := by
  rcases Nat.eq_zero_or_pos who.level.val with none | session
  · exact (commandAt_pod hp).rowCommand_denied h none code arg
  · obtain ⟨codeIs, -⟩ := commandValue_parts small arg
    rw [(commandAt_pod hp).rowCommand]
    refine rowRun_answers h (((commandAt_pod hp).doItem session ..).trans (commandWrite_denied ?_ s)) rfl rfl
    rw [codeIs]
    exact low

/-! ### What a lane access leaves -/

theorem laneDone_doze {p : Nat} (hp : p < 64) (s : State) : (podAt (laneDone p s) p).doze = (podAt s p).doze := by
  obtain ⟨_, _, e⟩ := podAt_laneDone hp s
  rw [e]

theorem laneDone_mux {p : Nat} (hp : p < 64) (s : State) : (podAt (laneDone p s) p).mux = (podAt s p).mux := by
  obtain ⟨_, _, e⟩ := podAt_laneDone hp s
  rw [e]

/-! ### DOZE (R414) -/

/-- A command of a Pod noted with a completion, after a change of that Pod or none. -/
theorem noted_step (p code arg completion : Nat) (f : Pod → Pod) (s : State) :
    PodStep p s (podCommand p code arg completion (modPod p f s)) := (modPod_step ..).trans (podCommand_step ..)

theorem podDoze_stopped {p : Nat} {s : State} (mode : (podAt s p).mode = .stopped) (off : (podAt s p).powering = none) :
    podDoze p s = (stOk, podCommand p 0x30 0 1 (modPod p (fun d => { d with
      doze := { d.doze with sentinel := .arming, restart := false, idleEntry := false } }) s)) := by
  unfold podDoze
  simp only [mode, off, Option.isNone_none, and_self, if_true]
  rfl

theorem podDoze_dozing {p : Nat} {s : State} (mode : (podAt s p).mode = .doze) : podDoze p s = (stOk, podCommand p 0x30 0 2 s) :=
  if_pos mode

theorem podDoze_refused {p : Nat} {s : State} (notDozing : (podAt s p).mode ≠ .doze) (notStopped : (podAt s p).mode ≠ .stopped) :
    podDoze p s = (stWrongState, podCommand p 0x30 0 3 s) :=
  (if_neg notDozing).trans (if_neg fun c => notStopped c.1)

/-! ### ACK-DORMANT (R432) -/

theorem podAckDormant_taken {p arg : Nat} {s : State} (same : (podAt s p).doze.transfers % 256 = arg % 256) :
    podAckDormant p arg s = (stOk, podCommand p 0x31 arg 2 (modPod p (fun d => { d with
      doze := { d.doze with ack := d.meter.regs.getD 12 0 } }) s)) :=
  if_pos same

theorem podAckDormant_refused {p arg : Nat} {s : State} (differs : (podAt s p).doze.transfers % 256 ≠ arg % 256) :
    podAckDormant p arg s = (stWrongState, podCommand p 0x31 arg 3 s) :=
  if_neg differs

/-! ### CLOCK-RC and CLOCK-SPINE (R157) -/

theorem podClock_rc {p : Nat} {s : State} (samples : sampling (podAt s p).mode = true) (onSpine : (podAt s p).mux = .primary) :
    podClock p true s = (stOk, podCommand p 0x20 0 1 (modPod p (fun d => { d with plan := { d.plan with toRc := true } }) s)) := by
  simp [podClock, samples, onSpine, noteCommand]

theorem podClock_spine {p : Nat} {s : State} (samples : sampling (podAt s p).mode = true) (onRc : (podAt s p).mux = .alternate)
    (locked : s.clocks.spineLocked = true) (free : contained s 0 = false) :
    podClock p false s = (stOk, podCommand p 0x21 0 1 (modPod p (fun d => { d with plan := { d.plan with toSpine := true } }) s)) := by
  simp [podClock, samples, onRc, locked, pinned, free, noteCommand]

theorem podClock_refused {p : Nat} {s : State} (idle : sampling (podAt s p).mode = false) (toRc : Bool) :
    podClock p toRc s = (stWrongState, podCommand p (if toRc then 0x20 else 0x21) 0 3 s) :=
  if_pos (.inl (by rw [idle]; rfl))

/-! ### HOT values of a Pod -/

theorem hotPod_step (p k v : Nat) (s : State) : PodStep p s (hotPod p k v s) :=
  .ite (modPod_step ..) ((modPod_step ..).trans (modPod_step ..))

section
variable {who : Who} {p loc sub level v : Nat} {x : Place} {t : Ty} {s : State}

/-- A HOT value of a Pod that its lane serves, and whose type, level and mask let it through as it is. -/
structure PodValue (p loc sub : Nat) (x : Place) (t : Ty) (level : Nat) : Prop extends WritableAt (podIndex p loc) sub x t level where
  pod : x.pod = some p
  lane : x.laneServed = true
  plain : x.isCommand = false
  hot : x.obj.apply = .hot
  index : x.obj.index = loc

/-- What such a write comes to past its level, with the lane in order. -/
theorem PodValue.item (w : PodValue p loc sub x t level) (high : level ≤ who.level.val) (ungated : gatedBit s x = none)
    (reached : laneSilent s p = false) (fits : v < 256 ^ t.size) (unmasked : maskReserved true loc v = v) :
    doItem who (.write (podIndex p loc) sub t.code t.size v) s =
      if (sealNeeded x.obj v && (podAt s p).sealRec.code != .opened) = true then answered stSealed (laneDone p s)
      else if podValueOk (podAt s p) x.obj t sub v = true then answered stOk (hotPod p (keyOf loc sub) v (laneDone p s))
      else answered stBadValue (laneDone p s) := by
  have far : x.unreachable s = false := by simp [Place.unreachable, w.lane, w.pod, reached]
  have lane : laneOf x s = laneDone p s := by simp [laneOf, w.pod, w.lane]
  refine (w.value high w.plain v s).trans ?_
  rw [Nat.mod_eq_of_lt fits, gatedAccess_open ungated]
  unfold valueWrite podWrite
  simp only [far, lane, w.pod, w.index, w.hot, unmasked, Option.isSome_some, Bool.false_eq_true, if_false]
  cases podValueOk (podAt s p) x.obj t sub v <;> rfl

theorem PodValue.rowWrite_ok (w : PodValue p loc sub x t level) (h : EngineFree s) (high : level ≤ who.level.val)
    (ungated : gatedBit s x = none) (reached : laneSilent s p = false) (fits : v < 256 ^ t.size) (unmasked : maskReserved true loc v = v)
    (unsealed : (sealNeeded x.obj v && (podAt s p).sealRec.code != .opened) = false) (ok : podValueOk (podAt s p) x.obj t sub v = true) :
    rowWrite who (podIndex p loc) sub v s = withLast stOk (hotPod p (keyOf loc sub) v (laneDone p s)) := by
  have only : PodStep p (laneDone p s) (hotPod p (keyOf loc sub) v (laneDone p s)) := hotPod_step ..
  rw [w.rowWrite]
  refine rowRun_answers h ((w.item high ungated reached fits unmasked).trans ?_) (only.engine.trans (laneDone_engine p s).1)
    (by rw [only.chip, laneDone_chip])
  rw [if_neg (by simp [unsealed]), if_pos ok]
  rfl

theorem PodValue.rowWrite_sealed (w : PodValue p loc sub x t level) (h : EngineFree s) (high : level ≤ who.level.val)
    (ungated : gatedBit s x = none) (reached : laneSilent s p = false) (fits : v < 256 ^ t.size) (unmasked : maskReserved true loc v = v)
    (closed : (sealNeeded x.obj v && (podAt s p).sealRec.code != .opened) = true) :
    rowWrite who (podIndex p loc) sub v s = withLast stSealed (laneDone p s) := by
  rw [w.rowWrite]
  refine rowRun_answers h ((w.item high ungated reached fits unmasked).trans ?_) (laneDone_engine p s).1 (by rw [laneDone_chip])
  rw [if_pos closed]
  rfl

theorem PodValue.rowWrite_denied (w : PodValue p loc sub x t level) (h : EngineFree s) (low : who.level.val < level)
    (ungated : gatedBit s x = none) : rowWrite who (podIndex p loc) sub v s = withLast stDenied s := by
  have item : doItem who (.write (podIndex p loc) sub t.code t.size v) s = answered stDenied s :=
    (w.denied low t.code t.size v s).trans (by rw [gatedAccess_open ungated])
  rw [w.rowWrite]
  exact rowRun_answers h item rfl rfl

end

/-- `Pod.SliceControl` of Pod p. -/
def sliceControlPlace (p : Nat) : Place :=
  ⟨some p, ⟨0x36, .simple .enum8, 1, some 2, .hot, .each 0x01, .range 0 2, none, false, false, false⟩⟩

/-- `Pod.PlsTest` of Pod p. -/
def plsTestPlace (p : Nat) : Place := ⟨some p, ⟨0xC4, .simple .bool, 1, some 3, .hot, .each 0, .any, some 3, false, false, false⟩⟩

theorem sliceControl_value {p : Nat} (hp : p < 64) : PodValue p 0x36 0 (sliceControlPlace p) .enum8 2 :=
  ⟨⟨by rw [findPlace_pod hp (by decide)]; rfl, rfl, rfl, .inl rfl⟩, rfl, rfl, rfl, rfl, rfl⟩

theorem plsTest_value {p : Nat} (hp : p < 64) : PodValue p 0xC4 0 (plsTestPlace p) .bool 3 :=
  ⟨⟨by rw [findPlace_pod hp (by decide)]; rfl, rfl, rfl, .inl rfl⟩, rfl, rfl, rfl, rfl, rfl⟩

/-- A Pod's Pulse gate is open where the hub's is (R175). -/
theorem gatedBit_plsTest {p : Nat} {s : State} (on : gateOn s 3 = true) : gatedBit s (plsTestPlace p) = none := by
  simp [gatedBit, plsTestPlace, blockOpen, pulseGate, on]

theorem sliceControl_check (d : Pod) (p : Nat) {v : Nat} (mode : v ≤ 2) : podValueOk d (sliceControlPlace p).obj .enum8 0 v = true := by
  simp [podValueOk, sliceControlPlace, rangeOk, podRuleOk, mode]

theorem plsTest_check (d : Pod) (p : Nat) {v : Nat} (flag : v ≤ 1) : podValueOk d (plsTestPlace p).obj .bool 0 v = true := by
  simp [podValueOk, plsTestPlace, rangeOk, podRuleOk, flag]

theorem plsTest_sealNeeded (p v : Nat) : sealNeeded (plsTestPlace p).obj v = (v == 1) := by
  simp [sealNeeded, plsTestPlace]

/-- R241: slice control takes effect as a HOT value. -/
theorem sliceRow_ok {who : Who} {p v : Nat} {s : State} (h : EngineFree s) (hp : p < 64) (high : 2 ≤ who.level.val)
    (reached : laneSilent s p = false) (mode : v ≤ 2) :
    rowWrite who (podIndex p 0x36) 0 v s = withLast stOk (hotPod p (keyOf 0x36 0) v (laneDone p s)) :=
  (sliceControl_value hp).rowWrite_ok h high rfl reached (mode.trans_lt (by decide)) rfl rfl (sliceControl_check _ p mode)

/-- Settles O39: DOZE and ACK-DORMANT, the clock commands and slice control, the levels, and test mode under its seal. -/
theorem podCommandsAct : Obligations.PodCommandsAct := by
  unfold Obligations.PodCommandsAct
  refine ⟨fun who p s h session reached => ?_, fun who p s h high reached => ?_, fun who p s h low => ⟨?_, ?_, ?_⟩,
    fun who p v s h top reached on flag => ⟨fun allowed => ?_, fun test closed => ?_⟩⟩
  · have hp := p.isLt
    have doze : PodCode who p.val 0x30 := ⟨by decide, by decide, session, session⟩
    have ack : PodCode who p.val 0x31 := ⟨by decide, by decide, session, session⟩
    refine ⟨fun mode off => ?_, fun mode => ?_, fun notDozing notStopped => ?_, fun arg same => ?_, fun arg differs => ?_⟩
    · exact congrArg Host.Outcome.next (podRow_step h hp doze reached
        (podDoze_stopped ((laneDone_mode hp s).trans mode) ((laneDone_powering hp s).trans off)) (noted_step ..))
    · exact congrArg Host.Outcome.next (podRow_step h hp doze reached (podDoze_dozing ((laneDone_mode hp s).trans mode))
        (podCommand_step ..))
    · exact congrArg Host.Outcome.next (podRow_step h hp doze reached
        (podDoze_refused (by rwa [laneDone_mode hp]) (by rwa [laneDone_mode hp])) (podCommand_step ..))
    · exact congrArg Host.Outcome.next (podRow_step h hp ack reached
        (podAckDormant_taken (by rwa [laneDone_doze hp, Nat.mod_mod])) (noted_step ..))
    · exact congrArg Host.Outcome.next (podRow_step h hp ack reached
        (podAckDormant_refused (by rwa [laneDone_doze hp, Nat.mod_mod])) (podCommand_step ..))
  · have hp := p.isLt
    have toRc : PodCode who p.val 0x20 := ⟨by decide, by decide, high, Nat.le_of_succ_le high⟩
    have toSpine : PodCode who p.val 0x21 := ⟨by decide, by decide, high, Nat.le_of_succ_le high⟩
    refine ⟨fun samples onSpine => ?_, fun samples onRc locked free => ?_, fun idle => ⟨?_, ?_⟩, ?_, ?_, ?_⟩
    · exact congrArg Host.Outcome.next (podRow_step h hp toRc reached
        (podClock_rc (by rwa [laneDone_mode hp]) ((laneDone_mux hp s).trans onSpine)) (noted_step ..))
    · exact congrArg Host.Outcome.next (podRow_step h hp toSpine reached
        (podClock_spine (by rwa [laneDone_mode hp]) ((laneDone_mux hp s).trans onRc) locked free) (noted_step ..))
    · exact congrArg Host.Outcome.next (podRow_step h hp toRc reached (podClock_refused (by rwa [laneDone_mode hp]) true)
        (podCommand_step ..))
    · exact congrArg Host.Outcome.next (podRow_step h hp toSpine reached (podClock_refused (by rwa [laneDone_mode hp]) false)
        (podCommand_step ..))
    · exact congrArg Host.Outcome.next (sliceRow_ok h hp high reached (by decide))
    · exact congrArg Host.Outcome.next (sliceRow_ok h hp high reached (by decide))
    · exact congrArg Host.Outcome.next (sliceRow_ok h hp high reached (by decide))
  · exact congrArg Host.Outcome.next (podRow_denied h p.isLt (by decide) low)
  · exact congrArg Host.Outcome.next (podRow_denied h p.isLt (by decide) low)
  · exact congrArg Host.Outcome.next ((sliceControl_value p.isLt).rowWrite_denied h low rfl)
  · have unsealed : (sealNeeded (plsTestPlace p.val).obj v && (podAt s p.val).sealRec.code != .opened) = false := by
      rw [plsTest_sealNeeded]
      rcases allowed with off | opened
      · simp [off]
      · simp [opened]
    exact congrArg Host.Outcome.next ((plsTest_value p.isLt).rowWrite_ok h (le_of_eq top.symm) (gatedBit_plsTest on) reached
      (flag.trans_lt (by decide)) rfl unsealed (plsTest_check _ _ flag))
  · have shut : (sealNeeded (plsTestPlace p.val).obj v && (podAt s p.val).sealRec.code != .opened) = true := by
      rw [plsTest_sealNeeded]
      simp [test, closed]
    exact congrArg Host.Outcome.next ((plsTest_value p.isLt).rowWrite_sealed h (le_of_eq top.symm) (gatedBit_plsTest on) reached
      (flag.trans_lt (by decide)) rfl shut)

end Sys2Proof.Laws
end

section
/-! A rescue that waits too long (R163, R519), under an occurrence beyond the levels of Guard. -/

namespace Sys2Proof.Laws

open Sys2Proof.Machine

theorem execRescueWaitTimeout_husk {s : State} (waits : (muxAt s 0).code = .rescueWait) :
    execRescueWaitTimeout .husk s =
      .next (raiseAt .clk 0 11 (s.time.elapsed - (muxAt s 0).waitAt) s.time.elapsed false true s) :=
  congrArg Host.Outcome.next (if_pos waits)

/-- The block at reset, but ACTIVE, with HUSK in RESCUE-WAIT and an occurrence of CLK whose level is 5. -/
def clkBeyondL4 : State :=
  { State.reset with
    chip := { State.reset.chip with state := .active },
    clocks := { State.reset.clocks with muxes := putAt State.reset.clocks.muxes 0 ⟨.rescueWait, false, false, 0, false, 0⟩ },
    guard := { State.reset.guard with insts := putAt State.reset.guard.insts 0 ⟨[⟨11, 5, false, [], 0, none, false, true⟩], none, 0, 0⟩ } }

/-- Refutes O17 by its clause on a rescue that still waits in ACTIVE. The statement takes every state, and a level is a number that it does
not bound by 4: in `clkBeyondL4` the new occurrence joins the one at level 5 and keeps that level (R505), SAFE comes of level 4 alone
(R519), and so the chip stays ACTIVE. -/
theorem not_rescuesEnd : ¬ Obligations.RescuesEnd := by
  unfold Obligations.RescuesEnd
  rintro ⟨-, -, -, -, -, safe, -⟩
  obtain ⟨t, run, chip, -⟩ := safe .husk 0 clkBeyondL4 rfl (by decide) (.inl rfl)
  have outcome : t = raiseAt .clk 0 11 0 0 false true clkBeyondL4 :=
    Host.Outcome.next.inj (run.symm.trans (execRescueWaitTimeout_husk (by decide)))
  have stays : (raiseAt .clk 0 11 0 0 false true clkBeyondL4).chip.state = .active := by decide
  rw [← outcome, chip] at stays
  exact absurd stays (by decide)

end Sys2Proof.Laws
end

section
/-! The states of PLCA, and the strangers and jabber on the trunk (R202, R577, R589-R593). -/

namespace Sys2Proof.Laws

open Sys2Proof.Machine

/-! ### BEACONs -/

@[simp] theorem noteBeacon_code (s : State) : (noteBeacon s).link.code = s.link.code := rfl

theorem execBeacon_follows {s : State} (joins : s.link.code = .joining) (node : effectiveNode s ≠ 0) :
    execBeacon s = .next (noteBeacon (setLink .follower s)) := by
  simp [execBeacon, joins, node]

theorem execBeacon_silences {s : State} (joins : s.link.code = .joining) (node : effectiveNode s = 0) :
    execBeacon s = .next (enterSilent (noteBeacon s)) := by
  simp [execBeacon, joins, node]

theorem execBeacon_fallback {s : State} (falls : s.link.code = .fallback) : execBeacon s = .next (noteBeacon (setLink .follower s)) := by
  simp [execBeacon, falls]

/-- A BEACON that a FOLLOWER hears: one more cycle of which it has had no opportunity. -/
def beaconHeard (s : State) : State :=
  let t := noteBeacon s
  { t with link := { t.link with unreached := min 16 (t.link.unreached + 1), control := 4 } }

theorem execBeacon_follower {s : State} (follows : s.link.code = .follower) : execBeacon s = .next (beaconHeard s) := by
  simp [execBeacon, follows, beaconHeard]

/-! ### Timeouts -/

theorem execBeaconTimeout_follower {s : State} (follows : s.link.code = .follower)
    (silent : max s.link.enteredAt s.link.beaconElapsed + 131072 ≤ s.time.elapsed) : execBeaconTimeout s = .next (setLink .fallback s) :=
  congrArg Host.Outcome.next (if_pos ⟨follows, silent⟩)

theorem execBeaconTimeout_joining {s : State} (joins : s.link.code = .joining) (node : effectiveNode s ≠ 0)
    (silent : s.link.enteredAt + 131072 ≤ s.time.elapsed) : execBeaconTimeout s = .next (setLink .fallback s) := by
  have notFollower : ¬ (s.link.code = .follower ∧ max s.link.enteredAt s.link.beaconElapsed + 131072 ≤ s.time.elapsed) := by
    simp [joins]
  exact congrArg Host.Outcome.next ((if_neg notFollower).trans (if_pos ⟨joins, node, silent⟩))

theorem execBeaconTimeout_early {s : State} (follows : s.link.code = .follower) (early : s.time.elapsed < s.link.enteredAt + 131072) :
    execBeaconTimeout s = .next s := by
  have heard : ¬ (s.link.code = .follower ∧ max s.link.enteredAt s.link.beaconElapsed + 131072 ≤ s.time.elapsed) :=
    fun due => absurd ((Nat.add_le_add_right (Nat.le_max_left ..) _).trans due.2) (Nat.not_le.2 early)
  have notJoining : ¬ (s.link.code = .joining ∧ effectiveNode s ≠ 0 ∧ s.link.enteredAt + 131072 ≤ s.time.elapsed) := by simp [follows]
  exact congrArg Host.Outcome.next ((if_neg heard).trans (if_neg notJoining))

/-! ### Strangers -/

theorem execIntrusion_carrier {s : State} (active : plcaActive s.link.code = true) :
    execIntrusion false s =
      (let t := linkCount 10 { s with link := { s.link with
        intrusions := s.link.intrusions.filter (fun x => decide (s.time.stamp < x + 65536000)) ++ [s.time.stamp] } }
       .next (if 3 ≤ recentIntrusions t then raise .link 0 2 0 t else clearCause .link 0 2 t)) :=
  congrArg Host.Outcome.next (if_pos active)

theorem execSymbolErrorInterval_on {s : State} (on : phyOn s.link.code = true) (n : Nat) :
    execSymbolErrorInterval n s = .next (if devVal s 0x110B 0 < n then raise .link 0 5 0 s else clearCause .link 0 5 s) :=
  congrArg Host.Outcome.next (if_neg (by simp [on]))

/-- R596: a count goes up by one, and no other count moves. -/
theorem linkCount_counters {k : Nat} (hk : k < 18) (s : State) :
    (linkCount k s).link.counters.getD k 0 = wrap32 (s.link.counters.getD k 0 + 1) ∧
      ∀ j, j ≠ k → (linkCount k s).link.counters.getD j 0 = s.link.counters.getD j 0 :=
  ⟨getD_putAt_same hk .., fun _ other => getD_putAt_ne other ..⟩

/-- Settles O58: BEACONs, their absence, the hold-off, and then intrusions, jabber, symbol errors and the counts. -/
theorem plcaStatesMoveAndStrangersCount : Obligations.PlcaStatesMoveAndStrangersCount := by
  unfold Obligations.PlcaStatesMoveAndStrangersCount
  refine ⟨fun s joins node => ⟨execBeacon_follows joins node, setLink_code ..⟩, fun s falls => execBeacon_fallback falls,
    fun s joins node => execBeacon_silences joins node, fun s follows => ⟨_, execBeacon_follower follows, follows, rfl, rfl, rfl⟩,
    fun s follows silent => ⟨execBeaconTimeout_follower follows silent, setLink_code ..⟩,
    fun s joins node silent => execBeaconTimeout_joining joins node silent, fun s follows early => execBeaconTimeout_early follows early,
    fun s joins node quiet => ?_, fun s coordinates => ?_, fun s other => ?_, fun s silent ended => ?_, fun s silent going => ?_,
    fun s active => execIntrusion_carrier ?_, fun collision s idle => ?_, fun s opens => ?_, fun s shut => ?_, fun s on => ?_,
    fun n s on => ⟨fun above => ?_, fun within => ?_⟩, fun k s hk => linkCount_counters hk s⟩
  · exact congrArg Host.Outcome.next (if_pos ⟨joins, node, quiet⟩)
  · exact congrArg Host.Outcome.next (if_pos coordinates)
  · exact congrArg Host.Outcome.next (if_neg other)
  · exact congrArg Host.Outcome.next (if_pos ⟨silent, ended⟩)
  · exact congrArg Host.Outcome.next (if_neg fun due => absurd due.2 (Nat.not_le.2 going))
  · rcases active with follows | coordinates
    · rw [follows]
      rfl
    · rw [coordinates]
      rfl
  · exact congrArg Host.Outcome.next (if_neg (by rw [idle]; exact Bool.false_ne_true))
  · exact congrArg Host.Outcome.next (if_pos opens)
  · exact congrArg Host.Outcome.next (if_neg (by rw [shut]; exact Bool.false_ne_true))
  · exact congrArg Host.Outcome.next (if_pos on)
  · exact (execSymbolErrorInterval_on on n).trans (congrArg Host.Outcome.next (if_pos above))
  · exact (execSymbolErrorInterval_on on n).trans (congrArg Host.Outcome.next (if_neg (Nat.not_lt.2 within)))

end Sys2Proof.Laws
end

section
/-! Sessions and the RESET service (R208, R618-R622, R627). -/

namespace Sys2Proof.Laws

open Sys2Proof.Machine

theorem whenCore_free {s : State} (h : EngineFree s) (x : RxWait) (f : State → State) : whenCore x f s = f s := if_pos (serving_free h)

/-! ### RESET -/

/-- The outcome of a RESET, as the engine shows it. -/
def resetAnswered (st : Nat) (s : State) : State := { s with engine := { s.engine with last := ⟨st, 0, [st, 0, 0, 0]⟩ } }

theorem resetRun_accepted {who : Who} {target pod : Nat} {s : State} (ok : resetStatus who target pod s = stOk) (answers : Bool) :
    resetRun who target pod answers s = resetStarts target pod answers (resetAnswered stOk s) := by
  unfold resetRun
  rw [ok]
  rfl

theorem resetRun_rejected {who : Who} {target pod st : Nat} {s : State} (status : resetStatus who target pod s = st) (bad : st ≠ stOk)
    (answers : Bool) : resetRun who target pod answers s = resetAnswered st s := by
  unfold resetRun
  rw [status]
  exact if_neg bad

theorem resetStarts_chip (pod : Nat) (answers : Bool) (s : State) : resetStarts 0 pod answers s = beginReset .gezor s := if_pos rfl

theorem execResetServiceChip_free {s : State} (h : EngineFree s) (who : Who) :
    execResetServiceChip who s = .next (resetRun who 0 0 true s) := congrArg Host.Outcome.next (whenCore_free h ..)

theorem execResetServicePod_free {s : State} (h : EngineFree s) (who : Who) (pod : Nat) (answers : Bool) :
    execResetServicePod who pod answers s = .next (resetRun who 1 pod answers s) := congrArg Host.Outcome.next (whenCore_free h ..)

/-! ### Sessions -/

/-- A service of a requester that holds a slot, outside SAFE. -/
theorem sessionRun_free {q : Fin 4} {s : State} (h : EngineFree s) (used : (slotOf s q.val).used = true) (f : State → Answer × State) :
    sessionRun q f s = lastAnswer (f s).1 (f s).2 := by
  unfold sessionRun serviceRun
  rw [if_neg (by rw [h.active]; decide)]
  dsimp only
  rw [if_pos used]

theorem execSessionOpen_free {q : Fin 4} {s : State} (h : EngineFree s) (used : (slotOf s q.val).used = true) (level : Nat) :
    execSessionOpen q level s = .next (lastAnswer (sessionOpen q level s).1 (sessionOpen q level s).2) :=
  congrArg Host.Outcome.next ((whenCore_free h ..).trans (sessionRun_free h used _))

theorem execSessionProof_free {q : Fin 4} {s : State} (h : EngineFree s) (used : (slotOf s q.val).used = true) (number proof : Nat) :
    execSessionProof q number proof s = .next (lastAnswer (sessionProof q number proof s).1 (sessionProof q number proof s).2) :=
  congrArg Host.Outcome.next ((whenCore_free h ..).trans (sessionRun_free h used _))

theorem sessionOpen_busy {s : State} (busy : openBusy s = true) (q : Fin 4) (level : Nat) :
    sessionOpen q level s = (.status stBusy 0, s) := if_pos busy

/-- R619: the next number, a nonce of the random source, and the end of the session that the slot held. -/
theorem sessionOpen_pends {q : Fin 4} {level : Nat} {s : State} (free : openBusy s = false) (low : 1 ≤ level) (high : level ≤ 3) :
    sessionOpen q level s =
      (.body ([stOk, 0, 0, 0] ++ beOctets 4 s.engine.nextSession ++ beOctets 8 (Config.freeWord s.fresh % 2 ^ 64)),
        modSlot q.val (fun x => { x with
            session := none, opening := some ⟨level, s.engine.nextSession, Config.freeWord s.fresh % 2 ^ 64, s.time.elapsed⟩ })
          { s with fresh := s.fresh + 1, engine := { s.engine with nextSession := wrap32 (s.engine.nextSession + 1) } }) := by
  unfold sessionOpen
  rw [if_neg (by rw [free]; exact Bool.false_ne_true), if_neg (by omega), if_neg (by omega)]
  rfl

/-- R620: a right proof makes the pending open a session at its level. -/
theorem sessionProof_right {q : Fin 4} {number proof : Nat} {o : PendingOpen} {s : State} (proven : provenOpen q number proof s = some o) :
    ∃ os, sessionProof q number proof s = (.body (stOk :: os), gezorCount 6 (modSlot q.val (fun x => { x with
      opening := none,
      session := some ⟨o.level, o.number, 0, s.time.elapsed, (s.dict.keys.getD (o.level - 1) none).isNone⟩ }) s)) := by
  unfold sessionProof
  rw [proven]
  exact ⟨_, rfl⟩

/-- R619, R620: a wrong proof ends the pending open and holds off the next one. -/
def proofFailed (q : Nat) (s : State) : State :=
  let t := gezorCount 7 (modSlot q (fun x => { x with opening := none }) s)
  { t with engine := { t.engine with badProof := some s.time.elapsed } }

theorem sessionProof_wrong {q : Fin 4} {number proof : Nat} {s : State} (unproven : provenOpen q number proof s = none) :
    sessionProof q number proof s = (.status 0x26 0, proofFailed q.val s) := by
  unfold sessionProof
  rw [unproven]
  rfl

/-! ### What a slot holds then -/

@[simp] theorem slotOf_lastAnswer (a : Answer) (s : State) (q : Nat) : slotOf (lastAnswer a s) q = slotOf s q := rfl

@[simp] theorem slotOf_gezorCount (k : Nat) (s : State) (q : Nat) : slotOf (gezorCount k s) q = slotOf s q := rfl

theorem slotOf_proofFailed {q : Nat} (hq : q < 4) (s : State) : slotOf (proofFailed q s) q = { slotOf s q with opening := none } :=
  slotOf_modSlot hq (fun x => { x with opening := none }) s

/-- Settles O54: RESET by its target and level, the opening of a session, its proof, and the two lapses. -/
theorem sessionsAndResets : Obligations.SessionsAndResets := by
  unfold Obligations.SessionsAndResets
  refine ⟨fun who s h high => ?_, fun who s h low => ⟨?_, fun pod answers => ?_⟩, fun who pod answers s h high => ⟨fun hp => ?_, fun hp => ?_⟩,
    fun q level s h used free low high => ?_, fun q level s h used busy => ?_, fun q number proof o s h used proven => ?_,
    fun q number proof s h used unproven => ?_, fun q o s pends lapsed => ?_, fun q x s holds idle => ?_⟩
  · have ok : resetStatus who 0 0 s = stOk := by simp [resetStatus, Nat.not_lt.2 high]
    exact (execResetServiceChip_free h who).trans
      (congrArg Host.Outcome.next ((resetRun_accepted ok true).trans (resetStarts_chip ..)))
  · have denied : resetStatus who 0 0 s = stDenied := by simp [resetStatus, low, h.active]
    exact (execResetServiceChip_free h who).trans (congrArg Host.Outcome.next (resetRun_rejected denied (by decide) true))
  · have denied : resetStatus who 1 pod s = stDenied := by simp [resetStatus, low]
    exact (execResetServicePod_free h who pod answers).trans (congrArg Host.Outcome.next (resetRun_rejected denied (by decide) answers))
  · have ok : resetStatus who 1 pod s = stOk := by simp [resetStatus, Nat.not_lt.2 high, Nat.le_of_lt_succ hp]
    exact (execResetServicePod_free h who pod answers).trans (congrArg Host.Outcome.next (resetRun_accepted ok answers))
  · have bad : resetStatus who 1 pod s = stBadValue := by simp [resetStatus, Nat.not_lt.2 high, hp]
    exact (execResetServicePod_free h who pod answers).trans (congrArg Host.Outcome.next (resetRun_rejected bad (by decide) answers))
  · refine ⟨_, (execSessionOpen_free h used level).trans (by rw [sessionOpen_pends free low high]), ?_⟩
    dsimp only
    rw [slotOf_lastAnswer, slotOf_modSlot q.isLt]
    exact ⟨rfl, rfl, rfl, rfl, rfl, rfl⟩
  · exact (execSessionOpen_free h used level).trans (by rw [sessionOpen_busy busy]; rfl)
  · obtain ⟨os, right⟩ := sessionProof_right proven
    refine ⟨_, (execSessionProof_free h used number proof).trans (by rw [right]), ?_⟩
    dsimp only
    rw [slotOf_lastAnswer, slotOf_gezorCount, slotOf_modSlot q.isLt]
    exact ⟨rfl, rfl, rfl⟩
  · refine ⟨_, (execSessionProof_free h used number proof).trans (by rw [sessionProof_wrong unproven]), ?_⟩
    dsimp only
    rw [slotOf_lastAnswer, slotOf_proofFailed q.isLt]
    exact ⟨rfl, rfl, rfl, rfl⟩
  · show execSessionOpenExpiry q s = _
    unfold execSessionOpenExpiry
    rw [pends]
    exact congrArg Host.Outcome.next (if_pos lapsed)
  · show execSessionIdleExpiry q s = _
    unfold execSessionIdleExpiry
    rw [holds]
    exact congrArg Host.Outcome.next (if_pos idle)

end Sys2Proof.Laws
end

section
/-! The phases B5 to B8 of BOOT (R187, R189, R194, R198, R209, R577, R578). -/

namespace Sys2Proof.Laws

open Sys2Proof.Machine

/-! ### The hub muxes -/

theorem setMux_only (k : Nat) (m : Mux) (cause : Nat) (s : State) :
    ∃ o, setMux k m cause s = { s with clocks := { s.clocks with muxes := putAt s.clocks.muxes k m }, obs := o } := by
  unfold setMux
  dsimp only
  rw [traceClock_only]
  split_ifs <;> exact ⟨_, rfl⟩

theorem muxAt_setMux {k : Nat} (hk : k < 6) (m : Mux) (cause : Nat) (s : State) : muxAt (setMux k m cause s) k = m := by
  obtain ⟨o, only⟩ := setMux_only k m cause s
  rw [only]
  exact getD_putAt_same hk ..

theorem muxAt_setMux_ne {k j : Nat} (h : j ≠ k) (m : Mux) (cause : Nat) (s : State) : muxAt (setMux k m cause s) j = muxAt s j := by
  obtain ⟨o, only⟩ := setMux_only k m cause s
  rw [only]
  exact getD_putAt_ne h ..

/-- The muxes, the trace and the records of the clock tree aside, a change of a mux leaves all as it was. -/
structure MuxStep (s t : State) : Prop where
  chip : t.chip = s.chip
  dict : t.dict = s.dict
  guard : t.guard = s.guard
  link : t.link = s.link
  spineOn : t.clocks.spineOn = s.clocks.spineOn

theorem MuxStep.refl (s : State) : MuxStep s s := ⟨rfl, rfl, rfl, rfl, rfl⟩

theorem MuxStep.trans {s t u : State} (a : MuxStep s t) (b : MuxStep t u) : MuxStep s u :=
  ⟨b.chip.trans a.chip, b.dict.trans a.dict, b.guard.trans a.guard, b.link.trans a.link, b.spineOn.trans a.spineOn⟩

theorem MuxStep.ite {c : Prop} [Decidable c] {s t u : State} (a : MuxStep s t) (b : MuxStep s u) : MuxStep s (if c then t else u) := by
  split <;> assumption

theorem setMux_muxStep (k : Nat) (m : Mux) (cause : Nat) (s : State) : MuxStep s (setMux k m cause s) := by
  obtain ⟨o, only⟩ := setMux_only k m cause s
  rw [only]
  exact ⟨rfl, rfl, rfl, rfl, rfl⟩

/-- AMPIX, STRIP and TRACE follow CORE (R152), and CORE itself stays where it has been put. -/
theorem followCore_muxStep (k cause : Nat) (s : State) : MuxStep s (followCore k cause s) ∧ muxAt (followCore k cause s) 1 = muxAt s 1 := by
  unfold followCore
  split
  · extract_lets c _ _ s1 _ s2
    have followed : MuxStep s s1 := (setMux_muxStep ..).trans (setMux_muxStep ..)
    have core : muxAt s1 1 = muxAt s 1 := (muxAt_setMux_ne (by decide) ..).trans (muxAt_setMux_ne (by decide) ..)
    clear_value s1
    have traced : MuxStep s s2 := followed.trans ⟨rfl, rfl, rfl, rfl, rfl⟩
    have stays : muxAt s2 1 = muxAt s 1 := core
    clear_value s2
    split
    · split
      · exact ⟨traced.trans (setMux_muxStep ..), (muxAt_setMux_ne (by decide) ..).trans stays⟩
      · exact ⟨traced, stays⟩
    · exact ⟨followed, core⟩
  · exact ⟨.refl s, rfl⟩

theorem putMux_muxStep (k : Nat) (m : Mux) (cause : Nat) (s : State) : MuxStep s (putMux k m cause s) :=
  (setMux_muxStep ..).trans (followCore_muxStep ..).1

theorem muxAt_putMux_core (m : Mux) (cause : Nat) (s : State) : muxAt (putMux 1 m cause s) 1 = m :=
  (followCore_muxStep ..).2.trans (muxAt_setMux (by decide) ..)

/-- A phase of BOOT has ended. -/
def phaseEnded (k : Nat) (s : State) : State := { s with chip := { s.chip with phases := s.chip.phases ++ [k] } }

/-! ### B5: CORE on HFRC -/

/-- Sources, displays and the SPINE PLL aside, CORE runs as it did. -/
structure CoreStep (s t : State) : Prop where
  chip : t.chip = s.chip
  dict : t.dict = s.dict
  guard : t.guard = s.guard
  core : muxAt t 1 = muxAt s 1

theorem CoreStep.refl (s : State) : CoreStep s s := ⟨rfl, rfl, rfl, rfl⟩

theorem CoreStep.trans {s t u : State} (a : CoreStep s t) (b : CoreStep t u) : CoreStep s u :=
  ⟨b.chip.trans a.chip, b.dict.trans a.dict, b.guard.trans a.guard, b.core.trans a.core⟩

theorem CoreStep.ite {c : Prop} [Decidable c] {s t u : State} (a : CoreStep s t) (b : CoreStep s u) : CoreStep s (if c then t else u) := by
  split <;> assumption

theorem startOsc_coreStep (k : Nat) (s : State) : CoreStep s (startOsc k s) := by
  unfold startOsc
  dsimp only
  rw [setOsc_only]
  exact .ite (.refl s) ⟨rfl, rfl, rfl, rfl⟩

theorem displayWatch_coreStep (s : State) : CoreStep s (displayWatch s) := by
  rw [displayWatch_only]
  exact ⟨rfl, rfl, rfl, rfl⟩

theorem spineStart_coreStep (hfrc : Bool) (s : State) : CoreStep s (spineStart hfrc s) := by
  unfold spineStart
  extract_lets s1 f
  have unlocked : CoreStep s s1 := .ite ⟨rfl, rfl, rfl, rfl⟩ (.refl s)
  exact unlocked.trans ⟨rfl, rfl, rfl, rfl⟩

/-- The SPINE reference comes to rest, and its PLL starts (R147). -/
theorem settleMux_spine_coreStep (alternate : Bool) (cause : Nat) (s : State) : CoreStep s (settleMux 2 alternate cause s) := by
  have rests (m : Mux) : CoreStep s (putMux 2 m cause s) := by
    obtain ⟨chip, dict, guard, -, -⟩ := putMux_muxStep 2 m cause s
    exact ⟨chip, dict, guard, muxAt_setMux_ne (by decide) ..⟩
  exact (rests _).trans (spineStart_coreStep ..)

theorem execCoreRelease_released {s : State} (boots : booting s = true) (armed : booted s 4 = true) (fresh : booted s 5 = false)
    (hfrc : qualified s 3 = true) (high : s.chip.resetLow = false) (noSafe : s.guard.pendingSafe = false) :
    Completes .coreRelease s (fun t =>
      t.chip = { s.chip with phases := s.chip.phases ++ [5], tstHeld := s.chip.straps.tstA || s.chip.straps.tstB } ∧
      (muxAt t 1).code = .alternate ∧ t.guard = s.guard ∧ t.dict = s.dict) := by
  have phase : (booting s && booted s 4 && !booted s 5 && qualified s 3 && !s.chip.resetLow) = true := by
    simp [boots, armed, fresh, hfrc, high]
  refine ⟨_, congrArg Host.Outcome.next (if_pos phase), ?_⟩
  extract_lets _ _ s1 s2 _ s3 _ s4
  have put : MuxStep (phaseEnded 5 s) s1 := putMux_muxStep ..
  have core : (muxAt s1 1).code = .alternate := congrArg Mux.code (muxAt_putMux_core ..)
  clear_value s1
  have started : CoreStep s1 s2 := .ite (startOsc_coreStep ..) (.refl s1)
  clear_value s2
  have chip : s3.chip = { s.chip with phases := s.chip.phases ++ [5], tstHeld := s.chip.straps.tstA || s.chip.straps.tstB } := by
    show { s2.chip with tstHeld := s2.chip.straps.tstA || s2.chip.straps.tstB } = _
    rw [started.chip, put.chip]
    rfl
  have guard : s3.guard = s.guard := started.guard.trans put.guard
  have boots4 : s4 = s3 := if_neg (by simp [guard, noSafe])
  have rest : CoreStep s3 (displayWatch (if (oscAt s4 2).code = .failed ∧ !s4.clocks.spineOn then settleMux 2 true 0 s4 else s4)) := by
    rw [boots4]
    exact (CoreStep.ite (settleMux_spine_coreStep ..) (.refl s3)).trans (displayWatch_coreStep _)
  refine ⟨rest.chip.trans chip, ?_, rest.guard.trans guard, rest.dict.trans (started.dict.trans put.dict)⟩
  rw [rest.core]
  exact (congrArg Mux.code started.core).trans core

/-! ### B6: HFXO, PHYTX and the link -/

/-- Before the link is on, PHYTX starts and nothing else comes of it (R598). -/
theorem phytxSet_linkOff {s : State} (off : s.link.code = .off) (free : s.link.causes = 0) :
    phytxSet true s = { s with clocks := { s.clocks with phytx := true } } := by
  have causes : putBit s.link.causes 1 false = s.link.causes := by rw [free]; rfl
  unfold phytxSet linkCause
  simp only [if_true, causes, off]
  rw [← off]

theorem setLink_causes (c : LinkCode) (s : State) : (setLink c s).link.causes = s.link.causes := by
  unfold setLink
  dsimp only
  split_ifs <;> rfl

/-- The settings and the straps alone decide whether PLCA is off (R576). -/
theorem plcaOff_congr {s t : State} (dict : t.dict = s.dict) (straps : t.chip.straps = s.chip.straps) : plcaOff t = plcaOff s := by
  unfold plcaOff effectiveNode devVal
  rw [dict, straps]

theorem plcaOff_setLink (c : LinkCode) (s : State) : plcaOff (setLink c s) = plcaOff s :=
  plcaOff_congr (by rw [setLink_only]) (by rw [setLink_only])

theorem linkJoin_only (s : State) : linkJoin s = { s with link := (linkJoin s).link } := by
  unfold linkJoin
  dsimp only
  split
  · rw [setLink_only .csma, setLink_only .joining]
  · exact setLink_only ..

theorem linkJoin_causes (s : State) : (linkJoin s).link.causes = s.link.causes := by
  unfold linkJoin
  dsimp only
  split
  · exact (setLink_causes ..).trans (setLink_causes ..)
  · exact setLink_causes ..

/-- R577: JOINING, or CSMA where the settings turn PLCA off. -/
theorem linkJoin_code (s : State) : (linkJoin s).link.code = if plcaOff s then .csma else .joining := by
  unfold linkJoin
  dsimp only
  rw [plcaOff_setLink]
  split
  · exact setLink_code ..
  · exact setLink_code ..

theorem execHfxoPhase_joins {s : State} (boots : booting s = true) (released : booted s 5 = true) (fresh : booted s 6 = false)
    (hfxo : qualified s 2 = true) (runs : s.chip.tstHeld = false) (off : s.link.code = .off) (free : s.link.causes = 0)
    (spine : s.clocks.spineOn = true) :
    Completes .hfxoPhase s (fun t =>
      t.chip = { s.chip with phases := s.chip.phases ++ [6] } ∧ (muxAt t 1).code = .primary ∧ t.clocks.corePll = true ∧
      t.clocks.phytx = true ∧ t.link.code = if plcaOff s then .csma else .joining) := by
  have phase : (booting s && booted s 5 && !booted s 6 && qualified s 2 && !s.chip.tstHeld) = true := by
    simp [boots, released, fresh, hfxo, runs]
  refine ⟨_, congrArg Host.Outcome.next (if_pos phase), ?_⟩
  extract_lets _ _ s1 _ s2 s3 s4
  have put : MuxStep (phaseEnded 6 s) s1 := putMux_muxStep ..
  have core : (muxAt s1 1).code = .primary := congrArg Mux.code (muxAt_putMux_core ..)
  clear_value s1
  have sends : s2 = { s1 with clocks := { s1.clocks with corePll := true, phytx := true } } :=
    phytxSet_linkOff (congrArg Link.code put.link |>.trans off) (congrArg Link.causes put.link |>.trans free)
  have spine2 : s2.clocks.spineOn = true := by
    rw [sends]
    exact put.spineOn.trans spine
  have same : s3 = s2 := if_pos spine2
  have may : s4.link.causes = 0 := by
    rw [show s4 = linkJoin s3 from rfl, linkJoin_causes, same, sends]
    exact congrArg Link.causes put.link |>.trans free
  have plca : plcaOff s2 = plcaOff s :=
    (congrArg plcaOff sends).trans ((plcaOff_congr (s := s1) rfl rfl).trans (plcaOff_congr put.dict (by rw [put.chip]; rfl)))
  have joined : s4.link.code = if plcaOff s then .csma else .joining := by
    rw [show s4 = linkJoin s3 from rfl, linkJoin_code, same, plca]
  have kept : s4 = { s2 with link := s4.link } := by
    rw [← same]
    exact linkJoin_only s3
  rw [if_pos may, displayWatch_only]
  refine ⟨?_, ?_, ?_, ?_, joined⟩ <;> dsimp only [muxAt] <;> rw [kept, sends]
  · exact put.chip
  · exact core

/-! ### B7: the Pods -/

/-- Nothing keeps the Pods from their restart (R187). -/
structure MayRestart (s : State) : Prop where
  boot : s.chip.state = .boot
  noReset : s.chip.reset = none
  locked : s.clocks.spineLocked = true
  released : booted s 5 = true
  fresh : booted s 7 = false
  runs : s.chip.tstHeld = false

theorem MayRestart.phase {s : State} (may : MayRestart s) :
    s.chip.state = .boot ∧ s.chip.reset.isNone ∧ s.clocks.spineLocked ∧ booted s 5 ∧ !booted s 7 ∧ !s.chip.tstHeld := by
  simp [may.boot, may.noReset, may.locked, may.released, may.fresh, may.runs]

theorem execPodRestart_fromBoot {s : State} (may : MayRestart s) (boots : s.chip.fromStandby = false) (failing : List Nat) :
    execPodRestart failing s =
      (let t := onPods restartPod { s with chip := { s.chip with phases := s.chip.phases ++ [7] } }
       .next (laneTimeouts failing (trigger 8 255 { t with chip := { t.chip with podsOff := false } }))) := by
  have fresh : ¬ s.chip.fromStandby = true := by
    rw [boots]
    exact Bool.false_ne_true
  unfold execPodRestart
  rw [if_pos may.phase]
  dsimp only
  rw [if_neg fresh]

/-- Work that leaves a state as it is for each Pod leaves it as it is for all of them. -/
theorem onPods_fixed {f : Nat → State → State} {s : State} (same : ∀ p, p < 64 → f p s = s) : onPods f s = s := by
  refine List.foldlRecOn (motive := (· = s)) podList _ rfl fun t kept p mem => ?_
  rw [kept]
  exact same p (List.mem_range.1 mem)

theorem transferAll_none {s : State} (still : ∀ p, p < 64 → takesTransfer (podAt s p) = false) (absent : List Nat) :
    transferAll absent s = s := onPods_fixed fun p hp => if_pos (by simp [still p hp])

theorem laneTimeouts_none {ps : List Nat} (nobody : ∀ p, p < 64 → p ∉ ps) (s : State) : laneTimeouts ps s = s := by
  have empty : podList.filter (fun p => ps.contains p) = [] :=
    List.filter_eq_nil_iff.2 fun p mem => by simpa using nobody p (List.mem_range.1 mem)
  unfold laneTimeouts
  rw [empty]
  rfl

/-- R198: after a STANDBY that kept the Pods, one without dormant energy and without a crossing goes on as it is. -/
theorem execPodRestart_fromStandby {s : State} (may : MayRestart s) (standby : s.chip.fromStandby = true)
    (still : ∀ p, p < 64 → (podAt s p).doze.sentinel ≠ .tripped ∧ takesTransfer (podAt s p) = false) (failing : List Nat) :
    execPodRestart failing s = .next (phaseEnded 7 s) := by
  have rests (p : Nat) (hp : p < 64) : takesTransfer (podAt (phaseEnded 7 s) p) = false := (still p hp).2
  have uncrossed (p : Nat) (hp : p < 64) : (podAt (phaseEnded 7 s) p).doze.sentinel ≠ .tripped := (still p hp).1
  have nobody (p : Nat) (hp : p < 64) : p ∉ failing.filter (fun p => takesTransfer (podAt s p)) := fun mem =>
    absurd ((still p hp).2.symm.trans (List.mem_filter.1 mem).2) Bool.false_ne_true
  unfold execPodRestart
  rw [if_pos may.phase]
  dsimp only
  rw [if_pos standby, laneTimeouts_none nobody]
  show Host.Outcome.next (onPods _ (transferAll failing (phaseEnded 7 s))) = _
  rw [transferAll_none rests]
  exact congrArg Host.Outcome.next (onPods_fixed fun p hp => if_neg (uncrossed p hp))

/-! ### B8: the engine -/

theorem execEngineOpen_opens {s : State} (boots : booting s = true) (boot : s.chip.state = .boot) (joined : booted s 6 = true)
    (shut : s.engine.opened = false) (link : linkOpens s.link.code = true) :
    Completes .engineOpen s (fun t =>
      t.chip = { s.chip with state := .active, phases := s.chip.phases ++ [8] } ∧ t.engine.opened = true ∧ t.dict = s.dict ∧ t.pods = s.pods) := by
  have phase : (booting s && booted s 6 && !s.engine.opened && linkOpens s.link.code) = true := by simp [boots, joined, shut, link]
  refine ⟨_, congrArg Host.Outcome.next (if_pos phase), ?_⟩
  dsimp only [takeFree]
  rw [if_neg (by rw [boot]; decide), openEngine, displayWatch_only]
  exact ⟨rfl, rfl, rfl, rfl⟩

/-- Settles O23: each phase by what it waits for. -/
theorem bootPhasesEnd : Obligations.BootPhasesEnd := by
  unfold Obligations.BootPhasesEnd
  exact ⟨fun s => execCoreRelease_released, fun s => execHfxoPhase_joins,
    fun failing s boot noReset locked released fresh runs boots =>
      execPodRestart_fromBoot ⟨boot, noReset, locked, released, fresh, runs⟩ boots failing,
    fun failing s boot noReset locked released fresh runs standby still =>
      execPodRestart_fromStandby ⟨boot, noReset, locked, released, fresh, runs⟩ standby still failing,
    fun s => execEngineOpen_opens⟩

end Sys2Proof.Laws
end

section
/-! SUPPORT. What no fault touches: the frames that the engine works on, the phases of BOOT and the arming of Guard. -/

namespace Sys2Proof.Laws

open Sys2Proof.Machine

/-! ### Below Guard: Pods, displays, the link and the records -/

/-- The chip and Guard are as they were, and of the engine the queue of EVENT records alone can differ. -/
structure BelowGuard (s t : State) : Prop where
  chip : t.chip = s.chip
  guard : t.guard = s.guard
  engine : ∃ es n, t.engine = { s.engine with events := es, evDropped := n }

theorem BelowGuard.refl (s : State) : BelowGuard s s := ⟨rfl, rfl, _, _, rfl⟩

theorem BelowGuard.trans {s t u : State} (a : BelowGuard s t) (b : BelowGuard t u) : BelowGuard s u := by
  obtain ⟨_, _, first⟩ := a.engine
  obtain ⟨_, _, second⟩ := b.engine
  exact ⟨b.chip.trans a.chip, b.guard.trans a.guard, _, _, by rw [second, first]⟩

theorem BelowGuard.ite {c : Prop} [Decidable c] {s t u : State} (a : BelowGuard s t) (b : BelowGuard s u) :
    BelowGuard s (if c then t else u) := by
  split <;> assumption

theorem BelowGuard.foldl {α : Type} {f : State → α → State} (step : ∀ s a, BelowGuard s (f s a)) (l : List α) (s : State) :
    BelowGuard s (l.foldl f s) :=
  List.foldlRecOn (motive := BelowGuard s) l f (.refl s) fun t kept a _ => kept.trans (step t a)

theorem modPod_below (p : Nat) (f : Pod → Pod) (s : State) : BelowGuard s (modPod p f s) := ⟨rfl, rfl, _, _, rfl⟩

theorem putShell_below (sh : Shell) (s : State) : BelowGuard s { s with shell := sh } := ⟨rfl, rfl, _, _, rfl⟩

theorem hubCount_below (k : Nat) (s : State) : BelowGuard s (hubCount k s) := ⟨rfl, rfl, _, _, rfl⟩

theorem trigger_below (code pod : Nat) (s : State) : BelowGuard s (trigger code pod s) := ⟨rfl, rfl, _, _, rfl⟩

theorem traceAdd_below (kind stamp : Nat) (payload : List Nat) (s : State) : BelowGuard s (traceAdd kind stamp payload s) := by
  rw [traceAdd_only]
  exact ⟨rfl, rfl, _, _, rfl⟩

theorem traceClock_below (obj pod before after cause : Nat) (s : State) : BelowGuard s (traceClock obj pod before after cause s) :=
  .ite (.refl s) (traceAdd_below ..)

theorem logAdd_below (kind inst detail : Nat) (payload : List Nat) (s : State) : BelowGuard s (logAdd kind inst detail payload s) := by
  rw [logAdd_only]
  exact ⟨rfl, rfl, _, _, rfl⟩

theorem evAdd_below (r : EvRec) (s : State) : BelowGuard s (evAdd r s) := by
  unfold evAdd
  dsimp only
  split_ifs <;> exact ⟨rfl, rfl, _, _, rfl⟩

theorem displayWatch_below (s : State) : BelowGuard s (displayWatch s) := by
  rw [displayWatch_only]
  exact ⟨rfl, rfl, _, _, rfl⟩

theorem setOsc_below (k : Nat) (o : Osc) (cause : Nat) (s : State) : BelowGuard s (setOsc k o cause s) := by
  rw [setOsc_only]
  exact ⟨rfl, rfl, _, _, rfl⟩

theorem startOsc_below (k : Nat) (s : State) : BelowGuard s (startOsc k s) := .ite (.refl s) (setOsc_below ..)

theorem setLink_below (c : LinkCode) (s : State) : BelowGuard s (setLink c s) := by
  rw [setLink_only]
  exact ⟨rfl, rfl, _, _, rfl⟩

theorem linkCause_below (k : Nat) (present : Bool) (s : State) : BelowGuard s (linkCause k present s) := by
  unfold linkCause
  extract_lets _ s1
  have noted : BelowGuard s s1 := ⟨rfl, rfl, _, _, rfl⟩
  have joins : BelowGuard s1 (linkJoin s1) := .ite ((setLink_below ..).trans (setLink_below ..)) (setLink_below ..)
  cases s1.link.code
  case joining | follower | coordinator | csma | fallback | silent => exact .ite noted (noted.trans (setLink_below ..))
  case listenOnly => exact .ite (noted.trans joins) noted
  case off | wakeListen => exact noted

theorem closeGap_below (p cause : Nat) (start stop : Tick) (bound : Option Nat) (dormant add : Bool) (s : State) :
    BelowGuard s (closeGap p cause start stop bound dormant add s) := by
  unfold closeGap
  extract_lets flags b s1 s2
  have bounded : BelowGuard s s1 := .ite (modPod_below ..) (.refl s)
  have logged : BelowGuard s s2 := bounded.trans (logAdd_below ..)
  exact logged.trans (putShell_below ..)

theorem withBooking_below (p : Nat) (f : Pod → Pod × List PhaseGap) (s : State) : BelowGuard s (withBooking p f s) :=
  ((modPod_below ..).trans (modPod_below ..)).trans (.foldl (fun _ _ => closeGap_below ..) _ _)

theorem drainEvents_below (p : Nat) (s : State) : BelowGuard s (drainEvents p s) :=
  .ite (.refl s) ((BelowGuard.foldl (fun s r => evAdd_below ⟨2, p, eventOctets r⟩ s) _ s).trans (modPod_below ..))

theorem endBooking_below (p : Nat) (limit : Option Tick) (s : State) : BelowGuard s (endBooking p limit s) := by
  unfold endBooking
  extract_lets stop s0 s1 source s2
  have booked : BelowGuard s s0 := .foldl (fun s _ => .ite (withBooking_below ..) (.refl s)) _ s
  exact booked.trans ((withBooking_below ..).trans ((modPod_below ..).trans (drainEvents_below ..)))

theorem freezeNow_below (p : Nat) (s : State) : BelowGuard s (freezeNow p s) := by
  unfold freezeNow
  extract_lets s1 s2
  have stopped : BelowGuard s1 s2 := .ite (endBooking_below ..) (.refl s1)
  exact ((modPod_below ..).trans stopped).trans (modPod_below ..)

theorem freezePods_below (s : State) : BelowGuard s (freezePods s) :=
  .foldl (fun _ _ => .ite (modPod_below ..) (freezeNow_below ..)) _ s

theorem setMode_below (p : Nat) (m : PodMode) (cause : Nat) (s : State) : BelowGuard s (setMode p m cause s) := by
  unfold setMode
  extract_lets d off s1 s2 s3
  have traced : BelowGuard s s2 := (modPod_below ..).trans (traceAdd_below ..)
  have clocked : BelowGuard s s3 := .ite (traced.trans (traceClock_below ..)) traced
  exact .ite (.refl s) (.ite (clocked.trans (trigger_below ..)) clocked)

theorem stopSampling_below (p : Nat) (m : PodMode) (cause : Nat) (limit : Option Tick) (s : State) :
    BelowGuard s (stopSampling p m cause limit s) := by
  unfold stopSampling
  extract_lets s1
  have booked : BelowGuard s s1 := .ite (endBooking_below ..) (.refl s)
  exact booked.trans ((modPod_below ..).trans (setMode_below ..))

theorem endDoze_below (p : Nat) (now : Tick) (exit : Nat) (s : State) : BelowGuard s (endDoze p now exit s) := by
  unfold endDoze
  extract_lets d s1
  have ended : BelowGuard s s1 := modPod_below ..
  cases d.doze.armingFrom with
  | none => exact ended
  | some t0 => exact .ite (ended.trans (closeGap_below ..)) ended

theorem podToFault_below (p cause : Nat) (s : State) : BelowGuard s (podToFault p cause s) := by
  unfold podToFault
  extract_lets s1 s2
  have stopped : BelowGuard s s2 := (modPod_below ..).trans (stopSampling_below ..)
  exact stopped.trans ((endDoze_below ..).trans (modPod_below ..))

/-! ### Guard -/

/-- The engine's frames, the phases of BOOT and the arming of Guard are as they were; once Guard is armed, so is what it holds. -/
structure FaultKept (s t : State) : Prop where
  standby : t.chip.standbyWanted = s.chip.standbyWanted
  phases : t.chip.phases = s.chip.phases
  armed : t.guard.armed = s.guard.armed
  held : s.guard.armed = true → t.guard.held = s.guard.held
  engine : ∃ es n, t.engine = { s.engine with events := es, evDropped := n }

theorem BelowGuard.fault {s t : State} (b : BelowGuard s t) : FaultKept s t :=
  ⟨by rw [b.chip], by rw [b.chip], by rw [b.guard], fun _ => by rw [b.guard], b.engine⟩

theorem FaultKept.refl (s : State) : FaultKept s s := (BelowGuard.refl s).fault

theorem FaultKept.trans {s t u : State} (a : FaultKept s t) (b : FaultKept t u) : FaultKept s u := by
  obtain ⟨_, _, first⟩ := a.engine
  obtain ⟨_, _, second⟩ := b.engine
  exact ⟨b.standby.trans a.standby, b.phases.trans a.phases, b.armed.trans a.armed,
    fun armed => (b.held (a.armed.trans armed)).trans (a.held armed), _, _, by rw [second, first]⟩

theorem FaultKept.ite {c : Prop} [Decidable c] {s t u : State} (a : FaultKept s t) (b : FaultKept s u) :
    FaultKept s (if c then t else u) := by
  split <;> assumption

theorem FaultKept.foldl {α : Type} {f : State → α → State} (step : ∀ s a, FaultKept s (f s a)) (l : List α) (s : State) :
    FaultKept s (l.foldl f s) :=
  List.foldlRecOn (motive := FaultKept s) l f (.refl s) fun t kept a _ => kept.trans (step t a)

theorem modInst_kept (k : Nat) (f : Inst → Inst) (s : State) : FaultKept s (modInst k f s) := ⟨rfl, rfl, rfl, fun _ => rfl, _, _, rfl⟩

/-- An entry of the history leaves the chip and what is open in Guard as they stand. -/
structure Recorded (s t : State) : Prop extends FaultKept s t where
  chip : t.chip = s.chip
  insts : t.guard.insts = s.guard.insts

theorem BelowGuard.recorded {s t u : State} (a : Recorded s t) (b : BelowGuard t u) : Recorded s u :=
  ⟨a.toFaultKept.trans b.fault, b.chip.trans a.chip, (congrArg Guard.insts b.guard).trans a.insts⟩

theorem histAdd_recorded (c : FaultClass) (p source action flags detail before : Nat) (logged notified : Bool) (s : State) :
    Recorded s (histAdd c p source action flags detail before logged notified s) := by
  have ite {c : Prop} [Decidable c] {t u : State} (a : Recorded s t) (b : Recorded s u) : Recorded s (if c then t else u) := by
    split <;> assumption
  unfold histAdd
  extract_lets k seq inst e g s1 s2 podByte s3
  have noted : Recorded s s1 := ⟨⟨rfl, rfl, rfl, fun _ => rfl, _, _, rfl⟩, rfl, rfl⟩
  have traced : Recorded s s2 := (traceAdd_below ..).recorded noted
  have logs : Recorded s s3 := ite ((logAdd_below ..).recorded traced) traced
  exact ite ((evAdd_below ..).recorded logs) logs

/-- A containment leaves the chip as it stands (R523). -/
theorem enterContainment_kept (c : FaultClass) (p : Nat) (s : State) :
    FaultKept s (enterContainment c p s) ∧ (enterContainment c p s).chip = s.chip := by
  unfold enterContainment
  extract_lets k i quiet s1
  have noted : FaultKept s s1 := modInst_kept ..
  have below {t : State} (b : BelowGuard s1 t) : FaultKept s t ∧ t.chip = s.chip := ⟨noted.trans b.fault, b.chip⟩
  cases c
  case pod => exact below (podToFault_below ..)
  case link => exact below (linkCause_below ..)
  case pwr | disp => exact below (displayWatch_below s1)
  case clk | shell | time | guard => exact below (.refl s1)

/-- R529: SAFE leaves Guard's record of the L4 as it stands. -/
theorem enterSafe_kept (s : State) :
    FaultKept s (enterSafe s) ∧ (enterSafe s).chip.state = .safe ∧ (enterSafe s).guard.latched = s.guard.latched := by
  have safe (u : State) : FaultKept u (runTimers false (setChip .safe u)) := ⟨rfl, rfl, rfl, fun _ => rfl, _, _, rfl⟩
  have frozen := freezePods_below s
  unfold enterSafe
  generalize freezePods s = u at frozen ⊢
  have watched := displayWatch_below (runTimers false (setChip .safe u))
  exact ⟨frozen.fault.trans ((safe u).trans watched.fault), by rw [watched.chip]; rfl, by rw [watched.guard, ← frozen.guard]; rfl⟩

theorem levelFour_kept (c : FaultClass) (p source : Nat) (s : State) : FaultKept s (levelFour c p source s) := by
  unfold levelFour
  extract_lets _ s1
  have noted : FaultKept s s1 := ⟨rfl, rfl, rfl, fun _ => rfl, _, _, rfl⟩
  cases s.chip.state
  case active | boot => exact noted.trans (enterSafe_kept s1).1
  case standby => exact noted.trans ⟨rfl, rfl, rfl, fun _ => rfl, _, _, rfl⟩
  case unpowered | hold | safe => exact noted

theorem levelEffects_kept (c : FaultClass) (p source level : Nat) (s : State) : FaultKept s (levelEffects c p source level s) := by
  unfold levelEffects
  extract_lets k i s1
  have contained : FaultKept s s1 := .ite (enterContainment_kept ..).1 (.refl s)
  exact .ite (contained.trans (levelFour_kept ..)) contained

theorem dropEnded_kept (k : Nat) (s : State) : FaultKept s (dropEnded k s) := by
  unfold dropEnded
  exact .ite ⟨rfl, rfl, rfl, fun _ => rfl, _, _, rfl⟩ (modInst_kept ..)

theorem raiseAt_kept (c : FaultClass) (p source detail : Nat) (at_ : Tick) (held present : Bool) (s : State) (least : Nat) :
    FaultKept s (raiseAt c p source detail at_ held present s least) := by
  have risen (u : State) (f : Inst → Inst) (action flags before level k : Nat) (g : Bool) (raised : FaultKept s u) :
      FaultKept s (dropEnded k (levelEffects c p source level (histAdd c p source action flags detail before g g (modInst k f u)))) :=
    raised.trans ((modInst_kept ..).trans
      ((histAdd_recorded ..).toFaultKept.trans ((levelEffects_kept ..).trans (dropEnded_kept ..))))
  have counted : FaultKept s { s with guard := { s.guard with raises := bump s.guard.raises (FaultClass.code c - 1) } } :=
    ⟨rfl, rfl, rfl, fun _ => rfl, _, _, rfl⟩
  unfold raiseAt
  dsimp only
  split
  · exact risen _ _ _ _ _ _ _ _ counted
  · exact risen _ _ _ _ _ _ _ _ counted

theorem raise_kept (c : FaultClass) (p source detail : Nat) (s : State) : FaultKept s (raise c p source detail s) := by
  unfold raise
  extract_lets cond
  refine .ite (.refl s) ?_
  by_cases armed : s.guard.armed = true
  · rw [if_neg (by simp [armed])]
    exact raiseAt_kept ..
  · rw [if_pos (by simp [armed])]
    exact ⟨rfl, rfl, rfl, fun yes => absurd yes armed, _, _, rfl⟩

end Sys2Proof.Laws
end

section
/-! 05_startup. Guard arms at B4 and raises what was held (R190, R520). -/

namespace Sys2Proof.Laws

open Sys2Proof.Machine

/-- The level at which B4 raises a held fault (R520). -/
def heldLevel (h : HeldFault) : Nat := max (sourceOf h.cls h.source).2 h.least

/-- The occurrence that a held fault opens: at its level, of the instant of its first raise (R520). -/
structure OpenedBy (h : HeldFault) (o : Occ) : Prop where
  source : o.source = h.source
  level : o.level = heldLevel h
  acked : o.acked = false
  burst : o.burst = h.stamp

/-- The occurrence of a held fault, its response timer started where its level has one. -/
def heldOcc (h : HeldFault) (s : State) : Occ :=
  withTimer s ⟨h.source, heldLevel h, false, if (sourceOf h.cls h.source).1 && h.present then [h.source] else [], h.stamp, none, false,
    !(sourceOf h.cls h.source).1⟩

/-- The response timer leaves what an occurrence says of its fault. -/
theorem withTimer_openedBy {h : HeldFault} {o : Occ} (opened : OpenedBy h o) (s : State) : OpenedBy h (withTimer s o) := by
  obtain ⟨source, level, acked, burst⟩ := opened
  unfold withTimer
  split
  · exact ⟨source, level, acked, burst⟩
  · exact ⟨source, level, acked, burst⟩

theorem heldOcc_openedBy (h : HeldFault) (s : State) : OpenedBy h (heldOcc h s) :=
  withTimer_openedBy ⟨rfl, rfl, rfl, rfl⟩ s

/-- Raised where no occurrence is open, a held fault opens one; its level's effects follow on the same chip. -/
theorem raiseAt_opens {h : HeldFault} {s : State} (none : (instAt s (instIndex h.cls h.pod)).occs = []) :
    ∃ (o : Occ) (u : State),
      raiseAt h.cls h.pod h.source h.detail h.stamp true h.present s h.least =
        dropEnded (instIndex h.cls h.pod) (levelEffects h.cls h.pod h.source (heldLevel h) u) ∧
      OpenedBy h o ∧ u.chip = s.chip ∧
      (instIndex h.cls h.pod < 72 → (instAt u (instIndex h.cls h.pod)).occs = [o]) := by
  have quiet : (instAt s (instIndex h.cls h.pod)).unacked = false := by simp [Inst.unacked, none]
  unfold raiseAt
  dsimp only
  rw [none, List.find?_nil]
  simp only [quiet, Bool.and_false, Bool.false_eq_true, if_false, lt_self_iff_false, if_true]
  refine ⟨heldOcc h s, _, rfl, heldOcc_openedBy h s, ?_, fun small => ?_⟩
  · rw [histAdd_chip]
    rfl
  · unfold instAt
    rw [(histAdd_recorded ..).insts]
    refine (congrArg Inst.occs (instAt_modInst small _ _)).trans ?_
    exact congrArg (· ++ [heldOcc h s]) none

/-- Below L3 a level brings nothing but the occurrence itself. -/
theorem levelEffects_low {level : Nat} (low : level < 3) (c : FaultClass) (p source : Nat) (s : State) :
    levelEffects c p source level s = s := by
  unfold levelEffects
  dsimp only
  rw [if_neg (by omega), if_neg (by omega)]

/-- R529, R530: an L4 in BOOT takes the chip to SAFE and is recorded. -/
theorem levelEffects_four {s : State} (boot : s.chip.state = .boot) (c : FaultClass) (p source : Nat) :
    (levelEffects c p source 4 s).chip.state = .safe ∧ (levelEffects c p source 4 s).guard.latched = true := by
  have four (u : State) (same : u.chip = s.chip) :
      (levelFour c p source u).chip.state = .safe ∧ (levelFour c p source u).guard.latched = true := by
    unfold levelFour
    rw [same, boot]
    dsimp only
    exact ⟨(enterSafe_kept _).2.1, (enterSafe_kept _).2.2.trans rfl⟩
  unfold levelEffects
  dsimp only
  rw [if_pos rfl]
  refine four _ ?_
  split
  · exact (enterContainment_kept ..).2
  · rfl

@[simp] theorem dropEnded_chip (k : Nat) (s : State) : (dropEnded k s).chip = s.chip := by
  unfold dropEnded
  dsimp only
  split <;> rfl

@[simp] theorem dropEnded_latched (k : Nat) (s : State) : (dropEnded k s).guard.latched = s.guard.latched := by
  unfold dropEnded
  dsimp only
  split <;> rfl

/-- R525: occurrences that go on stay. -/
theorem dropEnded_occs {k : Nat} {s : State} (small : k < 72) (on : ∀ o ∈ (instAt s k).occs, occEnds o = false) :
    (instAt (dropEnded k s) k).occs = (instAt s k).occs := by
  have kept : (instAt s k).occs.filter (fun o => !occEnds o) = (instAt s k).occs := by
    simpa using on
  have dropped : ∀ u : State, u.guard.insts = (modInst k (fun i => { i with occs := i.occs.filter (fun o => !occEnds o) }) s).guard.insts →
      (instAt u k).occs = (instAt s k).occs := by
    intro u same
    unfold instAt at *
    rw [same]
    exact (congrArg Inst.occs (instAt_modInst small _ _)).trans kept
  unfold dropEnded
  dsimp only
  split
  · exact dropped _ rfl
  · exact dropped _ rfl

/-- R520: a held L1 or L2 opens one occurrence and leaves the chip. -/
theorem raiseAt_heldLow {h : HeldFault} {s : State} (none : (instAt s (instIndex h.cls h.pod)).occs = [])
    (small : instIndex h.cls h.pod < 72) (level : heldLevel h = 1 ∨ heldLevel h = 2) :
    (raiseAt h.cls h.pod h.source h.detail h.stamp true h.present s h.least).chip = s.chip ∧
      ∃ o, (instAt (raiseAt h.cls h.pod h.source h.detail h.stamp true h.present s h.least) (instIndex h.cls h.pod)).occs = [o] ∧
        OpenedBy h o := by
  obtain ⟨o, u, raised, opened, chip, occs⟩ := raiseAt_opens none
  have on : occEnds o = false := by
    have high : o.level ≠ 0 := by rw [opened.level]; omega
    simp [occEnds, opened.acked, high]
  rw [raised, levelEffects_low (by omega)]
  refine ⟨(dropEnded_chip ..).trans chip, o, ?_, opened⟩
  rw [dropEnded_occs small (by simpa [occs small] using on), occs small]

/-- R520, R529: a held L4 takes the chip to SAFE. -/
theorem raiseAt_heldFour {h : HeldFault} {s : State} (none : (instAt s (instIndex h.cls h.pod)).occs = [])
    (boot : s.chip.state = .boot) (level : heldLevel h = 4) :
    (raiseAt h.cls h.pod h.source h.detail h.stamp true h.present s h.least).chip.state = .safe ∧
      (raiseAt h.cls h.pod h.source h.detail h.stamp true h.present s h.least).guard.latched = true := by
  obtain ⟨_, u, raised, -, chip, -⟩ := raiseAt_opens none
  rw [raised, level, dropEnded_chip, dropEnded_latched]
  exact levelEffects_four (by rw [chip, boot]) ..

/-- R520: B4 arms Guard and leaves nothing held. -/
theorem armGuard_kept (s : State) :
    (armGuard s).guard.armed = true ∧ (armGuard s).guard.held = [] ∧ (armGuard s).chip.phases = s.chip.phases := by
  have raised := FaultKept.foldl (f := fun s h => raiseAt h.cls h.pod h.source h.detail h.stamp true h.present s h.least)
    (fun s h => raiseAt_kept ..) s.guard.held { s with guard := { s.guard with armed := true, held := [] } }
  exact ⟨raised.armed, raised.held rfl, raised.phases⟩

theorem armGuard_none {s : State} (none : s.guard.held = []) :
    armGuard s = { s with guard := { s.guard with armed := true, held := [] } } := by
  unfold armGuard
  rw [none]
  rfl

theorem armGuard_one {h : HeldFault} {s : State} (one : s.guard.held = [h]) :
    armGuard s = raiseAt h.cls h.pod h.source h.detail h.stamp true h.present
      { s with guard := { s.guard with armed := true, held := [] } } h.least := by
  unfold armGuard
  rw [one]
  rfl

/-- R520: one held L1 or L2 becomes one occurrence. -/
theorem armGuard_low {h : HeldFault} {s : State} (one : s.guard.held = [h]) (none : (instAt s (instIndex h.cls h.pod)).occs = [])
    (small : instIndex h.cls h.pod < 72) (level : heldLevel h = 1 ∨ heldLevel h = 2) :
    (armGuard s).chip = s.chip ∧ ∃ o, (instAt (armGuard s) (instIndex h.cls h.pod)).occs = [o] ∧ OpenedBy h o := by
  rw [armGuard_one one]
  exact raiseAt_heldLow (s := { s with guard := { s.guard with armed := true, held := [] } }) none small level

/-- R520, R529: one held L4 becomes SAFE. -/
theorem armGuard_four {h : HeldFault} {s : State} (one : s.guard.held = [h]) (none : (instAt s (instIndex h.cls h.pod)).occs = [])
    (boot : s.chip.state = .boot) (level : heldLevel h = 4) :
    (armGuard s).chip.state = .safe ∧ (armGuard s).guard.latched = true := by
  rw [armGuard_one one]
  exact raiseAt_heldFour (s := { s with guard := { s.guard with armed := true, held := [] } }) none boot level

theorem execGuardArming_arms {s : State} (boot : s.chip.state = .boot) (noReset : s.chip.reset = none) (b3 : booted s 3 = true)
    (fresh : booted s 4 = false) (clocked : qualified s 4 = true) :
    exec .guardArming s = .next (armGuard { s with chip := { s.chip with phases := s.chip.phases ++ [4] } }) :=
  congrArg Host.Outcome.next (if_pos (by simp [boot, noReset, b3, fresh, clocked]))

/-- Settles O22: the fold over what is held changes neither the arming nor what is held, and the raise of one held fault is the
opening of its occurrence followed by its level's effects. -/
theorem guardArmsAtB4 : Obligations.GuardArmsAtB4 := by
  unfold Obligations.GuardArmsAtB4
  refine ⟨fun s boot noReset b3 fresh clocked => ?_, fun s off => ?_, fun c p source detail s unarmed new => ?_,
    fun c p source detail s cond stays => ?_⟩
  · refine ⟨_, execGuardArming_arms boot noReset b3 fresh clocked, ?_⟩
    obtain ⟨armed, held, phases⟩ := armGuard_kept { s with chip := { s.chip with phases := s.chip.phases ++ [4] } }
    refine ⟨armed, held, phases, fun none => armGuard_none none, fun h one none small => ⟨fun least level => ?_, fun level => ?_⟩⟩
    · have own : heldLevel h = (sourceOf h.cls h.source).2 := by simp [heldLevel, least]
      obtain ⟨chip, o, occs, opened⟩ := armGuard_low (s := { s with chip := { s.chip with phases := s.chip.phases ++ [4] } })
        one none small (own ▸ level)
      exact ⟨by rw [chip]; exact boot, o, occs, opened.source, opened.level.trans own, opened.acked, opened.burst⟩
    · exact armGuard_four (s := { s with chip := { s.chip with phases := s.chip.phases ++ [4] } }) one none boot level
  · refine congrArg Host.Outcome.next (if_neg ?_)
    rintro ⟨boot, -, b3, fresh, clocked⟩
    rcases off with no | no | no | no
    · exact no boot
    · simp [no] at b3
    · simp [no] at fresh
    · simp [no] at clocked
  · unfold raise
    dsimp only
    rw [if_neg (by rcases new with no | no <;> simp [no]), if_pos (by simp [unarmed])]
  · unfold raise
    dsimp only
    rw [if_pos (by simp [cond, stays])]

end Sys2Proof.Laws
end

section
/-! SUPPORT. What the reset of a Pod leaves to the engine: the frames, the replies and the STANDBY it works on. -/

namespace Sys2Proof.Laws

open Sys2Proof.Machine

/-! ### The STORE of a seal that closes -/

theorem closeSeals_below (good : Bool) (s : State) : BelowGuard s (closeSeals good s) := by
  unfold closeSeals onPods
  refine .foldl (fun s p => ?_) podList s
  dsimp only
  exact .ite (.ite ((modPod_below ..).trans (modPod_below ..)) (modPod_below ..)) (.refl s)

theorem storeTriggers_below (reasons outcome : Nat) (s : State) : BelowGuard s (storeTriggers reasons outcome s) := by
  unfold storeTriggers
  extract_lets good _ s1
  have completed : BelowGuard s s1 := .ite (putShell_below ..) (.refl s)
  exact .ite (completed.trans (closeSeals_below ..)) completed

theorem storeEnds_kept (r : StoreRun) (outcome : Nat) (s : State) : FaultKept s (storeEnds r outcome s) := by
  unfold storeEnds
  extract_lets u good micros sh s1 s2 s3 s4
  have off : BelowGuard s u := .ite (setOsc_below ..) (.refl s)
  have ended : BelowGuard s s1 := off.trans (putShell_below ..)
  have traced : BelowGuard s s2 := ended.trans (traceAdd_below ..)
  have logged : BelowGuard s s3 := .ite traced (traced.trans (logAdd_below ..))
  have joined : BelowGuard s s4 := (logged.trans (.ite (hubCount_below ..) (.refl s3))).trans (storeTriggers_below ..)
  exact .ite (joined.fault.trans (raise_kept ..)) joined.fault

theorem startStoreOn_kept (slot : Option Nat) (reasons : Nat) (repeated : Bool) (started : Tick) (s : State) :
    FaultKept s (startStoreOn slot reasons repeated started s) := by
  unfold startStoreOn
  split
  · exact storeEnds_kept ..
  · extract_lets seq _ s1
    have begun : BelowGuard s s1 := putShell_below ..
    exact ((begun.trans (.ite (startOsc_below ..) (.refl s1))).trans ((hubCount_below ..).trans (traceAdd_below ..))).fault

theorem requestStore_kept (reason : Nat) (s : State) : FaultKept s (requestStore reason s) :=
  .ite (putShell_below ..).fault (startStoreOn_kept ..)

theorem closeSeal_kept (p cause session : Nat) (byCommand : Bool) (s : State) : FaultKept s (closeSeal p cause session byCommand s) := by
  unfold closeSeal
  extract_lets d pos _ s1 s2
  have written : BelowGuard s s1 := (putShell_below ..).trans (hubCount_below ..)
  exact .ite (.refl s) ((written.trans (modPod_below ..)).fault.trans (requestStore_kept ..))

/-! ### The two resets of a Pod -/

/-- R525: the exit of a Pod's level raises afresh what is still present. -/
theorem resetExit_kept (p : Nat) (s : State) : FaultKept s (resetExit .pod p s) := by
  unfold resetExit
  extract_lets k i causes s1 s2
  have cleared : FaultKept s s1 := modInst_kept ..
  have noted : FaultKept s s2 := .ite cleared (cleared.trans (histAdd_recorded ..).toFaultKept)
  exact noted.trans (.foldl (fun _ _ => raise_kept ..) causes s2)

theorem resetFollows_kept (p : Nat) (s : State) : FaultKept s (resetFollows p s) := by
  unfold resetFollows
  extract_lets s1
  have closed : FaultKept s s1 := (resetExit_kept ..).trans (closeSeal_kept ..)
  exact .ite (closed.trans (modPod_below ..).fault) closed

theorem softReset_kept (p : Nat) (s : State) : FaultKept s (softReset p s) := by
  unfold softReset
  extract_lets s1 s3
  have stopped : BelowGuard s s1 := (modPod_below ..).trans ((stopSampling_below ..).trans (endDoze_below ..))
  exact (stopped.trans (modPod_below ..)).fault.trans (resetFollows_kept ..)

theorem reloadPod_below (p : Nat) (s : State) : BelowGuard s (reloadPod p s) :=
  .ite ((modPod_below ..).trans (closeGap_below ..)) ((modPod_below ..).trans (closeGap_below ..))

theorem hardReset_kept (p : Nat) (s : State) : FaultKept s (hardReset p s) := by
  unfold hardReset
  extract_lets s0 s1 s2 s3 s4
  have cycled : BelowGuard s s1 := (modPod_below ..).trans (modPod_below ..)
  have stopped : BelowGuard s s2 := cycled.trans ((modPod_below ..).trans (setMode_below ..))
  have reloaded : BelowGuard s s3 := stopped.trans ((reloadPod_below ..).trans ((modPod_below ..).trans (endDoze_below ..)))
  exact (reloaded.trans (modPod_below ..)).fault.trans (resetFollows_kept ..)

theorem laneTimeout_kept (p : Nat) (s : State) : FaultKept s (laneTimeout p s) := by
  unfold laneTimeout
  exact .ite (.refl s) (((modPod_below ..).trans (hubCount_below ..)).fault.trans (raise_kept ..))

theorem requestReset_kept (p : Nat) (answers : Bool) (s : State) : FaultKept s (requestReset p answers s) := by
  unfold requestReset
  exact .ite (hardReset_kept ..) (.ite ((laneTimeout_kept ..).trans (hardReset_kept ..))
    (.ite (modPod_below ..).fault (softReset_kept ..)))

end Sys2Proof.Laws
end

section
/-! 05_startup. RESET of a Pod (R216, R217, R665). -/

namespace Sys2Proof.Laws

open Sys2Proof.Machine

/-! ### Which reset it is -/

theorem requestReset_isoOpen {p : Nat} {s : State} (opened : (podAt s p).faults.isoOpen = true) (answers : Bool) :
    requestReset p answers s = hardReset p s :=
  if_pos opened

theorem requestReset_silent {p : Nat} {s : State} (closed : (podAt s p).faults.isoOpen = false) :
    requestReset p false s = hardReset p (laneTimeout p s) :=
  (if_neg (by simp [closed])).trans (if_pos rfl)

theorem requestReset_answered {p : Nat} {s : State} (closed : (podAt s p).faults.isoOpen = false) :
    requestReset p true s = if runsFrames (podAt s p) = true then modPod p (fun d => { d with plan := { d.plan with reset := true } }) s
      else softReset p s :=
  (if_neg (by simp [closed])).trans (if_neg (by decide))

/-! ### The command -/

/-- The state that a command of a Pod acts on: after the access to its lane, where that delivers. -/
def reachedPod (p : Nat) (s : State) : State := if laneSilent s p then s else laneDone p s

/-- R665: RESET is answered also where the lane is silent. -/
theorem commandWrite_podReset {who : Who} (high : 2 ≤ who.level.val) (p : Nat) (lane : Bool) (s : State) :
    commandWrite who (podCommandPlace p) 3 lane s = answered stOk (podResetCommand p lane (reachedPod p s)).2 := by
  have far : (podCommandPlace p).unreachable s = laneSilent s p := rfl
  have pod : (podCommandPlace p).pod = some p := rfl
  have level : commandLevel (podCommandPlace p) 3 = 2 := rfl
  unfold commandWrite
  simp only [Nat.reduceMod, Nat.reduceDiv, level, Nat.not_lt.2 high, far, pod, commandWait_notStart (show 3 ≠ 1 by decide),
    bne_self_eq_false, Bool.and_false, Bool.false_eq_true, if_false]
  rfl

theorem commandWrite_podReset_denied {who : Who} (low : who.level.val < 2) (p : Nat) (lane : Bool) (s : State) :
    commandWrite who (podCommandPlace p) 3 lane s = answered stDenied s :=
  if_pos low

theorem doItem_podReset {who : Who} {p : Nat} (hp : p < 64) (session : 1 ≤ who.level.val) (lane : Bool) (s : State) :
    doItem who (.podReset p lane) s = commandWrite who (podCommandPlace p) 3 lane s := by
  have c := commandAt_pod hp
  unfold doItem writeItem
  simp only [c.found, c.tyAt, c.level, c.gatedAccess, c.isSimple, c.command, Nat.not_lt.2 session]
  rfl

theorem doItem_podReset_denied {who : Who} {p : Nat} (hp : p < 64) (low : who.level.val < 2) (lane : Bool) (s : State) :
    doItem who (.podReset p lane) s = answered stDenied s := by
  rcases Nat.eq_zero_or_pos who.level.val with none | session
  · have c := commandAt_pod hp
    unfold doItem writeItem
    simp only [c.found, c.tyAt, c.level, c.gatedAccess, c.isSimple, none]
    rfl
  · rw [doItem_podReset hp session, commandWrite_podReset_denied low]

/-! ### Its outcome goes out -/

theorem resetsBegin_one {s : State} (due : s.engine.resetsDue = []) (x : ResetDue) :
    resetsBegin 0 { s with engine := { s.engine with resetsDue := [(0, x)] } } = resetBegins x s := by
  have cleared : { s with engine := { s.engine with resetsDue := [] } } = s := by rw [← due]
  exact congrArg (resetBegins x) cleared

theorem rowEnds_podReset {u : State} (due : u.engine.resetsDue = []) (who : Who) (p : Nat) (lane : Bool) :
    rowEnds who (answered stOk (podResetCommand p lane u).2) =
      resetAfter (resetBegins (.pod p lane) (withLast stOk (podCommand p 3 0 1 u))) := by
  rw [← resetsBegin_one (s := withLast stOk (podCommand p 3 0 1 u)) due]
  exact congrArg (fun l => resetAfter (resetsBegin 0 { withLast stOk (podCommand p 3 0 1 u) with
    engine := { (withLast stOk (podCommand p 3 0 1 u)).engine with resetsDue := l ++ [(0, ResetDue.pod p lane)] } })) due

/-- R627: a Pod's reset leaves the engine its frames and samplings. -/
theorem resetBegins_kept (p : Nat) (lane : Bool) (s : State) : FaultKept s (resetBegins (.pod p lane) s) :=
  (modPod_below ..).fault.trans (requestReset_kept ..)

theorem reachedPod_engine (p : Nat) (s : State) : (reachedPod p s).engine = s.engine ∧ (reachedPod p s).chip = s.chip := by
  unfold reachedPod
  split
  · exact ⟨rfl, rfl⟩
  · exact ⟨rfl, rfl⟩

/-- R665: the reset of a Pod begins with the outcome, and leaves the engine nothing else to do. -/
theorem rowRun_podReset {who : Who} {p : Nat} {s : State} (h : EngineFree s) (hp : p < 64) (high : 2 ≤ who.level.val) (lane : Bool) :
    rowRun who (.podReset p lane) s = resetBegins (.pod p lane) (withLast stOk (podCommand p 3 0 1 (reachedPod p s))) := by
  obtain ⟨engine, chip⟩ := reachedPod_engine p s
  have answer : runItem who (.podReset p lane) s = answered stOk (podResetCommand p lane (reachedPod p s)).2 := by
    rw [runItem, if_neg (by simp [h.active]), doItem_podReset hp (Nat.le_of_succ_le high), commandWrite_podReset high]
  have kept := resetBegins_kept p lane (withLast stOk (podCommand p 3 0 1 (reachedPod p s)))
  rw [rowRun, serving_free h, rowFree_free h, answer, rowEnds_podReset (by rw [engine, h.noReset])]
  generalize resetBegins (.pod p lane) (withLast stOk (podCommand p 3 0 1 (reachedPod p s))) = t at kept ⊢
  obtain ⟨es, lost, events⟩ := kept.engine
  have same : t.engine = { s.engine with last := ⟨stOk, 0, []⟩, events := es, evDropped := lost } := by rw [events, ← engine]; rfl
  have quiet : Quiet t := ⟨by rw [same]; exact h.running, by rw [same]; exact h.frames,
    kept.standby.trans (by rw [← h.standby, ← chip]; rfl), by rw [same]; exact h.noSub⟩
  have none : t.engine.afterReply = none := by rw [same]; exact h.afterReply
  rw [resetAfter_none none]
  exact settle_quiet quiet

/-! ### What the answer of the lane says -/

theorem podAt_commanded {p : Nat} (hp : p < 64) (u : State) :
    podAt (withLast stOk (podCommand p 3 0 1 u)) p = { podAt u p with command := commandWord 3 0 1 } :=
  podAt_podCommand hp 3 0 1 u

/-- R26: where the lane delivered, the reset goes by its own answer. -/
theorem resetBegins_reached {p : Nat} {s : State} (hp : p < 64) (reached : laneSilent s p = false) (lane : Bool) :
    resetBegins (.pod p lane) (withLast stOk (podCommand p 3 0 1 (laneDone p s))) =
      requestReset p lane (laneFell p (withLast stOk (podCommand p 3 0 1 (laneDone p s)))) := by
  have again : laneSilent (laneDone p s) p = false := (laneDone_laneSilent hp s).trans reached
  have fine : ((podAt (withLast stOk (podCommand p 3 0 1 (laneDone p s))) p).faults.laneFailed !=
      some (withLast stOk (podCommand p 3 0 1 (laneDone p s))).time.elapsed) = true := by
    rw [podAt_commanded hp]
    unfold laneSilent at again
    simp only [Bool.or_eq_false_iff] at again
    exact congrArg not again.2
  unfold resetBegins
  dsimp only
  rw [fine, Bool.and_true]

/-- R217: over an open switch the reset is the hard one. -/
theorem resetBegins_isoOpen {p : Nat} {s : State} (hp : p < 64) (opened : (podAt s p).faults.isoOpen = true) (lane : Bool) :
    resetBegins (.pod p lane) (withLast stOk (podCommand p 3 0 1 s)) = hardReset p (laneFell p (withLast stOk (podCommand p 3 0 1 s))) := by
  refine requestReset_isoOpen ?_ _
  unfold laneFell
  rw [podAt_modPod hp, podAt_commanded hp]
  exact opened

/-- Settles O40: the write of RESET answers and leaves one reset due, which begins as the outcome goes out; no part of it gives the
engine work. -/
theorem podResetIsSoftOrHard : Obligations.PodResetIsSoftOrHard := by
  unfold Obligations.PodResetIsSoftOrHard
  refine ⟨fun who p answers s h high reached => congrArg Host.Outcome.next ?_,
    fun who p answers s h high opened => congrArg Host.Outcome.next ?_,
    fun who p answers s h low => congrArg Host.Outcome.next ?_,
    fun p s closed runs => ?_, fun p s closed still => ?_, fun p s opened => requestReset_isoOpen opened,
    fun p s closed => requestReset_silent closed, fun d => ⟨rfl, rfl, rfl, rfl, rfl, rfl, rfl⟩⟩
  · have lane : reachedPod p.val s = laneDone p.val s := if_neg (by simp [reached])
    rw [rowRun_podReset h p.isLt high, lane, resetBegins_reached p.isLt reached]
  · have lane : reachedPod p.val s = s := if_pos (by simp [laneSilent, opened])
    rw [rowRun_podReset h p.isLt high, lane, resetBegins_isoOpen p.isLt opened]
  · exact rowRun_answers h (doItem_podReset_denied p.isLt low answers s) rfl rfl
  · rw [requestReset_answered closed, if_pos runs]
  · rw [requestReset_answered closed, if_neg (by simp [still])]

end Sys2Proof.Laws
end

section
/-! Slice corrections (R237-R240): what a solve hands to the boundary, and within which limits. -/

namespace Sys2Proof.Laws

open Sys2Proof.Machine

/-! ### Relative to the mean (R237) -/

/-- What `relativeToMean` gives the slice j whose value is x, where the four values add up to n. -/
def meanShare (n x : Int) (j : Nat) : Int :=
  (4 * x - n) / 4 + if ((j + Config.sliceTurn n) % 4 : Nat) < (-n) % 4 then 1 else 0

theorem relativeToMean_four (a b c e : Int) :
    relativeToMean [a, b, c, e] =
      [meanShare (a + b + c + e) a 0, meanShare (a + b + c + e) b 1, meanShare (a + b + c + e) c 2, meanShare (a + b + c + e) e 3] := by
  have sum : (List.range 4).foldl (fun acc j => acc + [a, b, c, e].getD j 0) 0 = a + b + c + e := by simp [List.range_succ]
  unfold relativeToMean
  rw [sum]
  rfl

theorem relativeToMean_map_length (f : Int → Int) (l : List Int) : ((relativeToMean l).map f).length = 4 := by simp [relativeToMean]

/-- A share is one of the two neighbours of the exact difference; where that is whole, it is the difference. -/
theorem meanShare_near (n x : Int) (j : Nat) : (4 * meanShare n x j - (4 * x - n)).natAbs < 4 := by
  unfold meanShare
  split <;> omega

/-- Of four slices in a row, whichever is the first, r get the upper neighbour. -/
theorem upper_neighbours (t : Nat) {r : Int} (h : 0 ≤ r) (h4 : r < 4) :
    (if ((0 + t) % 4 : Nat) < r then 1 else 0) + (if ((1 + t) % 4 : Nat) < r then 1 else 0) + (if ((2 + t) % 4 : Nat) < r then 1 else 0) +
      (if ((3 + t) % 4 : Nat) < r then 1 else 0) = r := by
  have first : t % 4 = 0 ∨ t % 4 = 1 ∨ t % 4 = 2 ∨ t % 4 = 3 := by omega
  simp only [Nat.add_mod _ t 4]
  obtain h0 | h1 | h2 | h3 := first
  · rw [h0]; omega
  · rw [h1]; omega
  · rw [h2]; omega
  · rw [h3]; omega

theorem meanShare_sum (a b c e : Int) :
    meanShare (a + b + c + e) a 0 + meanShare (a + b + c + e) b 1 + meanShare (a + b + c + e) c 2 + meanShare (a + b + c + e) e 3 = 0 := by
  have upper := upper_neighbours (Config.sliceTurn (a + b + c + e)) (r := (-(a + b + c + e)) % 4) (by omega) (by omega)
  unfold meanShare
  omega

/-! ### Within the limits (R238-R240) -/

/-- The corrections of one quantity: those of the solve where samples qualified, none else. -/
def corrections (lim : Int) (any : Bool) (xs : Option (List Int)) : Option (List Int) :=
  (clampSolve lim (if any then xs.map relativeToMean else none)).1

theorem corrections_some {lim : Int} {any : Bool} {xs : Option (List Int)} {l : List Int} (h : xs = some l) (qualified : any = true) :
    corrections lim any xs = some ((relativeToMean l).map (clampInt (-lim) lim)) := by
  rw [h, qualified]
  rfl

theorem corrections_none {lim : Int} {any : Bool} {xs : Option (List Int)} (h : xs = none ∨ any = false) : corrections lim any xs = none := by
  obtain rfl | rfl := h
  · cases any <;> rfl
  · rfl

theorem clampSolve_within {lim : Int} {xs ys : List Int} {b : Bool} (h : 0 ≤ lim) (c : clampSolve lim (some xs) = (some ys, b)) :
    ∀ y ∈ ys, -lim ≤ y ∧ y ≤ lim := by
  cases c
  intro y hy
  obtain ⟨v, -, rfl⟩ := List.mem_map.1 hy
  exact clampInt_mem (by omega) v

theorem clampInt_of_mem {lo hi v : Int} (h : ¬ (hi < v ∨ v < lo)) : clampInt lo hi v = v := by
  rw [not_or] at h
  rw [clampInt, if_neg h.2, if_neg h.1]

theorem clampSolve_kept {lim : Int} {xs ys : List Int} (c : clampSolve lim (some xs) = (some ys, false)) : ys = xs := by
  obtain ⟨rfl, none_⟩ : xs.map (clampInt (-lim) lim) = ys ∧ xs.any (fun v => decide (lim < v ∨ v < -lim)) = false := by
    simpa [clampSolve] using c
  rw [List.any_eq_false] at none_
  exact (List.map_congr_left fun v hv => clampInt_of_mem (by simpa only [decide_eq_true_eq] using none_ v hv)).trans (List.map_id' xs)

/-! ### What waits for the boundary -/

/-- The correction of slice j of a converter whose first slice is `base`: the one of the solve, or the one in effect. -/
def pickCorrection (v : Vector Int 8) (base : Nat) (l : Option (List Int)) (j : Nat) : Int :=
  match l with
  | some l => l.getD j 0
  | none => v.getD (base + j) 0

/-- The entries that a solve leaves for the next boundary. -/
def solveEntries (d : Pod) (onB : Bool) (o g k : Option (List Int)) : List (Nat × Int × Int × Int) :=
  let base := if onB then 4 else 0
  (List.range 4).map (fun j =>
    (base + j, pickCorrection d.conv.offset base o j, pickCorrection d.conv.gain base g j, pickCorrection d.conv.skew base k j))

theorem pickCorrection_some {l : List Int} (h : l.length = 4) (v : Vector Int 8) (base : Nat) :
    (List.range 4).map (pickCorrection v base (some l)) = l := by
  refine List.ext_getElem (by simp [h]) fun j hj hl => ?_
  simp [pickCorrection, hl]

theorem solveEntries_slices (d : Pod) (onB : Bool) (o g k : Option (List Int)) :
    (solveEntries d onB o g k).map (·.1) = if onB = true then [4, 5, 6, 7] else [0, 1, 2, 3] := by
  cases onB <;> rfl

/-- A quantity that the solve gives is taken slice by slice. -/
theorem solveEntries_given {l : List Int} (h : l.length = 4) (d : Pod) (onB : Bool) (o g k : Option (List Int)) :
    (o = some l → (solveEntries d onB o g k).map (·.2.1) = l) ∧ (g = some l → (solveEntries d onB o g k).map (·.2.2.1) = l) ∧
      (k = some l → (solveEntries d onB o g k).map (·.2.2.2) = l) := by
  have column (v : Vector Int 8) := pickCorrection_some h v (if onB then 4 else 0)
  refine ⟨?_, ?_, ?_⟩
  · rintro rfl; exact List.map_map.trans (column d.conv.offset)
  · rintro rfl; exact List.map_map.trans (column d.conv.gain)
  · rintro rfl; exact List.map_map.trans (column d.conv.skew)

/-- A quantity that the solve does not give keeps the corrections in effect. -/
theorem solveEntries_kept {d : Pod} {onB : Bool} {o g k : Option (List Int)} {e : Nat × Int × Int × Int} (h : e ∈ solveEntries d onB o g k) :
    (o = none → e.2.1 = d.conv.offset.getD e.1 0) ∧ (g = none → e.2.2.1 = d.conv.gain.getD e.1 0) ∧
      (k = none → e.2.2.2 = d.conv.skew.getD e.1 0) := by
  obtain ⟨j, -, rfl⟩ := List.mem_map.1 h
  exact ⟨fun e => by rw [e]; rfl, fun e => by rw [e]; rfl, fun e => by rw [e]; rfl⟩

/-! ### The solve (R237, R239, R240) -/

/-- Some correction of the solve lies outside its limit. -/
def solveClamps (ao ag : Bool) (x : Solve) : Bool :=
  (clampSolve 4096 (if ao then x.offset.map relativeToMean else none)).2 || (clampSolve 8192 (if ag then x.gain.map relativeToMean else none)).2 ||
    (clampSolve 256 (if ag then x.skew.map relativeToMean else none)).2

/-- A Pod after a solve in time: `ao` and `ag` say whether offset, and gain with skew, had samples that qualified. -/
def solved (onB ao ag : Bool) (x : Solve) (d : Pod) : Pod :=
  { d with conv := { d.conv with
      estReady := putAt d.conv.estReady (b2n onB) none,
      solve := some (d.conv.solve.getD [] ++
        solveEntries d onB (corrections 4096 ao x.offset) (corrections 8192 ag x.gain) (corrections 256 ag x.skew)),
      residual := putAt d.conv.residual (b2n onB) x.residual,
      clamped := d.conv.clamped || solveClamps ao ag x } }

/-- Slice correction runs, over converter B only where the Pod uses it. -/
theorem estimates_iff (d : Pod) (onB : Bool) :
    estimates d onB = true ↔ d.val 0x36 0 = 1 ∧ d.mode ≠ .lean ∧ (onB = true → bOff d = false) := by
  cases onB <;> simp [estimates, and_assoc]

theorem execSliceSolve_open {p : Fin 64} {onB : Bool} {x : Solve} {s : State}
    (h : (podAt s p.val).conv.estReady.getD (b2n onB) none = none) : execSliceSolve p onB x s = .next s := by
  simp only [execSliceSolve, h]

theorem execSliceSolve_idle {p : Fin 64} {onB : Bool} {x : Solve} {s : State} (h : estimates (podAt s p.val) onB = false) :
    execSliceSolve p onB x s = .next s := by
  cases ready : (podAt s p.val).conv.estReady.getD (b2n onB) none with
  | none => exact execSliceSolve_open ready
  | some any => simp [execSliceSolve, ready, h]

section
variable {p : Fin 64} {onB : Bool} {x : Solve} {s : State} (runs : runsFrames (podAt s p.val) = true)
  (on : estimates (podAt s p.val) onB = true)
include runs on

theorem execSliceSolve_late {any : Bool × Bool} (ready : (podAt s p.val).conv.estReady.getD (b2n onB) none = some any) (late : x.late = true) :
    execSliceSolve p onB x s = .next (podCount p.val 6 1 (modPod p.val (fun d => { d with conv := { d.conv with
      estReady := putAt d.conv.estReady (b2n onB) none } }) s)) := by
  simp [execSliceSolve, ready, runs, on, late]

theorem execSliceSolve_solved {ao ag : Bool} (ready : (podAt s p.val).conv.estReady.getD (b2n onB) none = some (ao, ag))
    (prompt : x.late = false) :
    execSliceSolve p onB x s = .next (
      if solveClamps ao ag x && !(podAt s p.val).conv.clamped then raisePod p.val 7 0 (modPod p.val (solved onB ao ag x) s)
      else modPod p.val (solved onB ao ag x) s) := by
  simp only [execSliceSolve, ready, runs, on, prompt, Bool.not_true, Bool.or_self, Bool.false_eq_true, if_false]
  rfl

end

/-- Settles O30: what stops a solve, the late one, the entries that wait, the mean, and the limit. -/
theorem slicesAreCorrected : Obligations.SlicesAreCorrected := by
  unfold Obligations.SlicesAreCorrected
  refine ⟨fun p onB x s off => ?_, fun p onB x s opened => execSliceSolve_open opened, fun p x any s runs wide on ready late => ?_,
    fun p onB ao ag x s runs wide on full ready prompt clamped => ?_, fun a b c e => ?_, fun lim xs ys b h c => ?_⟩
  · refine execSliceSolve_idle (Bool.eq_false_iff.2 fun on => ?_)
    exact off ((estimates_iff ..).1 on).1
  · exact execSliceSolve_late runs ((estimates_iff ..).2 ⟨on, wide, nofun⟩) ready late
  · have run := execSliceSolve_solved runs ((estimates_iff ..).2 ⟨on, wide, full⟩) ready prompt
    rw [if_neg (by simp [clamped])] at run
    refine ⟨_, run, ?_⟩
    dsimp only
    rw [podAt_modPod p.isLt]
    refine ⟨_, rfl, getD_putAt_same (by cases onB <;> decide) .., solveEntries_slices .., fun l hx qualified => ?_, fun l hx qualified => ?_,
      fun l hx qualified => ?_, fun e he => ?_⟩
    · exact (solveEntries_given (relativeToMean_map_length ..) ..).1 (corrections_some hx qualified)
    · exact (solveEntries_given (relativeToMean_map_length ..) ..).2.1 (corrections_some hx qualified)
    · exact (solveEntries_given (relativeToMean_map_length ..) ..).2.2 (corrections_some hx qualified)
    · obtain ⟨offset, gain, skew⟩ := solveEntries_kept he
      exact ⟨fun h => offset (corrections_none h), fun h => gain (corrections_none h), fun h => skew (corrections_none h)⟩
  · exact ⟨_, _, _, _, relativeToMean_four a b c e, meanShare_sum a b c e, meanShare_near .., meanShare_near .., meanShare_near ..,
      meanShare_near ..⟩
  · exact ⟨clampSolve_within h c, fun hb => clampSolve_kept (hb ▸ c)⟩

end Sys2Proof.Laws
end

section
/-! Reference injections (R261, R262, R264, R276) and plausibility windows (R255-R258). -/

namespace Sys2Proof.Laws

open Sys2Proof.Machine

/-! ### Injections -/

/-- The slice whose turn the next injection is (R261). -/
def dueSlice (d : Pod) : Nat := if d.conv.refFirst then 0 else (d.conv.refSlice + 1) % 4

/-- A Pod whose injection is made: the ratio on record, and the entry that the injection displaces. -/
def injected (p ratio slice : Nat) (stamp : Tick) (entry : Option Nat) (d : Pod) : Pod :=
  { recordRatio p ratio slice stamp d with conv := { (recordRatio p ratio slice stamp d).conv with displaced := entry } }

@[simp] theorem injected_counters (p ratio slice : Nat) (stamp : Tick) (e : Option Nat) (d : Pod) :
    (injected p ratio slice stamp e d).counters = d.counters := rfl

/-- R264: a ratio within 0.1 % of the factory's ends the slice's run of deviations. -/
theorem injected_close {p ratio slice : Nat} (h : slice < 4)
    (close : 1000 * ((ratio : Int) - Config.factoryRatio p).natAbs ≤ Config.factoryRatio p) (stamp : Tick) (e : Option Nat) (d : Pod) :
    (injected p ratio slice stamp e d).conv.refRuns.getD slice 0 = 0 := by
  show (putAt d.conv.refRuns slice _).getD slice 0 = 0
  rw [getD_putAt_same h, if_neg]
  simpa using close

theorem execReferenceInjection_idle {p : Fin 64} {ratio : Nat} {s : State} (h : (podAt s p.val).conv.refDue = false) :
    execReferenceInjection p ratio s = .next s :=
  congrArg Host.Outcome.next (if_pos (by simp [h]))

section
variable {p : Fin 64} {s : State} (runs : runsFrames (podAt s p.val) = true) (used : bOff (podAt s p.val) = false)
  (due : (podAt s p.val).conv.refDue = true)
include runs used due

/-- R262: before the sixtieth deferral nothing is forced. -/
theorem execReferenceInjection_deferred (ratio : Nat) (full : injectionPlace (podAt s p.val) = none) (few : (podAt s p.val).conv.refDefer < 60) :
    execReferenceInjection p ratio s = .next (modPod p.val (fun d => { d with
      conv := { d.conv with refDue := false, refDefer := min 60 (d.conv.refDefer + 1) } }) s) := by
  simp [execReferenceInjection, runs, used, due, full, Nat.not_le.2 few]

/-- Where a place is free, the injection is made in the frame that gives it to the due slice. -/
theorem execReferenceInjection_placed (ratio : Nat) {g : Nat} {e : Option Nat} (place : injectionPlace (podAt s p.val) = some (g, e)) :
    execReferenceInjection p ratio s = .next (
      if (g + (podAt s p.val).conv.frameB) % 4 ≠ dueSlice (podAt s p.val) then s
      else
        let t := modPod p.val (injected p.val ratio ((g + (podAt s p.val).conv.frameB) % 4) s.time.stamp e) s
        if (podAt t p.val).conv.refRuns.getD ((g + (podAt s p.val).conv.frameB) % 4) 0 = 4 then raisePod p.val 9 0 t else t) := by
  simp only [execReferenceInjection, runs, used, due, place, Bool.not_true, Bool.or_self, Bool.false_eq_true, if_false]
  rfl

theorem execReferenceInjection_waits (ratio : Nat) {g : Nat} {e : Option Nat} (place : injectionPlace (podAt s p.val) = some (g, e))
    (other : (g + (podAt s p.val).conv.frameB) % 4 ≠ dueSlice (podAt s p.val)) : execReferenceInjection p ratio s = .next s := by
  rw [execReferenceInjection_placed runs used due ratio place, if_pos other]

/-- A ratio close to the factory's raises nothing, so that nothing but the Pod changes. -/
theorem execReferenceInjection_close {ratio g : Nat} {e : Option Nat} (place : injectionPlace (podAt s p.val) = some (g, e))
    (turn : (g + (podAt s p.val).conv.frameB) % 4 = dueSlice (podAt s p.val))
    (close : 1000 * ((ratio : Int) - Config.factoryRatio p.val).natAbs ≤ Config.factoryRatio p.val) :
    execReferenceInjection p ratio s =
      .next (modPod p.val (injected p.val ratio ((g + (podAt s p.val).conv.frameB) % 4) s.time.stamp e) s) := by
  rw [execReferenceInjection_placed runs used due ratio place, if_neg (not_not.2 turn)]
  dsimp only
  rw [podAt_modPod p.isLt, injected_close (Nat.mod_lt _ (by decide)) close, if_neg (by decide)]

end

/-! ### Plausibility windows -/

/-- The fine outputs of a plausibility window of the channel k (R255). -/
def plausWindow (d : Pod) (k : Nat) : Nat := 2560 / respFrames (chanResp d k)

/-- The limit of a window of n outputs, by what stood at its start (R256). -/
def plausLimit (d : Pod) (n : Nat) : Nat :=
  d.conv.plausFs * 2 ^ (22 - d.val 0x26 0) * n + d.conv.plausRdg * (plausSums (d.conv.plausPairs.take n)).2

/-- The deviation of the window is over its limit. -/
def plausFails (d : Pod) (n : Nat) : Bool := decide (plausLimit d n < 10000 * (plausSums (d.conv.plausPairs.take n)).1)

/-- The windows in a row that failed, with this one (R257). -/
def plausRun (d : Pod) (n : Nat) : Nat := if plausFails d n then d.conv.plausCount + 1 else 0

/-- A Pod whose window of n outputs of the channel k has been compared. -/
def plausCompared (k n : Nat) (d : Pod) : Pod :=
  { d with
    conv := { d.conv with
      plausPairs := d.conv.plausPairs.drop n, plausFs := d.val 0x27 1, plausRdg := d.val 0x27 2,
      plausD := (roundOpen (plausSums (d.conv.plausPairs.take n)).1 n).toNat, plausL := (roundOpen (plausLimit d n) (10000 * n)).toNat,
      plausStamp := (d.chans.getD k .reset).fine.stamp, plausCount := if plausRun d n = 3 then 0 else plausRun d n,
      plausStatus := if !plausFails d n then 3 else if plausRun d n = 3 then 5 else 4 }
    counters := if plausFails d n then bump d.counters 4 else d.counters }

/-- R258: a whole window without a saturated pair is compared, and the third failure in a row is raised. -/
theorem execPlausibilityWindowEnd_compared {p : Fin 64} {k : Nat} {s : State} (used : bOff (podAt s p.val) = false)
    (shared : (podAt s p.val).shared = some k) (runs : runsFrames (podAt s p.val) = true)
    (whole : plausWindow (podAt s p.val) k ≤ (podAt s p.val).conv.plausPairs.length)
    (clean : ((podAt s p.val).conv.plausPairs.take (plausWindow (podAt s p.val) k)).all (fun x => x.2.2) = true) :
    execPlausibilityWindowEnd p s = .next (
      let t := modPod p.val (plausCompared k (plausWindow (podAt s p.val) k)) s
      if plausRun (podAt s p.val) (plausWindow (podAt s p.val) k) = 3 then raisePod p.val 8 3 t else t) := by
  have fit : decide ((podAt s p.val).conv.plausPairs.length < plausWindow (podAt s p.val) k) = false := decide_eq_false (Nat.not_lt.2 whole)
  have unspoilt : ((podAt s p.val).conv.plausPairs.take (plausWindow (podAt s p.val) k)).any (fun x => !x.2.2) = false := by
    rw [List.any_eq_not_all_not]
    simpa using clean
  unfold plausWindow at fit unspoilt
  simp only [execPlausibilityWindowEnd, used, shared, runs, fit, unspoilt, Bool.not_true, Bool.or_self, Bool.false_eq_true, if_false]
  rfl

theorem plausRun_lt {d : Pod} {n : Nat} (h : d.conv.plausCount < 2) : plausRun d n < 3 := by
  unfold plausRun
  split <;> omega

theorem plausCompared_passes {d : Pod} {n : Nat} (k : Nat) (h : plausFails d n = false) :
    (plausCompared k n d).conv.plausStatus = 3 ∧ (plausCompared k n d).conv.plausCount = 0 := by
  simp [plausCompared, plausRun, h]

theorem plausCompared_fails {d : Pod} {n : Nat} (k : Nat) (h : plausFails d n = true) (few : d.conv.plausCount < 2) :
    (plausCompared k n d).conv.plausStatus = 4 ∧ (plausCompared k n d).conv.plausCount = d.conv.plausCount + 1 := by
  simp [plausCompared, plausRun, h, Nat.ne_of_lt few]

/-- Settles O31: the injection that is not due, has no place, waits or is made; then the window. -/
theorem referencesAreChecked : Obligations.ReferencesAreChecked := by
  unfold Obligations.ReferencesAreChecked
  refine ⟨fun p ratio s idle => execReferenceInjection_idle idle,
    fun p ratio s runs used due full few => execReferenceInjection_deferred runs used due ratio full few,
    fun p ratio g e s runs used due place => ⟨fun other => execReferenceInjection_waits runs used due ratio place other,
      fun turn close => ⟨_, execReferenceInjection_close runs used due place turn close, ?_⟩⟩,
    fun p k s used shared runs whole clean few => ⟨_, execPlausibilityWindowEnd_compared used shared runs whole clean, ?_⟩, fun p s alone => ?_⟩
  · dsimp only
    rw [podAt_modPod p.isLt]
    exact ⟨rfl, rfl, rfl, rfl, rfl, rfl, rfl, injected_counters .., modPod_guard ..⟩
  · rw [if_neg (Nat.ne_of_lt (plausRun_lt few))]
    dsimp only
    rw [podAt_modPod p.isLt]
    refine ⟨rfl, fun fails => ?_, fun passes => ?_⟩
    · have exceeded : plausFails (podAt s p.val) (plausWindow (podAt s p.val) k) = true := decide_eq_true fails
      exact plausCompared_fails k exceeded few
    · exact plausCompared_passes k (decide_eq_false passes)
  · show execPlausibilityWindowEnd p s = _
    simp only [execPlausibilityWindowEnd, alone]
    cases bOff (podAt s p.val) <;> rfl

end Sys2Proof.Laws
end

section
/-! Bookings of half-cycles into the energy registers (R354-R363, R488). -/

namespace Sys2Proof.Laws

open Sys2Proof.Machine

/-! ### Additions to the registers -/

/-- An addition at one place lowers no place. -/
theorem getD_le_putAt_add {n : Nat} (v : Vector Nat n) (j x k : Nat) : v.getD k 0 ≤ (putAt v j (v.getD j 0 + x)).getD k 0 := by
  by_cases same : k = j
  · subst same
    by_cases inside : k < n
    · rw [getD_putAt_same inside]
      exact Nat.le_add_right ..
    · simp [Vector.getD, inside]
  · rw [getD_putAt_ne same]

/-- Energy is added to a meter: no register falls, and neither the half-cycles that wait nor the reference change. -/
structure Adds (m m' : Meter) : Prop where
  grows : ∀ k, m.regs.getD k 0 ≤ m'.regs.getD k 0
  halfQueue : m'.halfQueue = m.halfQueue
  source : m'.source = m.source

theorem Adds.refl (m : Meter) : Adds m m := ⟨fun _ => Nat.le_refl _, rfl, rfl⟩

theorem Adds.trans {m m' m'' : Meter} (a : Adds m m') (b : Adds m' m'') : Adds m m'' :=
  ⟨fun k => Nat.le_trans (a.grows k) (b.grows k), b.halfQueue.trans a.halfQueue, b.source.trans a.source⟩

theorem Adds.foldl {α : Type} {f : Meter → α → Meter} (step : ∀ m a, Adds m (f m a)) (l : List α) (m : Meter) :
    Adds m (l.foldl f m) :=
  List.foldlRecOn (motive := Adds m) l f (.refl m) fun m' adds a _ => adds.trans (step m' a)

theorem addReg_adds (k : Nat) (num : Int) (m : Meter) : Adds m (addReg m k num) := ⟨fun _ => getD_le_putAt_add .., rfl, rfl⟩

theorem addEnergies_adds (m : Meter) (es : List (Nat × Energy)) : Adds m (addEnergies m es) := by
  unfold addEnergies
  extract_lets sum p p1 q s m1 m2 m3 m4 m5
  have active : Adds m m1 := (addReg_adds ..).trans (addReg_adds ..)
  have fundamental : Adds m1 m2 := (addReg_adds ..).trans (addReg_adds ..)
  have imported : Adds m2 m3 := (addReg_adds ..).trans (addReg_adds ..)
  have exported : Adds m3 m4 := (addReg_adds ..).trans (addReg_adds ..)
  have phases : Adds m4 m5 := (addReg_adds ..).trans (.foldl (fun _ _ => addReg_adds ..) ..)
  have all : Adds m m5 := active.trans (fundamental.trans (imported.trans (exported.trans phases)))
  exact ⟨all.grows, all.halfQueue, all.source⟩

/-! ### One half-cycle -/

/-- The meter m' is m after the half-cycle iv has been booked whole. -/
structure HalfBooked (iv : Interval) (m m' : Meter) : Prop where
  grows : ∀ k, m.regs.getD k 0 ≤ m'.regs.getD k 0
  boundary : m'.boundary = iv.stop
  lastBooking : m'.lastBooking = iv.stop
  halves : m'.halves = m.halves + 1
  halfQueue : m'.halfQueue = m.halfQueue
  source : m'.source = m.source

/-- R354, R357, R488: the energies of the phases, and the bound of what they miss, are added. -/
theorem bookHalf_booked (d : Pod) (iv : Interval) : HalfBooked iv d.meter (bookHalf d iv true).1.meter := by
  unfold bookHalf
  extract_lets a b m from_ parts es marks ct ended miss rms volts amps excess allMarks m0 bound m1 m2
  have adds : Adds m m0 := addEnergies_adds m es
  -- What the energies are does not matter from here on.
  clear_value m0
  have halfQueue : m2.halfQueue = m0.halfQueue := (apply_ite Meter.halfQueue ..).trans (ite_self _)
  have source : m2.source = m0.source := (apply_ite Meter.source ..).trans (ite_self _)
  exact ⟨fun k => (adds.grows k).trans (getD_le_putAt_add ..), rfl, rfl, rfl, halfQueue.trans adds.halfQueue, source.trans adds.source⟩

theorem bookNext_idle {d : Pod} (idle : d.meter.halfQueue = []) : bookNext d = (d, []) := by
  simp only [bookNext, idle]

theorem bookNext_waiting {d : Pod} {iv : Interval} {rest : List Interval} (waits : d.meter.halfQueue = iv :: rest) :
    bookNext d = (pruneLogs (bookHalf { d with meter := { d.meter with halfQueue := rest } } iv true).1,
      (bookHalf { d with meter := { d.meter with halfQueue := rest } } iv true).2) := by
  simp only [bookNext, waits]

/-- What leaves the logs is no part of a booking. -/
theorem HalfBooked.pruned {iv : Interval} {m : Meter} {d : Pod} (booked : HalfBooked iv m d.meter) :
    HalfBooked iv m (pruneLogs d).meter :=
  ⟨booked.grows, booked.boundary, booked.lastBooking, booked.halves, booked.halfQueue, booked.source⟩

/-- R354: the oldest half-cycle leaves the queue and is booked. -/
theorem bookNext_booked {d : Pod} {iv : Interval} {rest : List Interval} (waits : d.meter.halfQueue = iv :: rest) :
    HalfBooked iv { d.meter with halfQueue := rest } (bookNext d).1.meter := by
  rw [bookNext_waiting waits]
  exact (bookHalf_booked { d with meter := { d.meter with halfQueue := rest } } iv).pruned

/-- Settles O33: with a half-cycle that waits, by what its booking does; without one, nothing is booked. -/
theorem registersNeverFall : Obligations.RegistersNeverFall := by
  unfold Obligations.RegistersNeverFall
  refine ⟨fun d k => ?_, fun d idle => bookNext_idle idle, fun d iv rest waits => ?_⟩
  · cases waiting : d.meter.halfQueue with
    | nil => rw [bookNext_idle waiting]
    | cons iv rest => exact (bookNext_booked waiting).grows k
  · obtain ⟨_, boundary, lastBooking, halves, halfQueue, _⟩ := bookNext_booked waits
    exact ⟨halfQueue, boundary, lastBooking, halves⟩

end Sys2Proof.Laws
end

section
/-! The meters of a Pod act on their events (R340, R347, R354, R375, R388-R392, R396, R402, R413, R635). -/

namespace Sys2Proof.Laws

open Sys2Proof.Machine

/-- A change of a Pod is what it makes of that Pod. -/
theorem modPod_congr {p : Nat} {f g : Pod → Pod} {s : State} (same : f (podAt s p) = g (podAt s p)) : modPod p f s = modPod p g s := by
  unfold modPod
  rw [same]

/-- A change that gives the Pod back as it was is no change. -/
theorem modPod_fixed {p : Nat} {f : Pod → Pod} {s : State} (fixed : f (podAt s p) = podAt s p) : modPod p f s = s := by
  have same : putAt s.pods p (podAt s p) = s.pods := by
    ext i hi
    by_cases at_ : p = i
    · simp [putAt, podAt, Vector.getD, at_, hi]
    · simp [putAt, at_]
  unfold modPod
  rw [fixed, same]

/-! ### Supply events change the event record and the counters -/

/-- Nothing of the Pod but its event record and its counters differs. -/
def EventStep (d e : Pod) : Prop := ∃ v n, e = { d with events := v, counters := n }

theorem EventStep.refl (d : Pod) : EventStep d d := ⟨_, _, rfl⟩

theorem EventStep.trans {d e f : Pod} (a : EventStep d e) (b : EventStep e f) : EventStep d f := by
  obtain ⟨_, _, rfl⟩ := a
  obtain ⟨_, _, rfl⟩ := b
  exact ⟨_, _, rfl⟩

theorem EventStep.ite {c : Prop} [Decidable c] {d e f : Pod} (a : EventStep d e) (b : EventStep d f) :
    EventStep d (if c then e else f) := by
  split <;> assumption

theorem EventStep.foldl {α : Type} {f : Pod → α → Pod} (step : ∀ d a, EventStep d (f d a)) (l : List α) (d : Pod) :
    EventStep d (l.foldl f d) :=
  List.foldlRecOn (motive := EventStep d) l f (.refl d) fun e kept a _ => kept.trans (step e a)

theorem EventStep.meter {d e : Pod} (h : EventStep d e) : e.meter = d.meter := by obtain ⟨_, _, rfl⟩ := h; rfl

theorem EventStep.harm {d e : Pod} (h : EventStep d e) : e.harm = d.harm := by obtain ⟨_, _, rfl⟩ := h; rfl

theorem EventStep.doze {d e : Pod} (h : EventStep d e) : e.doze = d.doze := by obtain ⟨_, _, rfl⟩ := h; rfl

theorem EventStep.mode {d e : Pod} (h : EventStep d e) : e.mode = d.mode := by obtain ⟨_, _, rfl⟩ := h; rfl

theorem queueRecord_step (t : Tick) (kind edge input : Nat) (forced : Bool) (value : Int) (aux : Nat) (d : Pod) :
    EventStep d (queueRecord t kind edge input forced value aux d) := by
  unfold queueRecord
  extract_lets e flags r d1
  have counted : EventStep d d1 := .ite (.refl d) ⟨_, _, rfl⟩
  exact counted.trans (.ite ⟨_, _, rfl⟩ ⟨_, _, rfl⟩)

theorem clearEvent_step (t : Tick) (a : ActiveEvent) (shown : Nat) (forced : Bool) (d : Pod) :
    EventStep d (clearEvent t a shown forced d) :=
  EventStep.trans ⟨_, _, rfl⟩ (queueRecord_step ..)

theorem levelStep_step (t : Tick) (kind key shown : Nat) (enabled onset clear : Bool) (value extreme : Int) (d : Pod) :
    EventStep d (levelStep t kind key shown enabled onset clear value extreme d) := by
  unfold levelStep
  cases activeEvent d kind key with
  | some a => exact .ite (clearEvent_step ..) (.ite (clearEvent_step ..) ⟨_, _, rfl⟩)
  | none => exact .ite (EventStep.trans ⟨_, _, rfl⟩ (queueRecord_step ..)) (.refl d)

theorem pointEvent_step (t : Tick) (kind input : Nat) (value : Int) (aux : Nat) (until_ : Tick) (d : Pod) :
    EventStep d (pointEvent t kind input value aux until_ d) :=
  EventStep.trans ⟨_, _, rfl⟩ (queueRecord_step ..)

theorem clearDisabled_step (x : Tick) (kinds : List Nat) (key shown : Nat) (d : Pod) : EventStep d (clearDisabled x kinds key shown d) := by
  refine .foldl (fun d k => ?_) kinds d
  cases activeEvent d k key with
  | some a => exact .ite (clearEvent_step ..) (.refl d)
  | none => exact .refl d

theorem voltageStep_step (x : Tick) (i : Nat) (q : Nat × Nat) (d : Pod) : EventStep d (voltageStep x i q d) :=
  (levelStep_step ..).trans ((levelStep_step ..).trans (levelStep_step ..))

theorem currentStep_step (x : Tick) (i : Nat) (q old : Nat × Nat) (d : Pod) : EventStep d (currentStep x i q old d) := by
  unfold currentStep
  extract_lets c r keep d1 rest drop rise until_ d2 d3
  have high : EventStep d d1 := levelStep_step ..
  have dropped : EventStep d1 d2 := .ite (pointEvent_step ..) (.refl d1)
  have risen : EventStep d2 d3 := .ite (pointEvent_step ..) (.refl d2)
  exact high.trans (dropped.trans (risen.trans (.ite (.refl d3) (levelStep_step ..))))

theorem inputStep_step (x : Tick) (d : Pod) (i : Nat) : EventStep d (inputStep x d i) := by
  unfold inputStep
  extract_lets q hist v d1
  have refreshed : EventStep d d1 := ⟨_, _, rfl⟩
  exact .ite (.refl d) (refreshed.trans (.ite (clearDisabled_step ..) (.ite (voltageStep_step ..) (currentStep_step ..))))

theorem deviationStep_step (t : Tick) (d : Pod) : EventStep d (deviationStep t d) := by
  unfold deviationStep
  cases lastDeviation d with
  | some x => exact levelStep_step ..
  | none => exact .refl d

theorem thdInput_step (t : Tick) (d : Pod) (i : Nat) : EventStep d (thdInput t d i) := .ite (.refl d) (levelStep_step ..)

theorem thdStep_step (d : Pod) : EventStep d (thdStep d) := .foldl (fun _ _ => thdInput_step ..) _ d

theorem slowKinds_step (x : Tick) (i : Nat) (d : Pod) : EventStep d (slowKinds x i d) := by
  unfold slowKinds
  extract_lets ref d0 d1 d2
  have cleared : EventStep d d0 := clearDisabled_step ..
  have referenced : EventStep d d1 := .ite (cleared.trans (.ite (deviationStep_step ..) (.refl d0))) (.refl d)
  have harmonic : EventStep d1 d2 := clearDisabled_step ..
  exact referenced.trans (harmonic.trans (.ite (thdInput_step ..) (.refl d2)))

/-- FREQ-DEV and FREQ-LOSS (R403). -/
theorem freqStep_step (before d : Pod) : EventStep d (freqStep before d) := by
  unfold freqStep
  extract_lets ref rise d1 t
  have deviated : EventStep d d1 := .ite (.refl d) (deviationStep_step ..)
  exact deviated.trans (.ite (levelStep_step ..) (.ite (levelStep_step ..) (.refl d1)))

/-! ### The refresh of the event RMS (R396, R412, R413) -/

theorem refreshRun_step (d : Pod) : EventStep d (refreshRun d) := by
  unfold refreshRun
  extract_lets x taken v d0 d1
  have inputs : EventStep d0 d1 := .foldl (fun d i => (inputStep_step x d i).trans (slowKinds_step x i _)) _ d0
  have anchored (e : Pod) : EventStep e (idleStep x (anchorGrid x e)) := ⟨_, _, rfl⟩
  exact EventStep.trans ⟨_, _, rfl⟩ (inputs.trans ((slowKinds_step x 15 d1).trans (anchored _)))

/-- The refresh instant is the one that came due. -/
theorem refreshRun_refreshAt (d : Pod) : (refreshRun d).events.refreshAt = nextRefresh d := rfl

theorem le_roundOpen (n : Int) (d : Nat) : n / d ≤ roundOpen n d := by
  unfold roundOpen
  split_ifs <;> omega

/-- Half of n ticks, rounded either way, lies at most half a tick below. -/
theorem le_two_mul_half (n : Nat) : n ≤ 2 * (roundOpen n 2).toNat + 1 := by
  have below := le_roundOpen n 2
  omega

/-- The place of the grid two half cycles after the one that precedes an instant lies at it or later. -/
theorem le_gridPlace (first anchor : Nat) {cycle : Nat} (wide : 2 ≤ cycle) :
    first ≤ anchor + (roundOpen ((2 * (first - anchor) / max 1 cycle + 2) * cycle : Nat) 2).toNat := by
  rw [max_eq_right (by omega : 1 ≤ cycle)]
  have next : 2 * (first - anchor) < cycle * (2 * (first - anchor) / cycle + 1) := Nat.lt_mul_div_succ _ (by omega)
  have place := le_two_mul_half ((2 * (first - anchor) / cycle + 2) * cycle)
  generalize 2 * (first - anchor) / cycle = k at next place ⊢
  have two : (k + 2) * cycle = cycle * (k + 1) + cycle := by ring
  omega

/-- A quarter, rounded up, is a quarter at least. -/
theorem four_mul_quarter (a c : Nat) : 4 * a + c ≤ 4 * (a + (c + 3) / 4) := by omega

/-- R396: a quarter of an event cycle at least passes between two refreshes. -/
theorem nextRefresh_quarter {d : Pod} (wide : 2 ≤ d.events.gridCycle) :
    4 * d.events.refreshAt + d.events.gridCycle ≤ 4 * nextRefresh d := by
  refine (four_mul_quarter ..).trans (Nat.mul_le_mul_left 4 ?_)
  have last := le_gridPlace (d.events.refreshAt + (d.events.gridCycle + 3) / 4) d.events.gridAnchor wide
  unfold nextRefresh
  extract_lets e at_ first k
  split_ifs
  · assumption
  · assumption
  · exact last

/-! ### A change of the reference (R340, R342, R345) -/

/-- What has been booked is as it was. -/
structure BooksKept (m m' : Meter) : Prop where
  regs : m'.regs = m.regs
  boundary : m'.boundary = m.boundary
  lastBooking : m'.lastBooking = m.lastBooking
  halves : m'.halves = m.halves

theorem BooksKept.refl (m : Meter) : BooksKept m m := ⟨rfl, rfl, rfl, rfl⟩

theorem BooksKept.trans {m m' m'' : Meter} (a : BooksKept m m') (b : BooksKept m' m'') : BooksKept m m'' :=
  ⟨b.regs.trans a.regs, b.boundary.trans a.boundary, b.lastBooking.trans a.lastBooking, b.halves.trans a.halves⟩

theorem endHalf_books (m : Meter) (t : Tick) (kind : Nat) (cycleFrom : Tick) : BooksKept m (endHalf m t kind cycleFrom) := by
  unfold endHalf
  split_ifs
  · exact .refl m
  · exact ⟨rfl, rfl, rfl, rfl⟩

theorem endHalf_formed (m : Meter) (t : Tick) (kind : Nat) (cycleFrom : Tick) :
    (endHalf m t kind cycleFrom).formed = max m.formed t := by
  unfold endHalf
  split_ifs with early
  · exact (max_eq_left early).symm
  · exact (max_eq_right (Nat.le_of_not_le early)).symm

theorem loseSource_books (d : Pod) (m : Meter) (t : Tick) : BooksKept m (loseSource d m t) := by
  obtain ⟨regs, boundary, lastBooking, halves⟩ := endHalf_books m t 3 (t - timedTicks (nominalAt d t) 2)
  constructor <;> dsimp only [loseSource, changeSource, endWindow] <;> assumption

theorem loseSource_source (d : Pod) (m : Meter) (t : Tick) : (loseSource d m t).source = 0 := rfl

theorem loseSource_formed (d : Pod) (m : Meter) (t : Tick) : (loseSource d m t).formed = max m.formed t := by
  dsimp only [loseSource, changeSource, endWindow]
  exact endHalf_formed ..

theorem rewindTo_books (m : Meter) (t : Tick) : BooksKept m (rewindTo m t) := by
  unfold rewindTo
  extract_lets m1
  split <;> exact ⟨rfl, rfl, rfl, rfl⟩

theorem dropLow_books (d : Pod) : BooksKept d.meter (dropLow d).meter := by
  unfold dropLow
  extract_lets m
  split_ifs
  · exact .refl m
  · exact (rewindTo_books ..).trans (loseSource_books ..)

theorem dropLow_untimed {d : Pod} (untimed : d.meter.source = 0) : dropLow d = d := if_pos (Or.inl untimed)

theorem referenceLost_same {before d : Pod} (same : d.meter.source = before.meter.source) : referenceLost before d = d := if_pos same

theorem referenceLost_meter (before d : Pod) : (referenceLost before d).meter = d.meter := by
  unfold referenceLost
  split_ifs
  · rfl
  · exact (freqStep_step before d).meter

/-- R377: with the reference the harmonic window in progress goes. -/
theorem referenceLost_harm {before d : Pod} (other : d.meter.source ≠ before.meter.source) :
    (referenceLost before d).harm.start = d.meter.formed := by
  unfold referenceLost
  rw [if_neg other]
  exact congrArg Meter.formed (freqStep_step before d).meter

theorem lowReference_books (d : Pod) : BooksKept d.meter (lowReference d).meter := by
  unfold lowReference
  rw [referenceLost_meter]
  exact dropLow_books d

theorem lowReference_untimed {d : Pod} (untimed : d.meter.source = 0) : lowReference d = d := by
  unfold lowReference
  rw [dropLow_untimed untimed, referenceLost_same rfl]

section
variable {d : Pod} {c : Crossing} (timed : d.meter.source ≠ 0)
  (last : (d.meter.crossings.getD (d.meter.source - 1) []).head? = some c)
include timed last

/-- R340: the reference is dropped 1/42 s after its last crossing, once no other can come before. -/
theorem dropReference_of_last : dropReference d = if 65536000 ≤ 42 * (stampBehind d 34588 - c.stamp)
    then { d with meter := loseSource d d.meter (c.stamp + 1560381) } else d := by
  obtain ⟨rest, crossings⟩ : ∃ rest, d.meter.crossings.getD (d.meter.source - 1) [] = c :: rest := by
    simpa [List.head?_eq_some_iff] using last
  unfold dropReference
  extract_lets m latest
  have head : latest = c.stamp := by simp only [latest, m, crossings, List.map_cons, List.headD_cons]
  rw [if_neg timed, head]

theorem dropReference_early (early : 42 * (stampBehind d 34588 - c.stamp) < 65536000) : dropReference d = d := by
  rw [dropReference_of_last timed last, if_neg (Nat.not_le.2 early)]

theorem dropReference_late (late : 65536000 ≤ 42 * (stampBehind d 34588 - c.stamp)) :
    dropReference d = { d with meter := loseSource d d.meter (c.stamp + 1560381) } := by
  rw [dropReference_of_last timed last, if_pos late]

end

theorem dropReference_untimed {d : Pod} (untimed : d.meter.source = 0) : dropReference d = d := if_pos untimed

/-! ### A booking and what follows it (R354, R440, R488) -/

theorem pulseTicks_meter (d : Pod) (n : Nat) (stamp : Tick) : (pulseTicks d n stamp).meter = d.meter := by
  unfold pulseTicks
  split_ifs <;> rfl

/-- The loop of the emitter changes the emitter alone. -/
theorem pulseUpTo_meter (now stamp : Tick) (runs : Bool) (d : Pod) : (pulseUpTo now stamp runs d).meter = d.meter := by
  unfold pulseUpTo
  split
  · exact pulseTicks_meter ..
  · rfl

theorem pulseBooking_meter (before d : Pod) (length : Tick) : (pulseBooking before d length).meter = d.meter := by
  unfold pulseBooking pulseFeed
  extract_lets k e
  split_ifs <;> rfl

/-- The bounds of a missing phase were added at its bookings: its gap changes no Pod when it closes. -/
theorem podAt_closePhaseGaps (p : Nat) (gs : List PhaseGap) (s : State) (r : Nat) : podAt (closePhaseGaps p gs s) r = podAt s r :=
  List.foldlRecOn (motive := fun t => podAt t r = podAt s r) gs _ rfl fun _ kept _ _ => (podAt_logAdd ..).trans kept

theorem withBooking_other {p r : Nat} (other : r ≠ p) (f : Pod → Pod × List PhaseGap) (s : State) :
    podAt (withBooking p f s) r = podAt s r :=
  (podAt_closePhaseGaps ..).trans ((podAt_modPod_ne other ..).trans (podAt_modPod_ne other ..))

theorem withBooking_meter {p : Nat} (hp : p < 64) (f : Pod → Pod × List PhaseGap) (s : State) :
    ∃ d, d.meter = (podAt s p).meter ∧ (podAt (withBooking p f s) p).meter = (f d).1.meter := by
  refine ⟨podAt (syncPulse p s) p, ?_, ?_⟩
  · unfold syncPulse
    rw [podAt_modPod hp, pulseUpTo_meter]
  · unfold withBooking
    extract_lets s1 d r fed
    rw [podAt_closePhaseGaps, podAt_modPod hp]
    exact pulseBooking_meter ..

theorem withBooking_booked {p : Nat} (hp : p < 64) {s : State} {iv : Interval} {rest : List Interval}
    (waits : (podAt s p).meter.halfQueue = iv :: rest) :
    HalfBooked iv { (podAt s p).meter with halfQueue := rest } (podAt (withBooking p bookNext s) p).meter := by
  obtain ⟨d, same, booked⟩ := withBooking_meter hp bookNext s
  rw [booked, ← same]
  exact bookNext_booked (same ▸ waits)

theorem halfDue_waiting {d : Pod} {iv : Interval} {rest : List Interval} (waits : d.meter.halfQueue = iv :: rest) :
    halfDue d = reached d iv.stop := by
  simp only [halfDue, waits]

theorem execHalfCycleBooking_idle {p : Fin 64} {s : State} (idle : halfDue (podAt s p.val) = false) :
    execHalfCycleBooking p s = .next s :=
  congrArg Host.Outcome.next (if_neg (by simp [idle]))

theorem execHalfCycleBooking_due {p : Fin 64} {s : State} (runs : runsFrames (podAt s p.val) = true)
    (due : halfDue (podAt s p.val) = true) :
    execHalfCycleBooking p s = .next (modPod p.val lowReference (withBooking p.val bookNext s)) :=
  congrArg Host.Outcome.next (if_pos (by simp [runs, due]))

/-! ### Windows (R347, R635) -/

theorem windowDue_waiting {d : Pod} {iv : Interval} {rest : List Interval} (waits : d.meter.winQueue = iv :: rest)
    (values : reached d iv.stop = true) (booked : iv.stop ≤ d.meter.boundary) : windowDue d = true := by
  simp [windowDue, waits, values, booked]

theorem windowNext_waiting {d : Pod} {iv : Interval} {rest : List Interval} (waits : d.meter.winQueue = iv :: rest) :
    windowNext d = windowValues { d with meter := { d.meter with winQueue := rest } } iv := by
  simp only [windowNext, waits]

/-- R347, R635: the window is formed, and then its streams fall due. -/
theorem execWindowEnd_due {p : Fin 64} {s : State} (runs : runsFrames (podAt s p.val) = true)
    (due : windowDue (podAt s p.val) = true) : execWindowEnd p s = .next (windowStreams p.val (modPod p.val windowNext s)) :=
  congrArg Host.Outcome.next (if_pos (by simp [runs, due]))

theorem execWindowEnd_idle {p : Fin 64} {s : State} (idle : windowDue (podAt s p.val) = false) : execWindowEnd p s = .next s :=
  congrArg Host.Outcome.next (if_neg (by simp [idle]))

theorem windowStreams_silent {p : Nat} {s : State} (silent : streamsRun s = false) : windowStreams p s = s := if_neg (by simp [silent])

/-! ### Harmonic windows and phasors (R375, R388-R392) -/

/-- The last element of a list that is not empty does not depend on the default. -/
theorem getLastD_of_ne_nil {l : List Nat} (notEmpty : l ≠ []) (a b : Nat) : l.getLastD a = l.getLastD b := by
  cases l with
  | nil => exact absurd rfl notEmpty
  | cons x xs => rfl

theorem harmWindowEnd_open {d : Pod} (unknown : harmEnd d = none) : harmWindowEnd d = d := by
  simp only [harmWindowEnd, unknown]

/-- R375, R389: the unit takes the window that ends, and the next one starts at its end. -/
theorem harmWindowEnd_taken {d : Pod} {rises : List Tick} (ends : harmEnd d = some rises) (free : d.harm.due = none) :
    harmWindowEnd d = { d with harm := { harmStart d (rises.getLastD d.harm.start) with
      due := some ⟨d.harm.start, rises.getLastD d.harm.start, rises.length - 1, rises, d.meter.source == 0, d.harm.enabled,
        d.harm.grouping⟩ } } := by
  simp only [harmWindowEnd, ends, free]

/-- R389: while one waits for its publication, the window that ends is discarded and counted. -/
theorem harmWindowEnd_discarded {d : Pod} {rises : List Tick} {w : HarmDue} (ends : harmEnd d = some rises) (waits : d.harm.due = some w) :
    harmWindowEnd d = { d with
      harm := { harmStart d (rises.getLastD d.harm.start) with skipped := true }, counters := bump d.counters 9 } := by
  simp only [harmWindowEnd, ends, waits]

/-- R388: what the unit publishes names the window that was due. -/
structure HarmPublished (w : HarmDue) (h h' : Harm) : Prop where
  due : h'.due = none
  skipped : h'.skipped = false
  seq : h'.seq = wrap32 (h.seq + 1)
  infoSeq : h'.info.seq = wrap32 (h.seq + 1)
  start : h'.info.start = w.start
  stop : h'.info.stop = w.stop
  cycles : h'.info.cycles = w.cycles

theorem harmPublish_due {d : Pod} {w : HarmDue} (due : d.harm.due = some w) (now : Tick) :
    HarmPublished w d.harm (harmPublish d now).harm := by
  unfold harmPublish
  rw [due]
  exact ⟨rfl, rfl, rfl, rfl, rfl, rfl, rfl⟩

theorem phasorPublish_absent {d : Pod} {t : Tick} (absent : ∀ x ∈ d.harm.phasorDue, x.1 ≠ t) : phasorPublish d t = d := by
  have missing : d.harm.phasorDue.find? (fun x => x.1 == t) = none := by
    simpa [List.find?_eq_none] using absent
  simp only [phasorPublish, missing]

/-- R390-R392: the phasors of an instant carry it and its quality, and what was due up to it falls away. -/
structure PhasorsPublished (t : Tick) (quality : Nat) (d e : Pod) : Prop where
  instant : e.harm.phasorT = t
  quality : e.harm.phasorQuality = quality
  freq : e.harm.phasorFreq = d.meter.freq
  due : e.harm.phasorDue = d.harm.phasorDue.filter (fun x => decide (t < x.1))
  meter : e.meter = d.meter

theorem phasorPublish_due {d : Pod} {t : Tick} {quality : Nat}
    (due : d.harm.phasorDue.find? (fun x => x.1 == t) = some (t, quality)) (delivered : t ≤ stampBehind d 34588) :
    PhasorsPublished t quality d (phasorPublish d t) := by
  unfold phasorPublish
  rw [due]
  dsimp only
  rw [if_neg (Nat.not_lt.2 delivered)]
  exact ⟨rfl, rfl, rfl, rfl, rfl⟩

/-! ### The commands of a Pod that runs frames -/

/-- The refresh of a Pod: the detectors run, and the idle decision, if it falls, arms the sentinel (R396, R412, R413). -/
def refreshed (d : Pod) : Pod :=
  if idleDecision (refreshRun d).events.refreshAt (refreshRun d) then
    { refreshRun d with doze := { (refreshRun d).doze with sentinel := .arming, idleEntry := true, restart := false } }
  else refreshRun d

/-- Where the idle decision does not fall, no doze record changes. -/
theorem refreshed_busy {d : Pod} (busy : idleDecision (nextRefresh d) (refreshRun d) = false) : refreshed d = refreshRun d :=
  if_neg (by rw [refreshRun_refreshAt, busy]; decide)

theorem refreshed_idle {d : Pod} (idle : idleDecision (nextRefresh d) (refreshRun d) = true) :
    refreshed d = { refreshRun d with doze := { d.doze with sentinel := .arming, idleEntry := true, restart := false } } := by
  unfold refreshed
  rw [refreshRun_refreshAt, if_pos idle, (refreshRun_step d).doze]

theorem refreshed_kept (d : Pod) :
    (refreshed d).events.refreshAt = nextRefresh d ∧ (refreshed d).meter = d.meter ∧ (refreshed d).mode = d.mode := by
  have instant := refreshRun_refreshAt d
  have step := refreshRun_step d
  unfold refreshed
  generalize refreshRun d = e at instant step ⊢
  split <;> exact ⟨instant, step.meter, step.mode⟩

section
variable {p : Fin 64} {s : State} (runs : runsFrames (podAt s p.val) = true)
include runs

theorem execHarmonicWindowEnd_runs : execHarmonicWindowEnd p s = .next (modPod p.val harmWindowEnd s) :=
  congrArg Host.Outcome.next (if_pos runs)

theorem execPhasorPublication_runs (instant : Tick) :
    execPhasorPublication p instant s = .next (modPod p.val (fun d => phasorPublish d instant) s) :=
  congrArg Host.Outcome.next (if_pos runs)

theorem execReferenceLoss_runs :
    execReferenceLoss p s = .next (modPod p.val (fun d => referenceLost d (dropReference d)) s) :=
  congrArg Host.Outcome.next (if_pos runs)

theorem execHarmonicPublication_due {w : HarmDue} (due : (podAt s p.val).harm.due = some w) :
    execHarmonicPublication p w.stop s = .next (modPod p.val (fun d => thdStep (harmPublish d s.time.stamp)) s) :=
  congrArg Host.Outcome.next (if_pos (by simp [runs, due]))

theorem execEventRmsRefresh_due (due : refreshDue (podAt s p.val) = true) :
    execEventRmsRefresh p s = .next (modPod p.val refreshed s) :=
  congrArg Host.Outcome.next ((if_pos (by simp [runs, due])).trans (modPod_congr rfl))

/-- A reference that is not dropped stays, with all else. -/
theorem execReferenceLoss_stays (stays : dropReference (podAt s p.val) = podAt s p.val) : execReferenceLoss p s = .next s := by
  rw [execReferenceLoss_runs runs, modPod_fixed]
  rw [stays, referenceLost_same rfl]

end

theorem execHarmonicPublication_other {p : Fin 64} {s : State} {stop : Tick}
    (other : ∀ w, (podAt s p.val).harm.due = some w → w.stop ≠ stop) : execHarmonicPublication p stop s = .next s := by
  have absent : (podAt s p.val).harm.due.any (fun w => w.stop == stop) = false := by
    cases due : (podAt s p.val).harm.due with
    | none => rfl
    | some w => simpa using other w due
  exact congrArg Host.Outcome.next (if_neg (by simp [absent]))

theorem execEventRmsRefresh_idle {p : Fin 64} {s : State} (idle : refreshDue (podAt s p.val) = false) :
    execEventRmsRefresh p s = .next s :=
  congrArg Host.Outcome.next (if_neg (by simp [idle]))

/-- A Pod that runs no frames measures nothing. -/
theorem meters_idle {p : Fin 64} {s : State} (idle : runsFrames (podAt s p.val) = false) (t : Tick) :
    exec (.halfCycleBooking p) s = .next s ∧ exec (.windowEnd p) s = .next s ∧ exec (.eventRmsRefresh p) s = .next s ∧
      exec (.harmonicWindowEnd p) s = .next s ∧ exec (.harmonicPublication p t) s = .next s ∧
      exec (.phasorPublication p t) s = .next s ∧ exec (.referenceLoss p) s = .next s := by
  have off : ¬ runsFrames (podAt s p.val) = true := by simp [idle]
  have offAnd (b : Bool) : ¬ (runsFrames (podAt s p.val) && b) = true := by simp [idle]
  exact ⟨congrArg Host.Outcome.next (if_neg (offAnd _)), congrArg Host.Outcome.next (if_neg (offAnd _)),
    congrArg Host.Outcome.next (if_neg (offAnd _)), congrArg Host.Outcome.next (if_neg off),
    congrArg Host.Outcome.next (if_neg (offAnd _)), congrArg Host.Outcome.next (if_neg off), congrArg Host.Outcome.next (if_neg off)⟩

/-- Settles O32: the booking, the window, the harmonic unit and the phasors, the refresh, the reference, the blocks, and what does not
come due. -/
theorem metersActOnTheirEvents : Obligations.MetersActOnTheirEvents := by
  unfold Obligations.MetersActOnTheirEvents
  refine ⟨fun p iv rest s runs waits values => ?_, fun p iv rest s runs waits values booked => ?_, fun p s runs => ?_,
    fun p s runs due => ?_, fun p s runs => ?_, fun p kind i s => ?_, fun p s => ?_, fun p t s idle => meters_idle idle t⟩
  · have due : halfDue (podAt s p.val) = true := (halfDue_waiting waits).trans values
    obtain ⟨grows, boundary, lastBooking, halves, halfQueue, source⟩ := withBooking_booked p.isLt waits
    obtain ⟨regs', boundary', lastBooking', halves'⟩ := lowReference_books (podAt (withBooking p.val bookNext s) p.val)
    refine ⟨_, execHalfCycleBooking_due runs due, ?_⟩
    beta_reduce
    rw [podAt_modPod p.isLt]
    refine ⟨boundary'.trans boundary, lastBooking'.trans lastBooking, halves'.trans halves, fun k => ?_, fun untimed => ?_, fun r _ other => ?_⟩
    · rw [regs']
      exact grows k
    · rw [lowReference_untimed (source.trans untimed)]
      exact halfQueue
    · rw [podAt_modPod_ne other, withBooking_other other]
  · have due := windowDue_waiting waits values booked
    refine ⟨execWindowEnd_due runs due, fun silent => ⟨_, execWindowEnd_due runs due, ?_⟩⟩
    beta_reduce
    rw [windowStreams_silent (s := modPod p.val windowNext s) silent, podAt_modPod p.isLt, windowNext_waiting waits]
    exact ⟨rfl, rfl, rfl, rfl, rfl, fun r _ other => podAt_modPod_ne other ..⟩
  · refine ⟨fun unknown => ?_, fun rises ends notEmpty free => ?_, fun rises w ends notEmpty waits => ?_, fun w due => ?_,
      fun stop other => execHarmonicPublication_other other, fun instant quality due delivered => ?_, fun instant absent => ?_⟩
    · exact (execHarmonicWindowEnd_runs runs).trans (congrArg Host.Outcome.next (modPod_fixed (harmWindowEnd_open unknown)))
    · refine ⟨_, execHarmonicWindowEnd_runs runs, ?_⟩
      beta_reduce
      rw [podAt_modPod p.isLt, harmWindowEnd_taken ends free]
      exact ⟨_, rfl, rfl, rfl, rfl, getLastD_of_ne_nil notEmpty .., Nat.sub_add_cancel (List.length_pos_of_ne_nil notEmpty), rfl⟩
    · refine ⟨_, execHarmonicWindowEnd_runs runs, ?_⟩
      beta_reduce
      rw [podAt_modPod p.isLt, harmWindowEnd_discarded ends waits]
      exact ⟨waits, getLastD_of_ne_nil notEmpty .., rfl, rfl⟩
    · obtain ⟨free, skipped, seq, infoSeq, start, stop, cycles⟩ := harmPublish_due due s.time.stamp
      refine ⟨_, execHarmonicPublication_due runs due, ?_⟩
      beta_reduce
      rw [podAt_modPod p.isLt, (thdStep_step _).harm]
      exact ⟨free, skipped, seq, infoSeq.trans seq.symm, start, stop, cycles⟩
    · obtain ⟨at_, quality', freq, rest, meter⟩ := phasorPublish_due due delivered
      refine ⟨_, execPhasorPublication_runs runs instant, ?_⟩
      beta_reduce
      rw [podAt_modPod p.isLt]
      exact ⟨at_, quality', freq, rest, meter⟩
    · exact (execPhasorPublication_runs runs instant).trans (congrArg Host.Outcome.next (modPod_fixed (phasorPublish_absent absent)))
  · obtain ⟨refreshAt, meter, mode⟩ := refreshed_kept (podAt s p.val)
    refine ⟨_, execEventRmsRefresh_due runs due, ?_⟩
    beta_reduce
    rw [podAt_modPod p.isLt]
    refine ⟨refreshAt, fun wide => ?_, meter, mode, fun idle => ?_, fun busy => ?_⟩
    · rw [refreshAt]
      exact nextRefresh_quarter wide
    · rw [refreshed_idle idle]
    · rw [refreshed_busy busy, (refreshRun_step _).doze]
  · refine ⟨fun untimed => execReferenceLoss_stays runs (dropReference_untimed untimed), fun c timed last =>
      ⟨fun early => execReferenceLoss_stays runs (dropReference_early timed last early), fun late => ⟨_, execReferenceLoss_runs runs, ?_⟩⟩⟩
    beta_reduce
    rw [podAt_modPod p.isLt, dropReference_late timed last late, referenceLost_meter, referenceLost_harm]
    · exact ⟨loseSource_source .., loseSource_formed .., rfl, (loseSource_books ..).regs, fun r _ other => podAt_modPod_ne other ..⟩
    · exact Ne.symm timed
  · exact ⟨_, rfl, podAt_modPod p.isLt .., fun r _ other => podAt_modPod_ne other ..⟩
  · exact ⟨execHalfCycleBooking_idle, execWindowEnd_idle, execEventRmsRefresh_idle⟩

end Sys2Proof.Laws
end

section
/-! The sentinel of a Pod: its self-test, the retries at a restart and its trips (R413, R416, R418, R420, R421). -/

namespace Sys2Proof.Laws

open Sys2Proof.Machine

/-! ### The self-test (R418) -/

theorem moded_doze (m : PodMode) (cause : Nat) (stamp : Tick) (d : Pod) : (moded m cause stamp d).doze = d.doze := by
  obtain ⟨_, _, _, _, _, _, _, _, e⟩ := moded_only m cause stamp d
  rw [e]

/-- Only the end of WAKING touches the meter (R358). -/
theorem moded_meter {d : Pod} (settled : d.mode ≠ .waking) (m : PodMode) (cause : Nat) (stamp : Tick) :
    (moded m cause stamp d).meter = d.meter := by
  unfold moded
  split
  · rfl
  · exact if_neg (by simpa using settled)

/-- What the DOZE command leaves in a Pod whose sentinel has armed (R414). -/
def dozeArmed (now : Tick) (d : Pod) : Pod :=
  { d with doze := { d.doze with sentinel := .armed, lastTransfer := now, armedAt := now, entry := 2, flags := 0 } }

/-- R414: a self-test that passed takes a stopped Pod into DOZE. -/
theorem armPasses_stopped {p : Nat} {s : State} (stopped : (podAt s p).mode = .stopped) (asked : (podAt s p).doze.idleEntry = false)
    (fresh : (podAt s p).doze.restart = false) :
    armPasses p s = completeIf p 0x30 2 (setMode p .doze 3 (modPod p (dozeArmed s.time.stamp) s)) := by
  unfold armPasses
  simp only [stopped, asked, fresh, Bool.false_eq_true, if_false, ne_eq, not_true_eq_false]
  rfl

theorem execSentinelArmed_idle {p : Fin 64} {s : State} (idle : (podAt s p.val).doze.sentinel ≠ .arming) (n : Nat) :
    execSentinelArmed p n s = .next s :=
  congrArg Host.Outcome.next (if_neg idle)

section
variable {p : Fin 64} {n : Nat} {s : State} (arming : (podAt s p.val).doze.sentinel = .arming)
include arming

theorem execSentinelArmed_passes (low : 950 ≤ n) (high : n ≤ 1050) : execSentinelArmed p n s = .next (armPasses p.val s) :=
  congrArg Host.Outcome.next ((if_pos arming).trans (if_pos ⟨low, high⟩))

theorem execSentinelArmed_fails (outside : n < 950 ∨ 1050 < n) : execSentinelArmed p n s = .next (armFails p.val s) :=
  congrArg Host.Outcome.next ((if_pos arming).trans (if_neg (by omega)))

end

/-! ### Trips (R420, R421) -/

/-- R420: in ACTIVE the trip of an armed sentinel asks the governor for a wake. -/
theorem tripLatched_active {p : Nat} {s : State} (active : s.chip.state = .active) (drained : (podAt s p).doze.idleEntry = false) :
    tripLatched p s = trigger 1 p (modPod p (fun d => { d with
      wake := some (d.wake.getD 1), doze := { d.doze with sentinel := .tripped, tripAt := s.time.stamp } }) s) := by
  unfold tripLatched governorActs
  simp only [modPod_chip, modPod_modPod, active, drained, Bool.false_eq_true, reduceCtorEq, if_false, beq_self_eq_true, Bool.true_or, if_true]

theorem latchTrip_armed {p : Nat} {s : State} (armed : (podAt s p).doze.sentinel = .armed) : latchTrip p s = tripLatched p s := by
  unfold latchTrip
  rw [armed]

/-- R421: a sentinel that watches and is not armed counts the trip. -/
theorem latchTrip_counts {p : Nat} {s : State} (unarmed : (podAt s p).doze.sentinel = .arming ∨ (podAt s p).doze.sentinel = .tripped ∨
    (podAt s p).doze.sentinel = .pending) : latchTrip p s = podCount p 14 1 s := by
  unfold latchTrip
  obtain code | code | code := unarmed <;> rw [code]

/-- R416: no trip below the threshold, nor of a level that holds for less than 20 us. -/
theorem execSentinelTrip_quiet {p : Fin 64} {uv us : Nat} {s : State} (quiet : uv ≤ (podAt s p.val).val 0xB3 0 ∨ us < 20) :
    execSentinelTrip p uv us s = .next s :=
  congrArg Host.Outcome.next (if_pos (quiet.imp_right .inl))

section
variable {p : Fin 64} {uv us : Nat} {s : State} (above : (podAt s p.val).val 0xB3 0 < uv) (long : 20 ≤ us)
  (on : s.chip.state ≠ .unpowered) (watches : (podAt s p.val).doze.sentinel ≠ .off)
include above long on watches

/-- None of what keeps a level from being a trip holds. -/
theorem trips_above : ¬ (uv ≤ (podAt s p.val).val 0xB3 0 ∨ us < 20 ∨ s.chip.state = .unpowered ∨ (podAt s p.val).doze.sentinel = .off) := by
  rintro (below | short | dark | off)
  · exact Nat.not_lt.2 below above
  · exact Nat.not_lt.2 long short
  · exact on dark
  · exact watches off

theorem execSentinelTrip_latches (husk : huskRuns s = true) : execSentinelTrip p uv us s = .next (latchTrip p.val s) :=
  congrArg Host.Outcome.next ((if_neg (trips_above above long on watches)).trans (if_neg (by simp [husk])))

theorem execSentinelTrip_holds (frozen : huskRuns s = false) :
    execSentinelTrip p uv us s = .next (modPod p.val (fun d => { d with doze := { d.doze with tripHeld := true } }) s) :=
  congrArg Host.Outcome.next ((if_neg (trips_above above long on watches)).trans (if_pos (by simp [frozen])))

end

/-- Settles O34: the self-test and its retries by the sentinel's state, a trip by what it meets. The comparison with the threshold is exact:
the level is an operand as the comparator sees it (log 7), so R416's tolerance lies with the environment. -/
theorem sentinelsArmAndTrip : Obligations.SentinelsArmAndTrip := by
  unfold Obligations.SentinelsArmAndTrip
  refine ⟨fun p n s arming low high stopped asked fresh => ?_, fun p n s arming outside => execSentinelArmed_fails arming outside,
    fun p n s idle => execSentinelArmed_idle idle n, fun p s arming restart => congrArg Host.Outcome.next (if_pos ⟨arming, restart⟩),
    fun p uv us s above long husk active armed drained => ?_, fun p uv us s above long husk on unarmed => ?_,
    fun p uv us s above long frozen on watches => execSentinelTrip_holds above long on watches frozen,
    fun p uv us s quiet => execSentinelTrip_quiet quiet⟩
  · refine ⟨_, execSentinelArmed_passes arming low high, ?_⟩
    obtain ⟨w, completed⟩ := podAt_completeIf p.isLt 0x30 2 (setMode p.val .doze 3 (modPod p.val (dozeArmed s.time.stamp) s))
    rw [armPasses_stopped stopped asked fresh, completed, podAt_setMode p.isLt, podAt_modPod p.isLt]
    dsimp only
    have settled : (dozeArmed s.time.stamp (podAt s p.val)).mode ≠ .waking := by
      show (podAt s p.val).mode ≠ .waking
      rw [stopped]
      decide
    rw [moded_mode, moded_doze, moded_meter settled]
    exact ⟨rfl, rfl, rfl, rfl, rfl⟩
  · have on : s.chip.state ≠ .unpowered := by rw [active]; decide
    have watches : (podAt s p.val).doze.sentinel ≠ .off := by rw [armed]; decide
    exact (execSentinelTrip_latches above long on watches husk).trans
      (congrArg Host.Outcome.next ((latchTrip_armed armed).trans (tripLatched_active active drained)))
  · have watches : (podAt s p.val).doze.sentinel ≠ .off := by
      obtain code | code | code := unarmed <;> rw [code] <;> decide
    exact (execSentinelTrip_latches above long on watches husk).trans (congrArg Host.Outcome.next (latchTrip_counts unarmed))

end Sys2Proof.Laws
end

section
/-! The wake of a dozing Pod and the transfers of its dormant energy (R119, R415, R422, R425, R429). -/

namespace Sys2Proof.Laws

open Sys2Proof.Machine

/-! ### Frame 0 (R422) -/

/-- A Pod enters WAKING at its frame 0: no power-up runs and no wake waits. -/
structure FrameZero (d : Pod) : Prop where
  mode : d.mode = .waking
  powering : d.powering = none
  wake : d.wake = none
  frames : d.frames = 0

theorem syncChannels_frameZero {d : Pod} (zero : FrameZero d) (keep : Nat → Bool) (cs : List Nat) : FrameZero (syncChannels keep cs d) := by
  unfold syncChannels
  extract_lets live d1
  have reset : FrameZero d1 := List.foldlRecOn (motive := FrameZero) cs _ zero fun x kept c _ =>
    ⟨kept.mode, kept.powering, kept.wake, kept.frames⟩
  exact ⟨reset.mode, reset.powering, reset.wake, reset.frames⟩

theorem startSampling_frameZero {p : Nat} (hp : p < 64) (cause : Nat) (s : State) : FrameZero (podAt (startSampling p cause s) p) := by
  unfold startSampling
  generalize latchMarker s = latched
  obtain ⟨t, s1⟩ := latched
  simp -zeta only []
  extract_lets s2
  have waking : (podAt s2 p).mode = .waking := by rw [podAt_setMode hp, moded_mode]
  rw [podAt_modPod hp]
  generalize podAt s2 p = d at waking ⊢
  extract_lets meter conv events started harm anchored
  have zero : FrameZero anchored := ⟨waking, rfl, rfl, rfl⟩
  exact syncChannels_frameZero zero ..

/-! ### The end of a power-up (R425) -/

/-- The cause of the change to WAKING, by the source of the wake. -/
def wakeCause (src : Nat) : Nat := if src = 2 then 1 else if src = 9 then 0x0A else if src = 8 then 0x0C else 4

/-- The state in which the Pod starts to sample: after a POD-FAULT, source 9, its emitter is held no longer (R448). -/
def wakeReady (p src : Nat) (s : State) : State :=
  if src = 9 then modPod p (pulseResume s.time.elapsed) (syncPulse p s) else s

/-- What a wake notes in a Pod: a frame of nominal length and, of the doze it ends, the exit and the latency of a trip (R425, R426). -/
def wakeNoted (src : Nat) (now : Tick) (before d : Pod) : Pod :=
  { d with
    rcCount := podRcCount, rcByCommand := false, framePeriod := 33554432,
    counters := if before.mode == .doze then bump d.counters 12 else d.counters,
    doze := if before.mode == .doze then
        { d.doze with exit := if src = 2 then 2 else 1, latency := if src = 1 then microsOf (now - before.doze.tripAt) else d.doze.latency }
      else d.doze }

/-- A Pod wakes: it starts to sample, and takes the clock that the SPINE PLL's lock gives it. -/
def wakeStarted (p src : Nat) (s : State) : State :=
  setPodMux p (if s.clocks.spineLocked then .primary else .alternate) 4
    (modPod p (fun d => { d with mux := .off }) (startSampling p (wakeCause src) (wakeReady p src s)))

theorem execWakePowerUpDone_due {p : Fin 64} {src : Nat} {s : State} (powering : (podAt s p.val).powering = some src)
    (acts : governorActs s = true) (moving : (podAt s p.val).frozen = false) (granted : (podAt s p.val).powerWait = false) :
    execWakePowerUpDone p s =
      .next (completeIf p.val 1 2 (modPod p.val (wakeNoted src s.time.stamp (podAt s p.val)) (wakeStarted p.val src s))) := by
  unfold execWakePowerUpDone
  extract_lets d
  rw [show d.powering = some src from powering]
  simp -zeta only []
  rw [if_neg (by simp [d, acts, moving, granted])]
  rfl

/-- R422, R425: the Pod that wakes stands at frame 0 of WAKING on its clock. -/
theorem wakeStarted_pod {p : Nat} (hp : p < 64) (src : Nat) (s : State) :
    FrameZero (podAt (wakeStarted p src s) p) ∧
      (podAt (wakeStarted p src s) p).mux = if s.clocks.spineLocked then .primary else .alternate := by
  unfold wakeStarted
  rw [podAt_setPodMux hp, podAt_modPod hp]
  have zero := startSampling_frameZero hp (wakeCause src) (wakeReady p src s)
  generalize podAt (startSampling p (wakeCause src) (wakeReady p src s)) p = d at zero ⊢
  exact ⟨⟨zero.mode, zero.powering, zero.wake, zero.frames⟩, rfl⟩

/-- R119: without a power-up, or before the LEAN entries of its evaluation, no wake ends. -/
theorem execWakePowerUpDone_waits {p : Fin 64} {s : State} (waits : (podAt s p.val).powering = none ∨ (podAt s p.val).powerWait = true) :
    execWakePowerUpDone p s = .next s := by
  unfold execWakePowerUpDone
  dsimp only
  cases powering : (podAt s p.val).powering with
  | none => rfl
  | some src =>
    have granted : (podAt s p.val).powerWait = true := waits.resolve_left (by simp [powering])
    exact congrArg Host.Outcome.next (if_pos (by simp [granted]))

/-! ### Transfers (R415, R429) -/

theorem takesTransfer_counting {d : Pod} (counts : sentinelCounts d = true) (drained : d.doze.idleEntry = false) : takesTransfer d = true := by
  simp [takesTransfer, counts, drained]

/-- What a transfer leaves, where the Pod takes one. -/
structure TransferBooked (now : Tick) (d e : Pod) : Prop where
  none_left : e.doze.untransferred = 0
  counted : e.doze.transfers = wrap32 (d.doze.transfers + 1)
  dated : e.doze.lastTransfer = now
  dormant : e.meter.regs.getD 12 0 = d.meter.regs.getD 12 0 + pendingEnergy d
  others : ∀ k, k ≠ 12 → e.meter.regs.getD k 0 = d.meter.regs.getD k 0

theorem transferPod_booked (now : Tick) {d : Pod} (takes : takesTransfer d = true) : TransferBooked now d (transferPod now d) := by
  unfold transferPod
  rw [if_neg (by simp [takes])]
  exact ⟨rfl, rfl, rfl, getD_putAt_same (by decide) .., fun _ other => getD_putAt_ne other ..⟩

/-- The ticks that a sentinel has counted since the last command join the others. -/
def ticksCounted (n : Nat) (sat : Bool) (d : Pod) : Pod :=
  { d with doze := { d.doze with
      ticks := d.doze.ticks + n, untransferred := d.doze.untransferred + n, saturated := d.doze.saturated || sat } }

/-- A sentinel that counts adds its ticks; a transfer follows in ACTIVE where no idle entry drains. -/
theorem execDormantTransfer_counts {p : Fin 64} {s : State} (counts : sentinelCounts (podAt s p.val) = true) (n : Nat) (sat : Bool)
    (on : s.chip.state ≠ .unpowered) :
    execDormantTransfer p n sat s =
      .next (if s.chip.state ≠ .active ∨ (podAt s p.val).doze.idleEntry = true then modPod p.val (ticksCounted n sat) s
        else if laneSilent s p.val then laneFell p.val (modPod p.val (ticksCounted n sat) s)
        else laneDone p.val (modPod p.val (fun d => transferPod s.time.stamp (ticksCounted n sat d)) s)) := by
  have takes : (takesTransfer (podAt s p.val) || (podAt s p.val).doze.idleEntry) = true := by
    cases drains : (podAt s p.val).doze.idleEntry with
    | true => exact Bool.or_true _
    | false => simp [takesTransfer_counting counts drains]
  have counted : modPod p.val (fun d => { d with doze := { d.doze with
      ticks := d.doze.ticks + n, untransferred := d.doze.untransferred + n, saturated := d.doze.saturated || (sat && sentinelCounts d) } }) s =
        modPod p.val (ticksCounted n sat) s := modPod_congr (by simp [counts, ticksCounted])
  unfold execDormantTransfer
  simp only [on, takes, counts, Bool.not_true, Bool.false_eq_true, or_self, if_false, if_true, counted, modPod_time, modPod_modPod]

/-- Settles O35: the wake by its power-up, the transfer by the chip's state, and what one books. -/
theorem dozingPodsWakeAndTransfer : Obligations.DozingPodsWakeAndTransfer := by
  unfold Obligations.DozingPodsWakeAndTransfer
  refine ⟨fun p src s powering acts moving granted => ?_, fun p s waits => execWakePowerUpDone_waits waits,
    fun p n sat s counts active reached drained => ?_, fun p n sat s counts standby => ?_, fun now d takes => ?_⟩
  · obtain ⟨zero, clocked⟩ := wakeStarted_pod p.isLt src s
    obtain ⟨w, completed⟩ := podAt_completeIf p.isLt 1 2
      (modPod p.val (wakeNoted src s.time.stamp (podAt s p.val)) (wakeStarted p.val src s))
    refine ⟨_, execWakePowerUpDone_due powering acts moving granted, ?_⟩
    beta_reduce
    rw [completed, podAt_modPod p.isLt]
    generalize podAt (wakeStarted p.val src s) p.val = d at zero clocked ⊢
    exact ⟨zero.mode, zero.powering, zero.wake, clocked, zero.frames⟩
  · refine (execDormantTransfer_counts counts n sat (by rw [active]; decide)).trans (congrArg Host.Outcome.next ?_)
    rw [if_neg (by simp [active, drained]), reached]
    rfl
  · exact (execDormantTransfer_counts counts n sat (by rw [standby]; decide)).trans
      (congrArg Host.Outcome.next (if_pos (.inl (by rw [standby]; decide))))
  · obtain ⟨noneLeft, counted, dated, dormant, others⟩ := transferPod_booked now takes
    exact ⟨noneLeft, counted, dated, dormant.trans (Nat.add_assoc ..).symm, others⟩

end Sys2Proof.Laws
end

section
/-! The pulse emitter of a Pod: leading edges, widths, residue events and holds (R440, R441, R446, R448). -/

namespace Sys2Proof.Laws

open Sys2Proof.Machine

/-! ### Running the emitter up to now touches its Pod alone -/

@[simp] theorem syncPulse_time (p : Nat) (s : State) : (syncPulse p s).time = s.time := rfl
@[simp] theorem pulseRuns_syncPulse (p : Nat) (s : State) : pulseRuns (syncPulse p s) = pulseRuns s := rfl
@[simp] theorem gateOn_syncPulse (p : Nat) (s : State) (k : Nat) : gateOn (syncPulse p s) k = gateOn s k := rfl

/-! ### Leading edges and their widths (R440, R441) -/

/-- The emitter drives an edge where PULSE runs, the gate is open and the loop of R440 allows one. -/
theorem execPulseLeadingEdge_eq (p : Fin 64) (s : State) :
    execPulseLeadingEdge p s =
      .next (if pulseRuns s = true ∧ gateOn s 3 = true ∧ edgeAllowed (podAt (syncPulse p.val s) p.val) s.time.elapsed = true then
        modPod p.val (pulseEdge s.time.elapsed s.time.stamp) (syncPulse p.val s) else syncPulse p.val s) := by
  simp [execPulseLeadingEdge, and_assoc]

/-- PULSE held low by a relock stretches the pulse: it ends at its width of PULSE ticks (R449). -/
theorem execPulseWidthEnd_eq (p : Fin 64) (s : State) :
    execPulseWidthEnd p s =
      .next (if s.clocks.spineLocked = true ∧
          (podAt (syncPulse p.val s) p.val).pulse.edgeTicks + 16 * (podAt (syncPulse p.val s) p.val).pulse.width ≤ s.time.elapsed then
        modPod p.val (fun d => { d with pulse := { d.pulse with driving := false } }) (syncPulse p.val s) else syncPulse p.val s) := rfl

theorem owed_pos_of_edgeAllowed {d : Pod} {now : Tick} (allowed : edgeAllowed d now = true) : 0 < d.pulse.owed := by
  simp only [edgeAllowed, Bool.and_eq_true, decide_eq_true_eq] at allowed
  obtain ⟨⟨_, owes⟩, _⟩ := allowed
  exact owes

/-- The least width: 2 ticks in test mode (R445), 2 048 outside it (R441). -/
theorem leastWidth_le_pulseWidth (d : Pod) (owedAfter : Nat) : (if d.pulse.test then 2 else 2048) ≤ pulseWidth d owedAfter :=
  le_max_left ..

theorem two_le_pulseWidth (d : Pod) (owedAfter : Nat) : 2 ≤ pulseWidth d owedAfter := by
  refine le_trans ?_ (leastWidth_le_pulseWidth d owedAfter)
  split <;> decide

theorem pulseWidth_outside_test {d : Pod} (outside : d.pulse.test = false) (owedAfter : Nat) : 2048 ≤ pulseWidth d owedAfter := by
  simpa [outside] using leastWidth_le_pulseWidth d owedAfter

/-- The pulse that leaves was owed: the register and the emitter agree across an edge (R443). -/
theorem pulseEdge_owed {d : Pod} {now : Tick} (allowed : edgeAllowed d now = true) (stamp : Tick) :
    (pulseEdge now stamp d).pulse.owed + 1 = d.pulse.owed :=
  Nat.sub_add_cancel (owed_pos_of_edgeAllowed allowed)

/-- Settles O36: the edge and the width's end by their conditions, what an edge takes and starts, what a residue event discards,
and which pulse a hold cuts. -/
theorem pulsesAreDriven : Obligations.PulsesAreDriven := by
  unfold Obligations.PulsesAreDriven
  refine ⟨fun p s runs gate allowed => ?_, fun p s blocked => ?_, fun p s locked => ⟨fun ended => ?_, fun during => ?_⟩,
    fun now stamp d allowed => ?_, fun cause stamp d => ⟨rfl, rfl, rfl, rfl, rfl⟩, fun d => ⟨rfl, rfl⟩⟩
  · exact (execPulseLeadingEdge_eq p s).trans (congrArg Host.Outcome.next (if_pos ⟨runs, gate, allowed⟩))
  · refine (execPulseLeadingEdge_eq p s).trans (congrArg Host.Outcome.next (if_neg ?_))
    rintro ⟨runs, gate, allowed⟩
    simp [runs, gate, allowed] at blocked
  · exact (execPulseWidthEnd_eq p s).trans (congrArg Host.Outcome.next (if_pos ⟨locked, ended⟩))
  · exact (execPulseWidthEnd_eq p s).trans (congrArg Host.Outcome.next (if_neg fun ⟨_, ended⟩ => Nat.not_le_of_lt during ended))
  · exact ⟨pulseEdge_owed allowed stamp, rfl, rfl, two_le_pulseWidth .., fun outside => pulseWidth_outside_test outside .., rfl⟩

end Sys2Proof.Laws
end

section
/-! SUPPORT. What records and faults leave of the Shell's STOREs: the slots, the STORE in progress and its counts (R470-R479). -/

namespace Sys2Proof.Laws

open Sys2Proof.Machine

/-- The slots, the STORE in progress and the one that waits, and the record of those that ended stand as they did. -/
structure StoreKept (s t : State) : Prop where
  slots : t.shell.slots = s.shell.slots
  run : t.shell.run = s.shell.run
  pending : t.shell.pending = s.shell.pending
  stores : t.shell.stores = s.shell.stores
  failures : t.shell.failures = s.shell.failures
  last : t.shell.last = s.shell.last

theorem StoreKept.of_shell {s t : State} (same : t.shell = s.shell) : StoreKept s t := by
  constructor <;> rw [same]

theorem StoreKept.refl (s : State) : StoreKept s s := .of_shell rfl

theorem StoreKept.trans {s t u : State} (a : StoreKept s t) (b : StoreKept t u) : StoreKept s u :=
  ⟨b.slots.trans a.slots, b.run.trans a.run, b.pending.trans a.pending, b.stores.trans a.stores, b.failures.trans a.failures,
    b.last.trans a.last⟩

theorem StoreKept.ite {c : Prop} [Decidable c] {s t u : State} (a : StoreKept s t) (b : StoreKept s u) : StoreKept s (if c then t else u) := by
  split <;> assumption

theorem StoreKept.foldl {α : Type} {f : State → α → State} (step : ∀ s a, StoreKept s (f s a)) (l : List α) (s : State) :
    StoreKept s (l.foldl f s) :=
  List.foldlRecOn (motive := StoreKept s) l f (.refl s) fun t kept a _ => kept.trans (step t a)

/-! ### Records, gaps and bookings -/

theorem traceAdd_storeKept (kind stamp : Nat) (payload : List Nat) (s : State) : StoreKept s (traceAdd kind stamp payload s) :=
  .of_shell (by rw [traceAdd_only])

theorem logAdd_storeKept (kind inst detail : Nat) (payload : List Nat) (s : State) : StoreKept s (logAdd kind inst detail payload s) := by
  obtain ⟨q, n, lost, shell⟩ := logAdd_shell kind inst detail payload s
  constructor <;> rw [shell]

theorem evAdd_storeKept (r : EvRec) (s : State) : StoreKept s (evAdd r s) := .of_shell (by rw [evAdd_only])

theorem modPod_storeKept (p : Nat) (f : Pod → Pod) (s : State) : StoreKept s (modPod p f s) := .of_shell rfl

theorem modInst_storeKept (k : Nat) (f : Inst → Inst) (s : State) : StoreKept s (modInst k f s) := .of_shell rfl

theorem histAdd_storeKept (c : FaultClass) (p source action flags detail before : Nat) (logged notified : Bool) (s : State) :
    StoreKept s (histAdd c p source action flags detail before logged notified s) := by
  unfold histAdd
  extract_lets k seq inst e g s1 s2 podByte s3
  have noted : StoreKept s s1 := .of_shell rfl
  have traced : StoreKept s s2 := noted.trans (traceAdd_storeKept ..)
  have recorded : StoreKept s s3 := .ite (traced.trans (logAdd_storeKept ..)) traced
  exact .ite (recorded.trans (evAdd_storeKept ..)) recorded

theorem closeGap_storeKept (p cause : Nat) (start stop : Tick) (bound : Option Nat) (dormant add : Bool) (s : State) :
    StoreKept s (closeGap p cause start stop bound dormant add s) := by
  unfold closeGap
  extract_lets flags b s1 s2
  have bounded : StoreKept s s1 := .ite (modPod_storeKept ..) (.refl s)
  have logged : StoreKept s s2 := bounded.trans (logAdd_storeKept ..)
  clear_value s2
  exact logged.trans ⟨rfl, rfl, rfl, rfl, rfl, rfl⟩

theorem withBooking_storeKept (p : Nat) (f : Pod → Pod × List PhaseGap) (s : State) : StoreKept s (withBooking p f s) :=
  ((modPod_storeKept ..).trans (modPod_storeKept ..)).trans (.foldl (fun _ _ => closeGap_storeKept ..) _ _)

theorem drainEvents_storeKept (p : Nat) (s : State) : StoreKept s (drainEvents p s) :=
  .ite (.refl s) ((StoreKept.foldl (fun s r => evAdd_storeKept ⟨2, p, eventOctets r⟩ s) _ s).trans (modPod_storeKept ..))

theorem endBooking_storeKept (p : Nat) (limit : Option Tick) (s : State) : StoreKept s (endBooking p limit s) := by
  unfold endBooking
  extract_lets stop s0 s1 source s2
  have booked : StoreKept s s0 := .foldl (fun s _ => .ite (withBooking_storeKept ..) (.refl s)) _ s
  exact booked.trans ((withBooking_storeKept ..).trans ((modPod_storeKept ..).trans (drainEvents_storeKept ..)))

theorem freezePod_storeKept (p : Nat) (s : State) : StoreKept s (freezePod p s) := by
  unfold freezePod freezeNow
  extract_lets s1 s2
  have stopped : StoreKept s1 s2 := .ite (endBooking_storeKept ..) (.refl s1)
  exact .ite (modPod_storeKept ..) (((modPod_storeKept ..).trans stopped).trans (modPod_storeKept ..))

/-! ### Faults of the Shell's own class -/

theorem enterSafe_storeKept (s : State) : StoreKept s (enterSafe s) := by
  have frozen : StoreKept s (freezePods s) := .foldl (fun s p => freezePod_storeKept p s) _ s
  have safe (u : State) : StoreKept u (displayWatch (runTimers false (setChip .safe u))) := .of_shell (by rw [displayWatch_only]; rfl)
  exact frozen.trans (safe _)

theorem levelFour_storeKept (c : FaultClass) (p source : Nat) (s : State) : StoreKept s (levelFour c p source s) := by
  unfold levelFour
  extract_lets _ s1
  have noted : StoreKept s s1 := .of_shell rfl
  cases s.chip.state
  case active | boot => exact noted.trans (enterSafe_storeKept s1)
  case standby => exact noted.trans (.of_shell rfl)
  case unpowered | hold | safe => exact noted

/-- The containment of the Shell suspends checkpoints and commands, and nothing else comes of it (R523). -/
theorem enterContainment_shell (p : Nat) (s : State) : (enterContainment .shell p s).shell = s.shell := rfl

theorem levelEffects_storeKept (p source level : Nat) (s : State) : StoreKept s (levelEffects .shell p source level s) := by
  unfold levelEffects
  extract_lets k i s1
  have contained : StoreKept s s1 := .ite (.of_shell (enterContainment_shell ..)) (.refl s)
  exact .ite (contained.trans (levelFour_storeKept ..)) contained

theorem dropEnded_storeKept (k : Nat) (s : State) : StoreKept s (dropEnded k s) := by
  unfold dropEnded
  exact .ite (.of_shell rfl) (modInst_storeKept ..)

theorem raiseAt_storeKept (p source detail : Nat) (at_ : Tick) (held present : Bool) (s : State) (least : Nat) :
    StoreKept s (raiseAt .shell p source detail at_ held present s least) := by
  have risen (u : State) (f : Inst → Inst) (action flags before level k : Nat) (g : Bool) (raised : StoreKept s u) :
      StoreKept s (dropEnded k (levelEffects .shell p source level
        (histAdd .shell p source action flags detail before g g (modInst k f u)))) :=
    raised.trans ((modInst_storeKept ..).trans
      ((histAdd_storeKept ..).trans ((levelEffects_storeKept ..).trans (dropEnded_storeKept ..))))
  unfold raiseAt
  dsimp only
  split
  · exact risen _ _ _ _ _ _ _ _ (.of_shell rfl)
  · exact risen _ _ _ _ _ _ _ _ (.of_shell rfl)

/-- A fault of the Shell leaves the STORE that raises it as it stands. -/
theorem raise_storeKept (p source detail : Nat) (s : State) : StoreKept s (raise .shell p source detail s) := by
  unfold raise
  extract_lets cond
  exact .ite (.refl s) (.ite (.of_shell rfl) (raiseAt_storeKept ..))

end Sys2Proof.Laws
end

section
/-! The slots (R466, R467, R476, R484): what PROGRAM leaves in one, which of them is the newest, and where the next STORE goes. -/

namespace Sys2Proof.Laws

open Sys2Proof.Machine

/-! ### The header of a slot -/

/-- Octets that carry the format and their own check make a header that matches (R467). -/
theorem headerMatches_checked {h : List Nat} (size : h.length = 28) (format : h.getD 5 0 = 1) :
    headerMatches (h ++ beOctets 4 (crc32c h)) = true := by
  have check : beValue ((h ++ beOctets 4 (crc32c h)).drop 28) = crc32c ((h ++ beOctets 4 (crc32c h)).take 28) := by
    rw [List.drop_left' size, List.take_left' size, beValue_beOctets, Nat.mod_eq_of_lt (crc32c_lt _)]
  have kept : (h ++ beOctets 4 (crc32c h)).getD 5 0 = 1 := (List.getD_append h _ 0 5 (by omega)).trans format
  rw [headerMatches, check, kept, beq_self_eq_true, beq_self_eq_true, Bool.and_true]

/-- The fields of a slot header before its check (R466). -/
def slotFields (seq reason quality stamp wear check : Nat) : List Nat :=
  beOctets 4 seq ++ [reason, 1, quality, 0] ++ beOctets 8 stamp ++ beOctets 4 65536 ++ beOctets 4 wear ++ beOctets 4 check

section
variable (seq reason quality stamp wear check : Nat)

theorem slotHeader_eq : slotHeader seq reason quality stamp wear check =
    slotFields seq reason quality stamp wear check ++ beOctets 4 (crc32c (slotFields seq reason quality stamp wear check)) := rfl

theorem slotHeader_matches : headerMatches (slotHeader seq reason quality stamp wear check) = true := by
  rw [slotHeader_eq]
  exact headerMatches_checked (by simp [slotFields]) rfl

/-- A slot header is no erased one: its format octet is 0x01. -/
theorem headerField_slotHeader (off n : Nat) : headerField (slotHeader seq reason quality stamp wear check) off n =
    beValue (((slotHeader seq reason quality stamp wear check).drop off).take n) := by
  have written : (slotHeader seq reason quality stamp wear check).all (· == 0xFF) = false :=
    List.all_eq_false.2 ⟨1, by simp [slotHeader], by decide⟩
  rw [headerField, written, if_neg Bool.false_ne_true]

theorem slotHeader_seq : headerField (slotHeader seq reason quality stamp wear check) 0 4 = wrap32 seq :=
  (headerField_slotHeader ..).trans (beValue_beOctets 4 seq)

theorem slotHeader_reason : headerField (slotHeader seq reason quality stamp wear check) 4 1 = reason % 256 :=
  (headerField_slotHeader ..).trans (Nat.zero_add _)

theorem slotHeader_wear : headerField (slotHeader seq reason quality stamp wear check) 20 4 = wrap32 wear :=
  (headerField_slotHeader ..).trans (beValue_beOctets 4 wear)

theorem slotHeader_check : headerField (slotHeader seq reason quality stamp wear check) 24 4 = wrap32 check :=
  (headerField_slotHeader ..).trans (beValue_beOctets 4 check)

end

/-! ### What PROGRAM leaves in a slot -/

theorem topReason_le (reasons : Nat) : topReason reasons ≤ 6 := by
  unfold topReason
  cases found : [3, 6, 5, 4, 1, 2].find? (fun r => bit reasons r) with
  | none => decide
  | some r => exact (by decide : ∀ r ∈ [3, 6, 5, 4, 1, 2], r ≤ 6) r (List.mem_of_find?_eq_some found)

/-- What PROGRAM puts in place of a slot's content (R466). -/
def programmedSlot (r : StoreRun) (x : Slot) : Slot :=
  ⟨slotHeader r.seq (topReason r.reasons) r.quality r.stamp (wrap32 (x.wear + 1)) (crc32c (imageOctets r.image r.energy)),
    some (crc32c (imageOctets r.image r.energy)), false, r.image, r.energy⟩

theorem programmedSlot_headerVerifies (r : StoreRun) (x : Slot) : headerVerifies (programmedSlot r x) = true := by
  rw [headerVerifies, show headerMatches (programmedSlot r x).header = true from slotHeader_matches ..]
  rfl

theorem programmedSlot_slotVerifies (r : StoreRun) (x : Slot) : slotVerifies (programmedSlot r x) = true := by
  have check : headerField (programmedSlot r x).header 24 4 = crc32c (imageOctets r.image r.energy) :=
    (slotHeader_check ..).trans (Nat.mod_eq_of_lt (crc32c_lt _))
  rw [slotVerifies, programmedSlot_headerVerifies, check, Bool.true_and]
  exact beq_self_eq_true _

theorem programmedSlot_seq (r : StoreRun) (x : Slot) : (programmedSlot r x).seq = r.seq % 2 ^ 32 := slotHeader_seq ..

theorem programmedSlot_reason (r : StoreRun) (x : Slot) : (programmedSlot r x).reason = topReason r.reasons :=
  (slotHeader_reason ..).trans (Nat.mod_eq_of_lt (Nat.lt_of_le_of_lt (topReason_le _) (by decide)))

theorem programmedSlot_wear (r : StoreRun) (x : Slot) : (programmedSlot r x).wear = wrap32 (x.wear + 1) :=
  (slotHeader_wear ..).trans (Nat.mod_mod ..)

/-- R470, R480: PROGRAM writes its slot and goes on to VERIFY, and a wear that it reports changes neither. -/
theorem programEnds_programmed {r : StoreRun} {s : State} (running : s.shell.run = some r) (phase : r.phase = 2) :
    (programEnds s).shell.slots = putAt s.shell.slots r.slot (programmedSlot r (slotAt s r.slot)) ∧
      (programEnds s).shell.run = some { r with phase := 3 } := by
  unfold programEnds
  simp only [running, phase, ne_eq, not_true_eq_false, if_false]
  generalize hu : State.mk .. = u
  have written : StoreKept u (if wrap32 ((slotAt s r.slot).wear + 1) = 100001
      then raise .shell 0 4 (wrap32 ((slotAt s r.slot).wear + 1)) (traceStore 3 r.slot r.reasons 0 u)
      else traceStore 3 r.slot r.reasons 0 u) :=
    .ite ((traceAdd_storeKept ..).trans (raise_storeKept ..)) (traceAdd_storeKept ..)
  rw [written.slots, written.run, ← hu]
  exact ⟨rfl, rfl⟩

/-! ### The slots as they are read -/

theorem slotAt_put_same {s t : State} {k : Nat} {x : Slot} (written : t.shell.slots = putAt s.shell.slots k x) (hk : k < 8) :
    slotAt t k = x := by
  rw [slotAt, written]
  exact getD_putAt_same hk ..

theorem slotAt_put_ne {s t : State} {k j : Nat} {x : Slot} (written : t.shell.slots = putAt s.shell.slots k x) (other : j ≠ k) :
    slotAt t j = slotAt s j := by
  rw [slotAt, written]
  exact getD_putAt_ne other ..

/-! ### The newest slot (R476, R484) -/

/-- The newer of what was found so far and one more slot. -/
def newerOf (ok : Slot → Bool) (s : State) (a : Option Nat) (k : Nat) : Option Nat :=
  if ok (slotAt s k) then
    (match a with
     | some j => if (slotAt s j).seq < (slotAt s k).seq then some k else a
     | none => some k) else a

theorem newestOf_eq (ok : Slot → Bool) (s : State) : newestOf ok s = (List.range 8).foldl (newerOf ok s) none := rfl

/-- `a` is the newest of the first n slots, as far as any of them passes. -/
structure Newest (ok : Slot → Bool) (s : State) (n : Nat) (a : Option Nat) : Prop where
  found : ∀ k, a = some k → k < n ∧ ok (slotAt s k) = true ∧
    ∀ j, j < n → ok (slotAt s j) = true → (slotAt s j).seq ≤ (slotAt s k).seq
  missing : a = none → ∀ j, j < n → ok (slotAt s j) = false

section
variable {ok : Slot → Bool} {s : State} {n : Nat} {a : Option Nat}

/-- A slot that fails leaves the newest as it is. -/
theorem Newest.fails (before : Newest ok s n a) (fails : ok (slotAt s n) = false) : Newest ok s (n + 1) a where
  found k is := by
    obtain ⟨lower, passes, above⟩ := before.found k is
    refine ⟨by omega, passes, fun j hj pass => above j (Nat.lt_of_le_of_ne (Nat.le_of_lt_succ hj) ?_) pass⟩
    rintro rfl
    simp [fails] at pass
  missing is j hj := by
    rcases Nat.lt_succ_iff_lt_or_eq.1 hj with lower | rfl
    · exact before.missing is j lower
    · exact fails

/-- A slot that passes with a sequence no lower than that of any before it is the newest. -/
theorem Newest.last (passes : ok (slotAt s n) = true)
    (above : ∀ j, j < n → ok (slotAt s j) = true → (slotAt s j).seq ≤ (slotAt s n).seq) : Newest ok s (n + 1) (some n) where
  found k is := by
    obtain rfl : n = k := Option.some.inj is
    refine ⟨n.lt_succ_self, passes, fun j hj pass => ?_⟩
    rcases Nat.lt_succ_iff_lt_or_eq.1 hj with lower | rfl
    · exact above j lower pass
    · exact le_rfl
  missing := nofun

/-- A slot that passes with no higher sequence leaves the newest as it is. -/
theorem Newest.older {k : Nat} (before : Newest ok s n (some k)) (older : (slotAt s n).seq ≤ (slotAt s k).seq) :
    Newest ok s (n + 1) (some k) where
  found i is := by
    obtain rfl : k = i := Option.some.inj is
    obtain ⟨lower, passes, above⟩ := before.found k rfl
    refine ⟨by omega, passes, fun j hj pass => ?_⟩
    rcases Nat.lt_succ_iff_lt_or_eq.1 hj with earlier | rfl
    · exact above j earlier pass
    · exact older
  missing := nofun

theorem Newest.next (before : Newest ok s n a) : Newest ok s (n + 1) (newerOf ok s a n) := by
  unfold newerOf
  cases passes : ok (slotAt s n) with
  | false => exact before.fails passes
  | true =>
    cases a with
    | none =>
      refine .last passes fun j hj pass => ?_
      simp [before.missing rfl j hj] at pass
    | some k =>
      obtain ⟨-, -, above⟩ := before.found k rfl
      by_cases newer : (slotAt s k).seq < (slotAt s n).seq
      · simp only [newer, if_true]
        exact .last passes fun j hj pass => (above j hj pass).trans newer.le
      · simp only [newer, if_true, if_false]
        exact before.older (Nat.le_of_not_lt newer)

end

theorem newestOf_newest (ok : Slot → Bool) (s : State) : Newest ok s 8 (newestOf ok s) := by
  have first (n : Nat) : Newest ok s n ((List.range n).foldl (newerOf ok s) none) := by
    induction n with
    | zero => exact ⟨nofun, fun _ j hj => absurd hj (Nat.not_lt_zero j)⟩
    | succ n ih =>
      rw [List.range_succ, List.foldl_append]
      exact ih.next
  exact first 8

/-- A slot above every other that passes is the newest. -/
theorem newestOf_eq_some {ok : Slot → Bool} {s : State} {k : Nat} (hk : k < 8) (passes : ok (slotAt s k) = true)
    (above : ∀ j, j < 8 → j ≠ k → ok (slotAt s j) = true → (slotAt s j).seq < (slotAt s k).seq) : newestOf ok s = some k := by
  have newest := newestOf_newest ok s
  cases is : newestOf ok s with
  | none => simp [newest.missing is k hk] at passes
  | some i =>
    obtain ⟨hi, pass, high⟩ := newest.found i is
    by_contra other
    exact absurd (above i hi (fun same => other (congrArg some same)) pass) (Nat.not_lt.2 (high k hk passes))

/-! ### The slot of the next STORE (R476) -/

/-- The slots in ring order, from the one after the newest. -/
def ringSlot (s : State) (i : Nat) : Nat := ((newestOf headerVerifies s).elim 0 (· + 1) + i) % 8

theorem nextSlot_eq (s : State) :
    nextSlot s = ((List.range 8).find? (fun i => !(slotAt s (ringSlot s i)).retired)).map (ringSlot s) := by
  unfold nextSlot ringSlot slotList
  rw [List.find?_map]
  cases newestOf headerVerifies s <;> rfl

/-- Every slot has its place in the ring. -/
theorem ringSlot_surjective (s : State) {k : Nat} (hk : k < 8) : ∃ i, i < 8 ∧ ringSlot s i = k := by
  unfold ringSlot
  generalize (newestOf headerVerifies s).elim 0 (· + 1) = start
  exact ⟨(k + 7 * start) % 8, by omega, by omega⟩

theorem nextSlot_some {s : State} {k : Nat} (is : nextSlot s = some k) : k < 8 ∧ (slotAt s k).retired = false ∧
    ∃ i, i < 8 ∧ k = ringSlot s i ∧ ∀ j, j < i → (slotAt s (ringSlot s j)).retired = true := by
  rw [nextSlot_eq] at is
  obtain ⟨i, first, rfl⟩ := Option.map_eq_some_iff.1 is
  obtain ⟨live, hi, earlier⟩ := List.find?_range_eq_some.1 first
  exact ⟨Nat.mod_lt _ (by decide), by simpa using live, i, List.mem_range.1 hi, rfl, fun j hj => by simpa using earlier j hj⟩

theorem nextSlot_none {s : State} (is : nextSlot s = none) : liveSlots s = 0 := by
  rw [nextSlot_eq, Option.map_eq_none_iff, List.find?_eq_none] at is
  refine List.length_eq_zero_iff.2 (List.filter_eq_nil_iff.2 fun k mem => ?_)
  obtain ⟨i, hi, rfl⟩ := ringSlot_surjective s (List.mem_range.1 mem)
  exact is i (List.mem_range.2 hi)

/-- Settles O21: the newest of the slots that pass, and the first one in ring order that is not RETIRED. -/
theorem slotsAreChosenBySequence : Obligations.SlotsAreChosenBySequence := by
  unfold Obligations.SlotsAreChosenBySequence
  exact fun ok s => ⟨(newestOf_newest ok s).found, (newestOf_newest ok s).missing, fun _ is => nextSlot_some is, nextSlot_none⟩

end Sys2Proof.Laws
end

section
/-! RECALL of an undamaged array (R484-R486): what a STORE has programmed comes back, device and Pods. -/

namespace Sys2Proof.Laws

open Sys2Proof.Machine

/-! ### What RECALL loads stays as it is loaded -/

/-- Of what RECALL has loaded, the values of the Pods and its own record stand too. -/
structure RecallStep (s t : State) : Prop extends BootStep s t where
  values : ∀ p, p < 64 → (podAt t p).values = (podAt s p).values
  activeGen : ∀ p, p < 64 → (podAt t p).activeGen = (podAt s p).activeGen
  recallRec : t.shell.recallRec = s.shell.recallRec

theorem BootStep.recall {s t : State} (boot : BootStep s t) (pods : t.pods = s.pods) (record : t.shell.recallRec = s.shell.recallRec) :
    RecallStep s t :=
  ⟨boot, fun p _ => by rw [podAt_of_pods pods], fun p _ => by rw [podAt_of_pods pods], record⟩

theorem RecallStep.refl (s : State) : RecallStep s s := (BootStep.refl s).recall rfl rfl

theorem RecallStep.trans {s t u : State} (a : RecallStep s t) (b : RecallStep t u) : RecallStep s u :=
  ⟨a.toBootStep.trans b.toBootStep, fun p hp => (b.values p hp).trans (a.values p hp),
    fun p hp => (b.activeGen p hp).trans (a.activeGen p hp), b.recallRec.trans a.recallRec⟩

theorem RecallStep.ite {c : Prop} [Decidable c] {s t u : State} (a : RecallStep s t) (b : RecallStep s u) :
    RecallStep s (if c then t else u) := by
  split <;> assumption

theorem timeGap_recall (kind : Nat) (before after : Tick) (uncertainty : Nat) (s : State) :
    RecallStep s (timeGap kind before after uncertainty s) := by
  refine (timeGap_boot ..).recall ?_ ?_
  · unfold timeGap
    rw [logAdd_only]
  · unfold timeGap
    obtain ⟨q, n, lost, shell⟩ := logAdd_shell 7 0xFF kind (beOctets 8 after ++ beOctets 4 uncertainty)
      { s with time := { s.time with gapCount := wrap32 (s.time.gapCount + 1), lastGap := ⟨kind, before, after, uncertainty⟩ } }
    rw [shell]

theorem raise_recall {s : State} (unarmed : s.guard.armed = false) (c : FaultClass) (p source detail : Nat) :
    RecallStep s (raise c p source detail s) := by
  obtain ⟨g, only⟩ := raise_unarmed unarmed c p source detail
  exact (raise_boot unarmed ..).recall (by rw [only]) (by rw [only])

theorem liveFaults_recall {s : State} (unarmed : s.guard.armed = false) : RecallStep s (liveFaults s) := by
  unfold liveFaults
  extract_lets s1
  have few : RecallStep s s1 := .ite (raise_recall unarmed ..) (.refl s)
  exact .ite (few.trans (raise_recall (few.armed.trans unarmed) ..)) few

theorem setOsc_recall (k : Nat) (o : Osc) (cause : Nat) (s : State) : RecallStep s (setOsc k o cause s) :=
  (setOsc_boot ..).recall (by rw [setOsc_only]) (by rw [setOsc_only])

theorem startOsc_recall (k : Nat) (s : State) : RecallStep s (startOsc k s) := .ite (.refl s) (setOsc_recall ..)

theorem setMux_recall (k : Nat) (m : Mux) (cause : Nat) (s : State) : RecallStep s (setMux k m cause s) := by
  obtain ⟨o, only⟩ := setMux_only k m cause s
  exact (setMux_boot ..).recall (by rw [only]) (by rw [only])

/-- R426: of a Pod, a freeze of HUSK is noted in its doze record alone. -/
theorem noteHuskFreeze_recall (s : State) : RecallStep s (noteHuskFreeze s) := by
  have noted {p : Nat} (hp : p < 64) : podAt (noteHuskFreeze s) p =
      if sentinelCounts (podAt s p) then
        { podAt s p with doze := { (podAt s p).doze with flags := setBit (podAt s p).doze.flags 2 } }
      else podAt s p := by
    simp [podAt, noteHuskFreeze, Vector.getD, hp]
  refine ⟨⟨rfl, rfl, rfl, rfl, rfl, rfl⟩, fun p hp => ?_, fun p hp => ?_, rfl⟩ <;> rw [noted hp] <;> split <;> rfl

theorem huskFreeze_recall (s : State) : RecallStep s (huskFreeze s) := by
  unfold huskFreeze
  refine .ite (.refl s) (.trans ?_ (noteHuskFreeze_recall _))
  exact BootStep.recall ⟨rfl, rfl, rfl, rfl, rfl, rfl⟩ rfl rfl

theorem lfxoSet_recall (on : Bool) (s : State) : RecallStep s (lfxoSet on s) := by
  unfold lfxoSet
  refine .ite (startOsc_recall ..) ?_
  extract_lets s1
  have moved : RecallStep s s1 := (setOsc_recall ..).trans (startOsc_recall ..)
  simp only [putMux_husk]
  exact .ite (.ite (moved.trans (setMux_recall ..)) (moved.trans ((setMux_recall ..).trans (huskFreeze_recall _)))) moved

/-! ### RECALL from the newest slot -/

/-- Without damage the array is as it stood. -/
theorem damageArray_none (s : State) : damageArray ⟨[], [], [], []⟩ s = s := by
  have untouched {α : Type} {n : Nat} (v : Vector α n) : v.zipIdx.map (fun e => e.1) = v := by
    ext i hi
    simp
  unfold damageArray
  simp only [List.contains_nil, Bool.false_and, Bool.false_eq_true, if_false, untouched]

theorem podAt_zipIdx {s t : State} {f : Pod × Nat → Pod} (pods : t.pods = s.pods.zipIdx.map f) {p : Nat} (hp : p < 64) :
    podAt t p = f (podAt s p, p) := by
  simp [podAt, pods, Vector.getD, hp]

/-- R484, R485: where the newest header stands before a good image, RECALL records it as outcome 1, and every Pod takes its values from it. -/
theorem recallRun_newest (x : Damage) {s : State} (unarmed : s.guard.armed = false) {k : Nat}
    (verifies : newestOf slotVerifies (damageArray x s) = some k) (newest : newestOf headerVerifies (damageArray x s) = some k) :
    (recallRun x s).chip.activeGen = (slotAt (damageArray x s) k).image.devGen ∧ (recallRun x s).shell.recallRec.outcome = 1 ∧
      (recallRun x s).shell.recallRec.slot = k ∧ (recallRun x s).shell.recallRec.seq = (slotAt (damageArray x s) k).seq ∧
      ∀ p, p < 64 → (podAt (recallRun x s) p).values = (slotAt (damageArray x s) k).image.pods.getD p [] ∧
        (podAt (recallRun x s) p).activeGen = (slotAt (damageArray x s) k).image.gens.getD p 0 := by
  unfold recallRun
  extract_lets s1 newest' loaded blank outcome img n src fromBank bad failed off podsOff stamp0 _ _ _ _ s2 s3 s4 s5
  have gap : RecallStep s2 s3 := .ite (timeGap_recall ..) (.refl s2)
  have unarmed3 : s3.guard.armed = false := gap.armed.trans unarmed
  have raised : RecallStep s2 s4 := gap.trans (.ite (raise_recall unarmed3 ..) (.refl s3))
  have lfxo : RecallStep s2 s5 := raised.trans (.ite (lfxoSet_recall ..) (.refl s4))
  have done : RecallStep s2 (liveFaults s5) := lfxo.trans (liveFaults_recall (lfxo.armed.trans unarmed))
  have image : img = some (slotAt s1 k).image := congrArg (Option.map fun k => (slotAt s1 k).image) verifies
  have first : outcome = 1 := by
    show (match newestOf slotVerifies s1 with
      | some k => if newestOf headerVerifies s1 = some k then 1 else 2
      | none => if blank then 4 else 3) = 1
    rw [verifies, newest]
    exact if_pos rfl
  have taken : loaded = some k := verifies
  rw [done.chip, done.recallRec]
  clear_value img outcome loaded
  subst image first taken
  refine ⟨rfl, rfl, rfl, rfl, fun p hp => ?_⟩
  rw [done.values p hp, done.activeGen p hp, podAt_zipIdx (s := s1) (t := s2) rfl hp]
  exact ⟨rfl, rfl⟩

theorem exec_recall_runs {s : State} (boot : s.chip.state = .boot) (noReset : s.chip.reset = none) (powered : booted s 0 = true)
    (fresh : booted s 2 = false) (hfrc : qualified s 3 = true) (high : s.chip.resetLow = false) (x : Damage) :
    exec (.recall x) s = .next (recallRun x s) :=
  congrArg Host.Outcome.next (if_pos (by simp [boot, noReset, powered, fresh, hfrc, high]))

/-- Settles O43: the programmed slot verifies with the highest sequence, so it is the newest by its header and by its image, and
RECALL takes it. -/
theorem programmedImageIsRecalled : Obligations.ProgrammedImageIsRecalled := by
  unfold Obligations.ProgrammedImageIsRecalled
  intro r s b running phase hk small below same boot noReset powered fresh hfrc high unarmed
  have written : b.shell.slots = putAt s.shell.slots r.slot (programmedSlot r (slotAt s r.slot)) :=
    same.trans (programEnds_programmed running phase).1
  have here : slotAt b r.slot = programmedSlot r (slotAt s r.slot) := slotAt_put_same written hk
  have seq : (slotAt b r.slot).seq = r.seq := by rw [here, programmedSlot_seq, Nat.mod_eq_of_lt small]
  have above (j : Nat) (hj : j < 8) (other : j ≠ r.slot) (good : headerVerifies (slotAt b j) = true) :
      (slotAt b j).seq < (slotAt b r.slot).seq := by
    rw [slotAt_put_ne written other] at good ⊢
    rw [seq]
    exact below j hj other good
  have newest : newestOf headerVerifies b = some r.slot :=
    newestOf_eq_some hk (by rw [here]; exact programmedSlot_headerVerifies ..) above
  have verifies : newestOf slotVerifies b = some r.slot :=
    newestOf_eq_some hk (by rw [here]; exact programmedSlot_slotVerifies ..)
      fun j hj other good => above j hj other (Bool.and_eq_true_iff.1 good).1
  have whole := damageArray_none b
  rw [← whole] at verifies newest
  obtain ⟨-, -, -, dict, -⟩ := recallRun_recalled ⟨[], [], [], []⟩ unarmed
  obtain ⟨values, keys⟩ := dict r.slot verifies
  obtain ⟨gen, outcome, slot, number, pods⟩ := recallRun_newest ⟨[], [], [], []⟩ unarmed verifies newest
  rw [whole] at values keys gen number pods
  rw [seq] at number
  rw [here] at values keys gen pods
  exact ⟨_, exec_recall_runs boot noReset powered fresh hfrc high _, values, keys, gen, outcome, slot, number, pods⟩

end Sys2Proof.Laws
end

section
/-! A STORE from its request to its VERIFY (R470-R474, R477, R523). -/

namespace Sys2Proof.Laws

open Sys2Proof.Machine

/-! ### The request of a STORE -/

/-- What a STORE that starts begins with (R470). -/
def startedRun (k reasons : Nat) (s : State) : StoreRun :=
  ⟨1, k, reasons, false, s.time.elapsed, wrap32 (s.shell.counter + 1), s.time.stamp, timeQuality s, 0, .blank, s.shell.blocks⟩

/-- R470, R476: with no STORE in progress and a slot to take, a request starts one; the chip and the engine go on as they were. -/
theorem requestStore_starts {s : State} {k : Nat} (idle : s.shell.run = none) (slot : nextSlot s = some k) (reason : Nat) :
    (requestStore reason s).chip = s.chip ∧ (requestStore reason s).engine = s.engine ∧
      (requestStore reason s).shell = { s.shell with
        counter := wrap32 (s.shell.counter + 1), abortedSlot := none, run := some (startedRun k (2 ^ reason) s) } := by
  unfold requestStore startStoreOn
  simp only [idle, slot, Option.isSome_none, Bool.false_eq_true, if_false]
  generalize hu : State.mk .. = u
  have clocked (c : Prop) [Decidable c] :
      OuterStep u (if c then startOsc 3 u else u) ∧ (if c then startOsc 3 u else u).shell = u.shell :=
    ⟨.ite (startOsc_outer 3 u) (.refl u), by split; exacts [startOsc_shell 3 u, rfl]⟩
  obtain ⟨outer, shell⟩ := clocked (s.chip.state = .standby)
  rw [traceStore, traceAdd_only]
  exact ⟨outer.chip.trans (by rw [← hu]), outer.engine.trans (by rw [← hu]), shell.trans (by rw [← hu]; rfl)⟩

/-! ### `Shell.Command` (R473) -/

/-- `Shell.Command`. -/
def shellCommandPlace : Place := ⟨none, ⟨0x2200, .simple .u32, 1, some 1, .hot, .each 0, .any, none, false, false, false⟩⟩

theorem commandAt_shell : CommandAt 0x2200 shellCommandPlace := ⟨rfl, rfl, rfl, rfl, rfl⟩

/-- The STORE command reaches the Shell without a lane between, and waits for nothing. -/
theorem commandWrite_store {who : Who} (high : 1 ≤ who.level.val) (s : State) :
    commandWrite who shellCommandPlace 1 true s = answered (storeCommand 1 0 s).1 (storeCommand 1 0 s).2 := by
  simp [commandWrite, commandLevel, shellCommandPlace, Nat.not_lt.2 high, Place.unreachable, Place.laneServed, laneOf, commandWait, answered]

theorem storeRow_answers {who : Who} {st : Nat} {s t : State} (h : EngineFree s) (high : 1 ≤ who.level.val)
    (run : storeCommand 1 0 s = (st, t)) (engine : t.engine = s.engine) (chip : t.chip = s.chip) :
    rowCommand who 0x2200 1 0 s = withLast st t := by
  rw [commandAt_shell.rowCommand]
  refine rowRun_answers h ((commandAt_shell.doItem high _ s).trans ((commandWrite_store high s).trans ?_)) engine (by rw [chip])
  rw [run]
  rfl

/-- The STORE command as it reads back (R473). -/
def storeNoted (completion : Nat) (s : State) : State := { s with shell := { s.shell with command := commandWord 1 0 completion } }

theorem storeCommand_first {s : State} (never : s.shell.lastCommandEnd = none) (free : contained s 2 = false) :
    storeCommand 1 0 s = (stOk, requestStore 1 (storeNoted 1 s)) := by
  simp [storeCommand, storeNoted, never, free]

/-- R473: the next one within a minute of the last is refused. -/
theorem storeCommand_soon {s : State} {t0 : Tick} (ended : s.shell.lastCommandEnd = some t0)
    (soon : s.time.elapsed < t0 + 60 * 65536000) : storeCommand 1 0 s = (stWrongState, storeNoted 3 s) := by
  simp [storeCommand, storeNoted, ended, soon]

/-! ### CAPTURE -/

/-- Dormant transfers leave the dictionary alone (R429). -/
theorem transferAll_dict (absent : List Nat) (s : State) : (transferAll absent s).dict = s.dict := by
  unfold transferAll onPods
  refine List.foldlRecOn (motive := fun t : State => t.dict = s.dict) podList _ rfl fun t kept p _ => Eq.trans ?_ kept
  dsimp only
  split_ifs
  · rfl
  · rw [cacheAfter_only]
    rfl

/-- R464, R470: CAPTURE takes the values in effect and the keys, and goes on to PROGRAM. -/
theorem captureEnds_captured {r : StoreRun} {s : State} (running : s.shell.run = some r) (phase : r.phase = 1) :
    (∃ q, (captureEnds [] s).shell.run = some q ∧ q.phase = 2 ∧ q.slot = r.slot ∧ q.seq = r.seq ∧
      q.image.dev = s.dict.values ∧ q.image.keys = s.dict.keys) ∧ (captureEnds [] s).shell.slots = s.shell.slots := by
  unfold captureEnds
  simp only [running, phase, ne_eq, not_true_eq_false, if_false, laneTimeouts_none (ps := []) (by simp)]
  have transferred : (if podsHoldEnergy s = true then transferAll [] s else s).shell = s.shell ∧
      (if podsHoldEnergy s = true then transferAll [] s else s).dict = s.dict := by
    split
    · exact ⟨(transferAll_transferred [] s).shell, transferAll_dict [] s⟩
    · exact ⟨rfl, rfl⟩
  obtain ⟨shell, dict⟩ := transferred
  generalize (if podsHoldEnergy s = true then transferAll [] s else s) = u at shell dict ⊢
  rw [traceStore, traceAdd_only, ← shell, ← dict]
  exact ⟨⟨_, rfl, rfl, rfl, rfl, rfl, rfl⟩, rfl⟩

/-! ### A good VERIFY -/

theorem closeSeals_storeKept (good : Bool) (s : State) : StoreKept s (closeSeals good s) := by
  unfold closeSeals onPods
  refine .foldl (fun s p => ?_) podList s
  dsimp only
  exact .ite (.ite ((modPod_storeKept ..).trans (modPod_storeKept ..)) (modPod_storeKept ..)) (.refl s)

theorem storeTriggers_storeKept (reasons outcome : Nat) (s : State) : StoreKept s (storeTriggers reasons outcome s) := by
  unfold storeTriggers
  extract_lets good _ s1
  have completed : StoreKept s s1 := .ite ⟨rfl, rfl, rfl, rfl, rfl, rfl⟩ (.refl s)
  exact .ite (completed.trans (closeSeals_storeKept ..)) completed

/-- R474: a STORE that succeeds is counted and recorded, and leaves the slots and the STORE that waits. -/
theorem storeEnds_succeeds {outcome : Nat} (good : outcome = 1 ∨ outcome = 2) (r : StoreRun) {s : State} (awake : s.chip.state ≠ .standby) :
    (storeEnds r outcome s).shell.run = none ∧ (storeEnds r outcome s).shell.last.outcome = outcome ∧
      (storeEnds r outcome s).shell.last.seq = r.seq ∧ (storeEnds r outcome s).shell.stores = wrap32 (s.shell.stores + 1) ∧
      (storeEnds r outcome s).shell.failures = s.shell.failures ∧ (storeEnds r outcome s).shell.slots = s.shell.slots ∧
      (storeEnds r outcome s).shell.pending = s.shell.pending := by
  have noFailure : ¬ (outcome = 3 ∨ outcome = 5) := by omega
  unfold storeEnds
  simp only [if_neg awake, if_neg noFailure]
  generalize hu : State.mk .. = u
  have logged (c : Bool) : StoreKept u (if c then traceStore 0 r.slot r.reasons outcome u
      else logAdd 5 r.slot r.reasons (beOctets 4 r.seq ++ [outcome, liveSlots (traceStore 0 r.slot r.reasons outcome u), 0, 0] ++
        beOctets 4 (microsOf (s.time.elapsed - r.startedAt))) (traceStore 0 r.slot r.reasons outcome u)) :=
    .ite (traceAdd_storeKept ..) ((traceAdd_storeKept ..).trans (logAdd_storeKept ..))
  have kept := (logged ((outcome == 1 || outcome == 2) && r.reasons == 4)).trans (storeTriggers_storeKept r.reasons outcome _)
  rw [kept.run, kept.last, kept.stores, kept.failures, kept.slots, kept.pending, ← hu]
  exact ⟨rfl, rfl, rfl, rfl, rfl, rfl, rfl⟩

theorem FaultKept.quiet {s t : State} (kept : FaultKept s t) (q : Quiet s) : Quiet t := by
  obtain ⟨es, n, engine⟩ := kept.engine
  exact ⟨by rw [engine]; exact q.running, by rw [engine]; exact q.frames, kept.standby.trans q.standby, by rw [engine]; exact q.noSub⟩

/-- With no frame there is none to release (R477). -/
theorem releaseHeld_quiet {s : State} (q : Quiet s) : releaseHeld s = s := by
  unfold releaseHeld
  split
  · rfl
  · rw [q.frames, List.map_nil, ← q.frames]

theorem startPending_none {s : State} (nothing : s.shell.pending = 0) : startPending s = s := by
  simp [startPending, nothing]

/-- R474, R477: with an engine that has no work and no other STORE waiting, a good VERIFY ends the STORE, and nothing follows. -/
theorem execVerify_good {r : StoreRun} {s : State} (running : s.shell.run = some r) (phase : r.phase = 3) (waits : s.shell.pending = 0)
    (active : s.chip.state = .active) (q : Quiet s) : execVerify true s = .next (storeEnds r (if r.repeated = true then 2 else 1) s) := by
  have ends : verifyEnds true s = storeEnds r (if r.repeated = true then 2 else 1) s := by
    simp only [verifyEnds, running, phase, ne_eq, not_true_eq_false, if_false, if_true]
  have good : (if r.repeated = true then 2 else 1) = 1 ∨ (if r.repeated = true then 2 else 1) = 2 := by split <;> simp
  have quiet : Quiet (storeEnds r (if r.repeated = true then 2 else 1) s) := (storeEnds_kept ..).quiet q
  obtain ⟨-, -, -, -, -, -, pending⟩ := storeEnds_succeeds good r (s := s) (by rw [active]; decide)
  unfold execVerify
  simp only [ends, active, reduceCtorEq, false_and, if_false]
  rw [releaseHeld_quiet quiet, settle_quiet quiet, startPending_none (pending.trans waits), settle_quiet quiet]

/-- Settles O42: the command and the checkpoint, the start, CAPTURE, PROGRAM, the two without a clock, and a good VERIFY. -/
theorem storesRun : Obligations.StoresRun := by
  unfold Obligations.StoresRun
  refine ⟨fun who s h high free never slots => ?_, fun who t0 s h high ended soon => ?_, fun s state free due => ?_, fun s notDue => ?_,
    fun reason k s idle slot => ?_, fun r s running phase clocked => ?_, fun r s running phase hk clocked => ?_,
    fun s stopped => ⟨congrArg Host.Outcome.next (if_neg (by simp [stopped])), congrArg Host.Outcome.next (if_neg (by simp [stopped]))⟩,
    fun r s running phase waits active wanted engine _ frames noSub => ?_⟩
  · obtain ⟨k, slot⟩ := Option.ne_none_iff_exists'.1 slots
    obtain ⟨chip, engine, -⟩ := requestStore_starts (s := storeNoted 1 s) h.noStore ((nextSlot_of_slots rfl).trans slot) 1
    exact congrArg Host.Outcome.next (storeRow_answers h high (storeCommand_first never free) engine chip)
  · exact congrArg Host.Outcome.next (storeRow_answers h high (storeCommand_soon ended soon) rfl rfl)
  · exact congrArg Host.Outcome.next (if_pos ⟨state, by simp [free], due⟩)
  · refine congrArg Host.Outcome.next (if_neg ?_)
    rintro ⟨-, free, due⟩
    rcases notDue with held | early
    · simp [held] at free
    · exact absurd due (Nat.not_le.2 early)
  · obtain ⟨-, -, shell⟩ := requestStore_starts idle slot reason
    rw [shell]
    exact ⟨_, rfl, rfl, rfl, rfl, rfl, rfl⟩
  · obtain ⟨⟨q, captured⟩, slots⟩ := captureEnds_captured running phase
    obtain ⟨now, next, slot, seq, dev, keys⟩ := captured
    exact ⟨_, congrArg Host.Outcome.next (if_pos clocked), q, now, next, slot, seq, dev, keys, slots⟩
  · obtain ⟨slots, next⟩ := programEnds_programmed running phase
    refine ⟨_, congrArg Host.Outcome.next (if_pos clocked), next, ?_⟩
    rw [slotAt_put_same slots hk]
    exact ⟨programmedSlot_slotVerifies .., programmedSlot_seq .., programmedSlot_reason .., programmedSlot_wear .., rfl, rfl, rfl,
      fun k _ other => slotAt_put_ne slots other⟩
  · obtain ⟨ended, outcome, seq, stores, failures, slots, -⟩ :=
      storeEnds_succeeds (outcome := if r.repeated = true then 2 else 1) (by split <;> simp) r (s := s) (by rw [active]; decide)
    exact ⟨_, execVerify_good running phase waits active ⟨engine, frames, wanted, noSub⟩, ended, outcome, seq, stores, failures, slots⟩

end Sys2Proof.Laws
end

section
/-! The black-box log (R492, R495): records are appended in order through the queue. -/

namespace Sys2Proof.Laws

open Sys2Proof.Machine

/-- R495: with nothing waiting, or before the log scan, no record is written. -/
theorem appendLog_still {s : State} (still : s.shell.queue = [] ∨ s.shell.logReady = false) : appendLog s = s := by
  unfold appendLog
  cases queue : s.shell.queue with
  | nil => rfl
  | cons x rest =>
    rcases still with empty | scanning
    · simp [queue] at empty
    · simp [scanning]

/-- R492: the oldest record goes to the next index with the next sequence. -/
theorem appendLog_cons {x : LogRec} {rest : List LogRec} {s : State} (ready : s.shell.logReady = true) (queue : s.shell.queue = x :: rest) :
    appendLog s = hubCount 6 { s with shell := { s.shell with
      queue := rest, logSeq := wrap32 (s.shell.logSeq + 1), nextIndex := (s.shell.nextIndex + 1) % 768,
      general := s.shell.general.filter (fun e => e.1 != s.shell.nextIndex) ++
        [(s.shell.nextIndex, { x with seq := wrap32 (s.shell.logSeq + 1), damaged := false })] } } := by
  simp only [appendLog, queue, ready, Bool.not_true, Bool.false_eq_true, if_false]

section
variable (kind inst detail : Nat) (payload : List Nat) {s : State}

theorem logAdd_room (lossless : s.shell.drops = 0) (room : s.shell.queue.length < 16) :
    logAdd kind inst detail payload s = { s with shell := { s.shell with queue := s.shell.queue ++ [logRecOf s kind inst detail payload] } } := by
  simp only [logAdd, if_neg (Nat.not_le.2 room), if_pos lossless]

theorem logAdd_full (full : 16 ≤ s.shell.queue.length) :
    (logAdd kind inst detail payload s).shell.queue = s.shell.queue ∧ (logAdd kind inst detail payload s).shell.drops = s.shell.drops + 1 := by
  simp only [logAdd, if_pos full]
  exact ⟨rfl, rfl⟩

end

/-- Settles O44: an append that writes and one that does not, and the two ends of the queue. -/
theorem logAppendsInOrder : Obligations.LogAppendsInOrder := by
  unfold Obligations.LogAppendsInOrder
  exact ⟨fun _ _ _ ready queue => congrArg Host.Outcome.next (appendLog_cons ready queue),
    fun _ still => congrArg Host.Outcome.next (appendLog_still still),
    fun kind inst detail payload _ lossless room => logAdd_room kind inst detail payload lossless room,
    fun kind inst detail payload _ full => logAdd_full kind inst detail payload full⟩

end Sys2Proof.Laws
end

section
/-! The acknowledgement of Guard's occurrences (R515, R516). -/

namespace Sys2Proof.Laws

open Sys2Proof.Machine

/-! ### What an acknowledgement does to each `Inst` -/

/-- An occurrence as an acknowledgement leaves it: from L1 on it is acknowledged and its timer has stopped. -/
def ackedOcc (o : Occ) : Occ := if 1 ≤ o.level then { o with acked := true, timer := none, timing := false } else o

/-- An `Inst` whose occurrences are acknowledged, before those that end with it have gone (R525). -/
def ackedInst (i : Inst) : Inst := { i with occs := i.occs.map ackedOcc }

/-- An `Inst` with the occurrences that go on (R525). -/
def lastingInst (i : Inst) : Inst := { i with occs := i.occs.filter (fun o => !occEnds o) }

theorem ackedInst_not_unacked (i : Inst) : (lastingInst (ackedInst i)).unacked = false := by
  have acked (o : Occ) : 1 ≤ (ackedOcc o).level → (ackedOcc o).acked = true := by
    unfold ackedOcc
    split
    · exact fun _ => rfl
    · exact fun high => absurd high ‹_›
  refine List.any_eq_false.2 fun o mem => ?_
  obtain ⟨before, -, rfl⟩ := List.mem_map.1 (List.mem_of_mem_filter mem)
  simpa using acked before

theorem instIndex_lt (c : FaultClass) (p : Fin 64) : instIndex c p.val < 72 := by
  have := p.isLt
  unfold instIndex
  cases c <;> dsimp only <;> omega

/-- What ends goes from its own `Inst` alone. -/
theorem instAt_dropEnded (k j : Nat) (s : State) : instAt (dropEnded k s) j = instAt (modInst k lastingInst s) j := by
  unfold dropEnded
  dsimp only
  split <;> rfl

theorem instAt_histAdd (c : FaultClass) (p source action flags detail before : Nat) (logged notified : Bool) (s : State) (k : Nat) :
    instAt (histAdd c p source action flags detail before logged notified s) k = instAt s k := by
  unfold instAt
  rw [(histAdd_recorded ..).insts]

/-- R515: with nothing to acknowledge, an acknowledgement leaves the state as it is. -/
theorem ackInst_acked {c : FaultClass} {p : Nat} {s : State} (acked : (instAt s (instIndex c p)).unacked = false) : ackInst c p s = s := by
  unfold ackInst
  simp [acked]

/-- An acknowledgement that finds something shows in each `Inst` as the acknowledgement and the end of what it ends. -/
theorem instAt_ackInst {c : FaultClass} {p : Nat} {s : State} (unacked : (instAt s (instIndex c p)).unacked = true) (k : Nat) :
    instAt (ackInst c p s) k = instAt (modInst (instIndex c p) lastingInst (modInst (instIndex c p) ackedInst s)) k := by
  unfold ackInst
  simp only [unacked, Bool.not_true, Bool.false_eq_true, if_false]
  exact (instAt_histAdd ..).trans (instAt_dropEnded ..)

theorem ackInst_not_unacked (c : FaultClass) (p : Fin 64) (s : State) :
    (instAt (ackInst c p.val s) (instIndex c p.val)).unacked = false := by
  cases found : (instAt s (instIndex c p.val)).unacked with
  | false => rwa [ackInst_acked found]
  | true =>
    rw [instAt_ackInst found, instAt_modInst (instIndex_lt c p), instAt_modInst (instIndex_lt c p)]
    exact ackedInst_not_unacked _

theorem instAt_ackInst_ne {c : FaultClass} {p k : Nat} (other : k ≠ instIndex c p) (s : State) :
    instAt (ackInst c p s) k = instAt s k := by
  cases found : (instAt s (instIndex c p)).unacked with
  | false => rw [ackInst_acked found]
  | true => rw [instAt_ackInst found, instAt_modInst_ne other, instAt_modInst_ne other]

/-! ### An acknowledgement stays with Guard and the records -/

theorem ackInst_outer (c : FaultClass) (p : Nat) (s : State) : OuterStep s (ackInst c p s) := by
  unfold ackInst
  extract_lets k i s1 s2
  have acked : OuterStep s s1 := ⟨rfl, rfl, rfl, rfl⟩
  exact .ite (.refl s) (acked.trans ((dropEnded_outer ..).trans (histAdd_outer ..)))

theorem ackAllInsts_outer (s : State) : OuterStep s (ackAllInsts s) := by
  unfold ackAllInsts
  apply OuterStep.foldl
  exact fun t cp => ackInst_outer cp.1 cp.2 t

/-! ### `Guard.Command` (R515) -/

/-- An acknowledgement as its command object reads back: completed. -/
def guardNoted (code arg : Nat) (s : State) : State := { s with guard := { s.guard with command := commandWord code arg 2 } }

theorem guardNoted_outer (code arg : Nat) (s : State) : OuterStep s (guardNoted code arg s) := ⟨rfl, rfl, rfl, rfl⟩

/-- How many of `Inst` a class has (R503): one per Pod for POD, else one. -/
def instCount (c : FaultClass) : Nat := if c = .pod then 64 else 1

theorem classOfCode_le {k : Nat} {c : FaultClass} (named : classOfCode k = some c) : k ≤ 8 := by
  unfold classOfCode at named
  split_ifs at named <;> omega

theorem classOfCode_none {k : Nat} (unnamed : k = 0 ∨ 9 ≤ k) : classOfCode k = none := by
  rcases unnamed with rfl | above
  · rfl
  · cases named : classOfCode k with
    | none => rfl
    | some c => exact absurd (classOfCode_le named) (by omega)

theorem guardCommand_ackAll (s : State) : guardCommand 0x10 0 s = (stOk, guardNoted 0x10 0 (ackAllInsts s)) := rfl

section
variable {k : Nat} {c : FaultClass}

/-- A code of a class decides by its argument: a Pod number for POD, else 0. -/
theorem guardCommand_class (first : 1 ≤ k) (named : classOfCode k = some c) (arg : Nat) (s : State) :
    guardCommand (0x0100 + k) arg s =
      if arg < instCount c then (stOk, guardNoted (0x0100 + k) arg (ackInst c arg s)) else (stBadValue, s) := by
  have notAll : ¬ (0x0100 + k = 0x0010 ∧ arg = 0) := by omega
  have outside : (0x0100 + k < 0x0101 ∨ if c = .pod then 64 ≤ arg else arg ≠ 0) ↔ ¬ arg < instCount c := by
    unfold instCount
    split <;> omega
  unfold guardCommand
  simp only [if_neg notAll, Nat.add_sub_cancel_left, named, outside, ite_not]
  rfl

theorem guardCommand_badCode {code : Nat} (bad : (code ≤ 0x0100 ∧ code ≠ 0x0010) ∨ 0x0109 ≤ code) (arg : Nat) (s : State) :
    guardCommand code arg s = (stBadValue, s) := by
  have notAll : ¬ (code = 0x0010 ∧ arg = 0) := by omega
  unfold guardCommand
  simp only [if_neg notAll, classOfCode_none (k := code - 0x0100) (by omega)]

end

/-- `Guard.Command`. -/
def guardCommandPlace : Place := ⟨none, ⟨0x2300, .simple .u32, 1, some 1, .hot, .each 0, .any, none, false, false, false⟩⟩

theorem commandAt_guard : CommandAt 0x2300 guardCommandPlace := ⟨rfl, rfl, rfl, rfl, rfl⟩

/-! ### The rows -/

section
variable {who : Who} {s t : State} {code arg st : Nat}

/-- A word for Guard reaches `guardCommand` without a lane between, and waits for nothing. -/
theorem commandWrite_guard (high : 1 ≤ who.level.val) (value : Nat) (s : State) :
    commandWrite who guardCommandPlace value true s =
      answered (guardCommand (value % 65536) (value / 65536 % 256) s).1 (guardCommand (value % 65536) (value / 65536 % 256) s).2 := by
  simp [commandWrite, commandLevel, guardCommandPlace, Nat.not_lt.2 high, Place.unreachable, Place.laneServed, laneOf, commandWait, answered]

/-- A command of Guard is answered at once: it stays with Guard and the records. -/
theorem guardRow_answers (h : EngineFree s) (high : 1 ≤ who.level.val) (small : code < 65536)
    (run : guardCommand code (arg % 256) s = (st, t)) (outer : OuterStep s t) : rowCommand who 0x2300 code arg s = withLast st t := by
  obtain ⟨codeIs, argIs⟩ := commandValue_parts small arg
  rw [commandAt_guard.rowCommand]
  refine rowRun_answers h ((commandAt_guard.doItem high _ s).trans ((commandWrite_guard high _ s).trans ?_)) outer.engine (by rw [outer.chip])
  rw [codeIs, argIs, run]
  rfl

theorem execGuardAck_row (small : code < 65536) (who : Who) (arg : Nat) (s : State) :
    exec (.guardAck who code arg) s = .next (rowCommand who 0x2300 code arg s) := by
  show Host.Outcome.next (rowWrite who 0x2300 0 (code % 65536 + arg % 256 * 65536) s) = _
  rw [Nat.mod_eq_of_lt small]
  rfl

theorem guardRow_ackAll (h : EngineFree s) (high : 1 ≤ who.level.val) :
    rowCommand who 0x2300 0x10 0 s = withLast stOk (guardNoted 0x10 0 (ackAllInsts s)) :=
  guardRow_answers h high (by decide) (guardCommand_ackAll s) ((ackAllInsts_outer s).trans (guardNoted_outer ..))

theorem execGuardAck_named {k : Nat} {c : FaultClass} (h : EngineFree s) (high : 1 ≤ who.level.val) (first : 1 ≤ k)
    (named : classOfCode k = some c) (octet : arg < 256) (inside : arg < instCount c) :
    exec (.guardAck who (0x0100 + k) arg) s = .next (withLast stOk (guardNoted (0x0100 + k) arg (ackInst c arg s))) := by
  have last := classOfCode_le named
  have run : guardCommand (0x0100 + k) (arg % 256) s = (stOk, guardNoted (0x0100 + k) arg (ackInst c arg s)) := by
    rw [Nat.mod_eq_of_lt octet, guardCommand_class first named, if_pos inside]
  rw [execGuardAck_row (by omega)]
  exact congrArg Host.Outcome.next (guardRow_answers h high (by omega) run ((ackInst_outer ..).trans (guardNoted_outer ..)))

/-- R515: what names nothing to acknowledge is BAD_VALUE and leaves Guard as it stands. -/
theorem execGuardAck_badValue (h : EngineFree s) (high : 1 ≤ who.level.val) (small : code < 65536)
    (bad : guardCommand code (arg % 256) s = (stBadValue, s)) : exec (.guardAck who code arg) s = .next (withLast stBadValue s) := by
  rw [execGuardAck_row small]
  exact congrArg Host.Outcome.next (guardRow_answers h high small bad (.refl s))

end

/-- Settles O46: ACK-ALL, the ACK of a class by its argument, the codes that name none, the level, and each `Inst` after an ACK. -/
theorem guardIsAcknowledged : Obligations.GuardIsAcknowledged := by
  unfold Obligations.GuardIsAcknowledged
  refine ⟨fun who s h high => congrArg Host.Outcome.next (guardRow_ackAll h high),
    fun who k arg c s h high first named octet => ⟨fun inside => ?_, fun outside => ?_⟩,
    fun who code arg s h high bad small => execGuardAck_badValue h high small (guardCommand_badCode bad _ s),
    fun who s h low => congrArg Host.Outcome.next (commandAt_guard.rowCommand_denied h low 0x10 0),
    fun c p s => ⟨ackInst_not_unacked c p s, fun k _ other => instAt_ackInst_ne other s⟩⟩
  · exact execGuardAck_named h high first named octet inside
  · have last := classOfCode_le named
    refine execGuardAck_badValue h high (by omega) ?_
    rw [Nat.mod_eq_of_lt octet, guardCommand_class first named]
    exact if_neg (Nat.not_lt.2 outside)

end Sys2Proof.Laws
end

section
/-! Every command answers a next state; no command touches the queue of commands, and each keeps the bounds (R495, R521, R545, R629-R631, R688). -/

namespace Sys2Proof.Laws

open Sys2Proof.Machine

/-- Every command answers a next state, with the queue of commands and the bounds as `Ok` says, by the lemma about its arm. -/
theorem exec_ok {cs : List Instr} {I : Prop} {s : State} (c : Instr) (ok : Ok cs I s) : NextOk cs I (exec c s) :=
  match c with
  | .trunkStart _ => execTrunkStart_ok ok
  | .inrushEnd => execInrushEnd_ok ok
  | .startStop _ => execStartStop_ok ok
  | .powerOnResetRelease _ _ => execPowerOnResetRelease_ok ok
  | .holdCapMeasured _ => execHoldCapMeasured_ok ok
  | .holdReadyTimeout => execHoldReadyTimeout_ok ok
  | .monitorAdcSample _ _ _ _ => execMonitorAdcSample_ok ok
  | .railOutOfRange _ => execRailOutOfRange_ok ok
  | .powerFailWarning _ _ => execPowerFailWarning_ok ok
  | .snapshotEnd => execSnapshotEnd_ok ok
  | .holdEnd _ _ => execHoldEnd_ok ok
  | .reserveExhausted _ => execReserveExhausted_ok ok
  | .governorEvaluation => execGovernorEvaluation_ok ok
  | .restoreHoldExpiry _ => execRestoreHoldExpiry_ok ok
  | .podRankWrite _ _ _ => execPodRankWrite_ok ok
  | .dimFloorWrite _ _ => execDimFloorWrite_ok ok
  | .oscillationDetected _ => execOscillationDetected_ok ok
  | .oscillationLost _ => execOscillationLost_ok ok
  | .sourceQualified _ => execSourceQualified_ok ok
  | .startupLimitMissed _ => execStartupLimitMissed_ok ok
  | .spinePllLock => execSpinePllLock_ok ok
  | .spineLockLoss => execSpineLockLoss_ok ok
  | .spineRelockTimeout => execSpineRelockTimeout_ok ok
  | .monitorTrip _ _ => execMonitorTrip_ok ok
  | .rescueRelease _ => execRescueRelease_ok ok
  | .rescueWaitTimeout _ => execRescueWaitTimeout_ok ok
  | .backstopTrip _ _ => execBackstopTrip_ok ok
  | .switchHusk _ _ => execSwitchHusk_ok ok
  | .switchCore _ _ => execSwitchCore_ok ok
  | .switchSpineref _ _ => execSwitchSpineref_ok ok
  | .switchTrace _ _ => execSwitchTrace_ok ok
  | .switchStart _ => execSwitchStart_ok ok
  | .switchComplete _ => execSwitchComplete_ok ok
  | .automaticReturn _ => execAutomaticReturn_ok ok
  | .lfxoEnable _ _ => execLfxoEnable_ok ok
  | .hfrcMeasure _ => execHfrcMeasure_ok ok
  | .brcEstimate _ => execBrcEstimate_ok ok
  | .brcPause => execBrcPause_ok ok
  | .lfxoDiscipline _ => execLfxoDiscipline_ok ok
  | .timeSlewEnd => execTimeSlewEnd_ok ok
  | .framePeriodUpdate _ => execFramePeriodUpdate_ok ok
  | .rcFrameRateFault _ _ _ => execRcFrameRateFault_ok ok
  | .recall _ => execRecall_ok ok
  | .logScan _ => execLogScan_ok ok
  | .guardArming => execGuardArming_ok ok
  | .coreRelease => execCoreRelease_ok ok
  | .hfxoPhase => execHfxoPhase_ok ok
  | .podRestart _ => execPodRestart_ok ok
  | .engineOpen => execEngineOpen_ok ok
  | .resetNAssert _ => execResetNAssert_ok ok
  | .resetNRelease => execResetNRelease_ok ok
  | .resetSequenceEnd _ => execResetSequenceEnd_ok ok
  | .standby _ => execStandby_ok ok
  | .restoreDefaults _ => execRestoreDefaults_ok ok
  | .discardStaged _ _ => execDiscardStaged_ok ok
  | .wakeActivity _ => execWakeActivity_ok ok
  | .frameBoundary _ _ _ => execFrameBoundary_ok ok
  | .settleCountReached _ _ => execSettleCountReached_ok ok
  | .fundamentalPathSettled _ _ => execFundamentalPathSettled_ok ok
  | .downRangeIntervalEnd _ _ => execDownRangeIntervalEnd_ok ok
  | .cmExcursionFault _ _ => execCmExcursionFault_ok ok
  | .sliceSolve _ _ _ => execSliceSolve_ok ok
  | .referenceInjection _ _ => execReferenceInjection_ok ok
  | .plausibilityWindowEnd _ => execPlausibilityWindowEnd_ok ok
  | .referenceLoss _ => execReferenceLoss_ok ok
  | .eventRmsRefresh _ => execEventRmsRefresh_ok ok
  | .eventBlockExpiry _ _ _ => execEventBlockExpiry_ok ok
  | .halfCycleBooking _ => execHalfCycleBooking_ok ok
  | .windowEnd _ => execWindowEnd_ok ok
  | .harmonicWindowEnd _ => execHarmonicWindowEnd_ok ok
  | .harmonicPublication _ _ => execHarmonicPublication_ok ok
  | .phasorPublication _ _ => execPhasorPublication_ok ok
  | .sentinelArmed _ _ => execSentinelArmed_ok ok
  | .armingRetry _ => execArmingRetry_ok ok
  | .sentinelTrip _ _ _ => execSentinelTrip_ok ok
  | .wakePowerUpDone _ => execWakePowerUpDone_ok ok
  | .dormantTransfer _ _ _ => execDormantTransfer_ok ok
  | .pulseLeadingEdge _ => execPulseLeadingEdge_ok ok
  | .pulseWidthEnd _ => execPulseWidthEnd_ok ok
  | .plsTestWrite _ _ _ => execPlsTestWrite_ok ok
  | .sealTimeout _ => execSealTimeout_ok ok
  | .isolationSwitchOpen _ _ _ => execIsolationSwitchOpen_ok ok
  | .registerFileEccError _ _ _ => execRegisterFileEccError_ok ok
  | .laneTimeout _ => execLaneTimeout_ok ok
  | .start _ _ => execStart_ok ok
  | .stop _ _ => execStop_ok ok
  | .podCmdReset _ _ _ => execPodCmdReset_ok ok
  | .clockRc _ _ => execClockRc_ok ok
  | .clockSpine _ _ => execClockSpine_ok ok
  | .doze _ _ => execDoze_ok ok
  | .ackDormant _ _ _ => execAckDormant_ok ok
  | .sealOpen _ _ => execSealOpen_ok ok
  | .sealClose _ _ => execSealClose_ok ok
  | .sliceRun _ _ => execSliceRun_ok ok
  | .sliceFreeze _ _ => execSliceFreeze_ok ok
  | .sliceFactory _ _ => execSliceFactory_ok ok
  | .checkpointDue => execCheckpointDue_ok ok
  | .store _ _ => execStore_ok ok
  | .capture _ => execCapture_ok ok
  | .program => execProgram_ok ok
  | .verify _ => execVerify_ok ok
  | .logAppend => execLogAppend_ok ok
  | .responseTimerExpiry _ _ => execResponseTimerExpiry_ok ok
  | .causeCleared _ _ _ => execCauseCleared_ok ok
  | .quietExit _ _ => execQuietExit_ok ok
  | .guardSelfFault _ => execGuardSelfFault_ok ok
  | .guardAck _ _ _ => execGuardAck_ok ok
  | .ackAll _ => execAckAll_ok ok
  | .panelFrameBoundary => execPanelFrameBoundary_ok ok
  | .bandTick => execBandTick_ok ok
  | .stripFrame => execStripFrame_ok ok
  | .crackProbe _ _ _ _ => execCrackProbe_ok ok
  | .paneDischargeEnd => execPaneDischargeEnd_ok ok
  | .stripDischargeEnd => execStripDischargeEnd_ok ok
  | .paneModeWrite _ _ => execPaneModeWrite_ok ok
  | .paneLevelWrite _ _ => execPaneLevelWrite_ok ok
  | .stripEnableWrite _ _ => execStripEnableWrite_ok ok
  | .fbDataWrite _ _ _ => execFbDataWrite_ok ok
  | .gateEnableWrite _ _ => execGateEnableWrite_ok ok
  | .keyWrite _ _ _ => execKeyWrite_ok ok
  | .traceSelectWrite _ _ => execTraceSelectWrite_ok ok
  | .write _ _ _ _ _ _ => execWrite_ok ok
  | .readStaged _ _ _ => execReadStaged_ok ok
  | .filterSnapshotRead _ _ _ => execFilterSnapshotRead_ok ok
  | .commit _ _ _ => execCommit_ok ok
  | .commitComplete => execCommitComplete_ok ok
  | .resetServiceChip _ => execResetServiceChip_ok ok
  | .resetServicePod _ _ _ => execResetServicePod_ok ok
  | .resetServiceDisplay _ => execResetServiceDisplay_ok ok
  | .sessionOpen _ _ => execSessionOpen_ok ok
  | .sessionProof _ _ _ => execSessionProof_ok ok
  | .sessionOpenExpiry _ => execSessionOpenExpiry_ok ok
  | .sessionIdleExpiry _ => execSessionIdleExpiry_ok ok
  | .subscribe _ _ => execSubscribe_ok ok
  | .ack _ _ => execAck_ok ok
  | .time _ _ _ _ => execTime_ok ok
  | .event => execEvent_ok ok
  | .eventRetry _ => execEventRetry_ok ok
  | .streamSample _ => execStreamSample_ok ok
  | .frameReceive _ => execFrameReceive_ok ok
  | .transmitOpportunity => execTransmitOpportunity_ok ok
  | .beacon => execBeacon_ok ok
  | .beaconTimeout => execBeaconTimeout_ok ok
  | .coordinatorListenEnd => execCoordinatorListenEnd_ok ok
  | .foreignBeacon => execForeignBeacon_ok ok
  | .silentHoldOffEnd => execSilentHoldOffEnd_ok ok
  | .intrusion _ => execIntrusion_ok ok
  | .ownJabber => execOwnJabber_ok ok
  | .remoteJabber => execRemoteJabber_ok ok
  | .symbolErrorInterval _ => execSymbolErrorInterval_ok ok
  | .ownFrameCollision => execOwnFrameCollision_ok ok
  | .traceRecord => execTraceRecord_ok ok
  | .traceSync => execTraceSync_ok ok
  | .lfrcStop => execLfrcStop_ok ok
  | .timeFrameAbsence => execTimeFrameAbsence_ok ok
  | .csmaTransmit => execCsmaTransmit_ok ok
  | .supplyCurrentReport _ _ => execSupplyCurrentReport_ok ok

/-- Every step answers a next state that has taken at most the front of the queue: a tick by `idleTick_ok`, a command by `exec_ok`. -/
theorem step_ok {I : Prop} {s : State} (bounds : I → Bounded s) : NextOk s.pending.tail I (step s) := by
  unfold step
  cases queue : s.pending with
  | nil => exact nextOk (idleTick_ok ⟨queue, bounds⟩)
  | cons c rest => exact exec_ok c ⟨rfl, bounds⟩

/-- Settles O1: `step` takes the command from the front. -/
theorem stepRunsFrontCommand : Obligations.StepRunsFrontCommand := by
  unfold Obligations.StepRunsFrontCommand
  intro c rest s front
  simp only [step, front]

/-- Settles O3: `exec_ok` without a premise on the bounds. -/
theorem everyCommandAnswersANextState : Obligations.EveryCommandAnswersANextState := by
  unfold Obligations.EveryCommandAnswersANextState
  intro c s
  obtain ⟨t, answer, queue, _⟩ := exec_ok (I := False) c ⟨rfl, False.elim⟩
  exact ⟨t, answer, queue⟩

/-- Settles O4: `step_ok` under the premise that the bounds hold before. -/
theorem stepKeepsBounds : Obligations.StepKeepsBounds := by
  unfold Obligations.StepKeepsBounds
  intro s t bounded stepped
  obtain ⟨u, answer, _, keeps⟩ := step_ok (I := Bounded s) id
  cases stepped.symm.trans answer
  exact keeps bounded

/-- Settles O5: every queue and every store of the reset state is empty. -/
theorem resetIsBounded : Obligations.ResetIsBounded := by
  unfold Obligations.ResetIsBounded Bounded FrameBufferWf QueuesWithin StoresWf
  refine ⟨⟨rfl, by decide, by decide, by decide, by decide, by decide⟩, rfl, fun p => ?_, rfl⟩
  simp [State.reset, Pod.reset, storeWf]

/-- Settles O6: `storePut_wf` and `storeGet_put`. -/
theorem storeWritesAreReadBack : Obligations.StoreWritesAreReadBack := by
  unfold Obligations.StoreWritesAreReadBack
  exact fun _ _ _ _ canonical => ⟨storePut_wf canonical, fun _ => storeGet_put canonical⟩

end Sys2Proof.Laws
end

section
/-! Replies in fragments, and the classes of the transmit queue (R623, R641). -/

namespace Sys2Proof.Laws

open Sys2Proof.Machine

/-! ### Fragments (R623) -/

/-- What does not fit an empty fragment is TOO_BIG, which does. -/
theorem fitted_length {room : Nat} (two : 2 ≤ room) (r : Reply) : (fitted room r).length ≤ room := by
  unfold fitted
  split
  · assumption
  · exact two

/-- Items that are packed stay in their order behind those packed before. -/
theorem packed_flatten (room : Nat) (xs : List (List Nat)) (a : List (List (List Nat)) × List (List Nat)) :
    (xs.foldl (packStep room) a).1.flatten ++ (xs.foldl (packStep room) a).2 = a.1.flatten ++ a.2 ++ xs := by
  induction xs generalizing a with
  | nil => simp
  | cons x xs ih =>
    rw [List.foldl_cons, ih]
    unfold packStep
    split <;> simp

/-- The fragments that are closed and the one that is open hold no more than the room. -/
def Roomy (room : Nat) (a : List (List (List Nat)) × List (List Nat)) : Prop := ∀ f ∈ a.1 ++ [a.2], f.flatten.length ≤ room

theorem packStep_roomy {room : Nat} {x : List Nat} {a : List (List (List Nat)) × List (List Nat)} (fits : x.length ≤ room)
    (roomy : Roomy room a) : Roomy room (packStep room a x) := by
  have closed : ∀ f ∈ a.1, f.flatten.length ≤ room := fun f mem => roomy f (List.mem_append_left _ mem)
  have openOne : a.2.flatten.length ≤ room := roomy a.2 (by simp)
  intro f mem
  unfold packStep at mem
  split at mem
  · rcases List.mem_append.1 mem with old | new
    · exact roomy f old
    · rw [List.mem_singleton.1 new]
      simpa using fits
  · rename_i joins
    rcases List.mem_append.1 mem with old | new
    · exact closed f old
    · rw [List.mem_singleton.1 new, List.flatten_append, List.length_append, List.flatten_singleton]
      by_cases empty : a.2 = []
      · simpa [empty] using fits
      · exact Nat.not_lt.1 fun above => joins ⟨empty, above⟩

theorem packed_roomy {room : Nat} {xs : List (List Nat)} (fit : ∀ x ∈ xs, x.length ≤ room) :
    Roomy room (xs.foldl (packStep room) ([], [])) :=
  List.foldlRecOn (motive := Roomy room) xs (packStep room) (by simp [Roomy]) fun _ roomy x mem => packStep_roomy (fit x mem) roomy

theorem fragmentsOf_flatten (room : Nat) (rs : List Reply) : (fragmentsOf room rs).flatten = rs.map (fitted room) := by
  simpa [fragmentsOf] using packed_flatten room (rs.map (fitted room)) ([], [])

/-! ### Classes (R641) -/

theorem queueFrame_sorted {f : TxFrame} {q : List TxFrame} (sorted : q.Pairwise (fun a b => a.cls ≤ b.cls)) :
    (queueFrame f q).Pairwise (fun a b => a.cls ≤ b.cls) := by
  have before : ∀ x ∈ q.filter (fun x => decide (x.cls ≤ f.cls)), x.cls ≤ f.cls := fun x mem => by
    simpa using (List.mem_filter.1 mem).2
  have behind : ∀ x ∈ q.filter (fun x => decide (f.cls < x.cls)), f.cls < x.cls := fun x mem => by
    simpa using (List.mem_filter.1 mem).2
  unfold queueFrame
  rw [List.append_assoc, List.pairwise_append, List.singleton_append, List.pairwise_cons]
  refine ⟨sorted.filter _, ⟨fun x mem => (behind x mem).le, sorted.filter _⟩, fun x early y late => ?_⟩
  rcases List.mem_cons.1 late with rfl | late
  · exact before x early
  · exact (before x early).trans (behind y late).le

/-- A class keeps its order; the frame that joins comes last in its own. -/
theorem queueFrame_class (f : TxFrame) (q : List TxFrame) (c : Nat) :
    (queueFrame f q).filter (fun x => x.cls == c) = q.filter (fun x => x.cls == c) ++ (if f.cls = c then [f] else []) := by
  have whole {p : TxFrame → Bool} (all : ∀ x : TxFrame, x.cls = c → p x = true) :
      (q.filter p).filter (fun x => x.cls == c) = q.filter (fun x => x.cls == c) := by
    rw [List.filter_filter]
    exact List.filter_congr fun x _ => by
      by_cases h : x.cls = c
      · simp [h, all x h]
      · simp [h]
  have empty {p : TxFrame → Bool} (none : ∀ x : TxFrame, x.cls = c → p x = false) :
      (q.filter p).filter (fun x => x.cls == c) = [] := by
    rw [List.filter_filter, List.filter_eq_nil_iff]
    intro x _ both
    simp only [Bool.and_eq_true, beq_iff_eq] at both
    rw [none x both.1] at both
    exact Bool.false_ne_true both.2
  unfold queueFrame
  rw [List.filter_append, List.filter_append]
  rcases lt_trichotomy f.cls c with less | equal | more
  · rw [empty fun x h => by simp [h, less], whole fun x h => by simp [h, less]]
    simp [less.ne]
  · rw [whole fun x h => by simp [h, equal], empty fun x h => by simp [h, equal]]
    simp [equal]
  · rw [whole fun x h => by simp [h, more.le], empty fun x h => by simp [h, more.le]]
    simp [more.ne']

/-- Settles O59: the fold that packs the items, and the two halves of the queue around a frame that joins. -/
theorem repliesKeepTheirOrder : Obligations.RepliesKeepTheirOrder := by
  unfold Obligations.RepliesKeepTheirOrder
  refine ⟨fun room rs two => ⟨fragmentsOf_flatten room rs, packed_roomy fun x mem => ?_⟩,
    fun f q sorted => ⟨queueFrame_sorted sorted, queueFrame_class f q⟩⟩
  obtain ⟨r, _, rfl⟩ := List.mem_map.1 mem
  exact fitted_length two r

end Sys2Proof.Laws
end

section
/-! The trace port (R683-R685, R688): records, the markers before them, and what a full queue drops. -/

namespace Sys2Proof.Laws

open Sys2Proof.Machine

/-! ### Emission -/

theorem recordBytes_length (seq : Nat) (r : TraceRec) : (recordBytes seq r).length = 16 := by
  simp [recordBytes]

/-- The port with a record taken from the front of its queue, before anything is emitted. -/
def recordTaken (rest : List TraceRec) (s : State) : State := { s with obs := { s.obs with queue := rest, out := [] } }

theorem emitMarkers_none {s : State} (lossless : s.obs.dropped = 0) (early : s.obs.syncDue = false) : emitMarkers s = s := by
  simp [emitMarkers, lossless, early]

theorem emitMarkers_loss {s : State} (lost : 0 < s.obs.dropped) : emitMarkers s = emitSync (emitLoss s) := if_pos lost

section
variable {r : TraceRec} {rest : List TraceRec} {s : State}

theorem execTraceRecord_emits (queue : s.obs.queue = r :: rest) (runs : portRuns s = true) :
    execTraceRecord s = .next (emitRecord r (emitMarkers (recordTaken rest s))) := by
  simp only [execTraceRecord, queue, runs, if_true, recordTaken]

theorem execTraceRecord_idle (idle : s.obs.queue = [] ∨ portRuns s = false) : execTraceRecord s = .next s := by
  unfold execTraceRecord
  cases queue : s.obs.queue with
  | nil => rfl
  | cons x xs =>
    rcases idle with empty | stopped
    · simp [queue] at empty
    · simp [stopped]

end

theorem execTraceSync_due {s : State} (runs : portRuns s = true) (due : s.obs.syncDue = true ∨ s.obs.lastSync + 65536000 ≤ s.time.stamp) :
    execTraceSync s = .next (emitSync { s with obs := { s.obs with out := [] } }) := congrArg Host.Outcome.next (if_pos ⟨runs, due⟩)

/-! ### The queue (R688) -/

section
variable {kind : Nat} {s : State} (stamp : Nat) (payload : List Nat)

/-- A record of a selected kind finds the queue with or without a place for its kind. -/
theorem traceAdd_selected (on : traceOn s = true) (selected : bit (devVal s 0x8100 0) kind = true) :
    traceAdd kind stamp payload s =
      if 64 ≤ s.obs.queue.length ∨ (56 ≤ s.obs.queue.length ∧ kind ≠ 1) then
        { s with obs := { s.obs with
            lost := wrap32 (s.obs.lost + 1), lostStamp := stamp, dropped := min 4294967295 (s.obs.dropped + 1),
            dropStamp := if s.obs.dropped = 0 then stamp else s.obs.dropStamp } }
      else { s with obs := { s.obs with queue := s.obs.queue ++ [⟨kind, stamp, payload⟩] } } := by
  simp only [traceAdd, on, selected, Bool.and_self, if_true]

theorem traceAdd_room (on : traceOn s = true) (selected : bit (devVal s 0x8100 0) kind = true)
    (room : s.obs.queue.length < 56 ∨ (kind = 1 ∧ s.obs.queue.length < 64)) :
    traceAdd kind stamp payload s = { s with obs := { s.obs with queue := s.obs.queue ++ [⟨kind, stamp, payload⟩] } } := by
  rw [traceAdd_selected stamp payload on selected, if_neg (by omega)]

end

/-- Settles O60: a record with and without markers before it, SYNC, and a queue with and without a place. -/
theorem traceIsEmitted : Obligations.TraceIsEmitted := by
  unfold Obligations.TraceIsEmitted
  refine ⟨fun r rest s queue runs lossless early => ?_, fun r rest s queue runs => execTraceRecord_emits queue runs,
    fun r rest s queue runs lost => ⟨_, execTraceRecord_emits queue runs, ?_⟩, fun s idle => execTraceRecord_idle idle,
    fun s runs due => ⟨_, execTraceSync_due runs due, rfl, rfl, rfl, rfl, rfl⟩, recordBytes_length,
    fun kind stamp payload s on selected => ⟨traceAdd_room stamp payload on selected, fun full => ?_⟩⟩
  · show execTraceRecord s = _
    rw [execTraceRecord_emits queue runs, emitMarkers_none (s := recordTaken rest s) lossless early]
    rfl
  · rw [emitMarkers_loss (s := recordTaken rest s) lost]
    exact ⟨rfl, rfl, rfl, _, rfl⟩
  · rw [traceAdd_selected stamp payload on selected, if_pos full]
    exact ⟨rfl, rfl, rfl, rfl, rfl⟩

end Sys2Proof.Laws
end

section
/-! The panel drivers at their frames and ticks (R536, R538, R542, R549, R550, R561, R562). -/

namespace Sys2Proof.Laws

open Sys2Proof.Machine

/-! ### Panel frames -/

theorem execPanelFrameBoundary_full {s : State} (full : s.panel.mode = 2) (scans : scanRuns s = true) (charged : s.panel.paneDone = false) :
    execPanelFrameBoundary s = .next (showMode (paneEffective s) { s with panel := { s.panel with
      frames := wrap32 (s.panel.frames + 1), bandAt := (s.panel.bandNext.getD (s.panel.bandAt, s.panel.bandShown)).1,
      bandShown := (s.panel.bandNext.getD (s.panel.bandAt, s.panel.bandShown)).2, bandNext := none } }) :=
  congrArg Host.Outcome.next (if_pos ⟨full, scans, charged⟩)

theorem execPanelFrameBoundary_still {s : State} (still : s.panel.mode ≠ 2 ∨ scanRuns s = false) : execPanelFrameBoundary s = .next s :=
  congrArg Host.Outcome.next (if_neg (by rcases still with other | stopped <;> simp [*]))

/-! ### Band ticks -/

/-- What a step of autorender or a change of mode leaves of the Pane: its ticks, its frame buffer, and the chip and dictionary around it. -/
structure PaneTicked (s t : State) : Prop where
  chip : t.chip = s.chip
  dict : t.dict = s.dict
  power : t.power = s.power
  ticks : t.panel.ticks = s.panel.ticks
  huskTicks : t.panel.huskTicks = s.panel.huskTicks
  buffer : t.panel.buffer = s.panel.buffer

theorem PaneTicked.refl (s : State) : PaneTicked s s := ⟨rfl, rfl, rfl, rfl, rfl, rfl⟩

theorem PaneTicked.trans {s t u : State} (a : PaneTicked s t) (b : PaneTicked t u) : PaneTicked s u :=
  ⟨b.chip.trans a.chip, b.dict.trans a.dict, b.power.trans a.power, b.ticks.trans a.ticks, b.huskTicks.trans a.huskTicks,
    b.buffer.trans a.buffer⟩

theorem PaneTicked.ite {c : Prop} [Decidable c] {s t u : State} (a : PaneTicked s t) (b : PaneTicked s u) :
    PaneTicked s (if c then t else u) := by
  split <;> assumption

theorem showMode_ticked (m : Nat) (s : State) : PaneTicked s (showMode m s) := ⟨rfl, rfl, rfl, rfl, rfl, rfl⟩

theorem laneFell_ticked (p : Nat) (s : State) : PaneTicked s (laneFell p s) := ⟨rfl, rfl, rfl, rfl, rfl, rfl⟩

theorem laneDone_ticked (p : Nat) (s : State) : PaneTicked s (laneDone p s) := ⟨rfl, rfl, rfl, rfl, rfl, rfl⟩

theorem autoTick_ticked (s : State) : PaneTicked s (autoTick s) := by
  unfold autoTick
  extract_lets mask n start moves p register s1 figure put
  have rolled : PaneTicked s s1 := ⟨rfl, rfl, rfl, rfl, rfl, rfl⟩
  have shown (v stamp flags : Nat) {t : State} (a : PaneTicked s t) : PaneTicked s (put v stamp flags t) :=
    a.trans ⟨rfl, rfl, rfl, rfl, rfl, rfl⟩
  have cached (v : Nat) : PaneTicked s1 { s1 with panel := { s1.panel with cache := putAt s1.panel.cache p v, cacheStamp := s1.time.stamp } } :=
    ⟨rfl, rfl, rfl, rfl, rfl, rfl⟩
  exact .ite (.refl s) (.ite rolled (.ite
    (.ite (.ite (shown _ _ _ (rolled.trans (laneFell_ticked ..))) (shown _ _ _ (rolled.trans ((cached _).trans (laneDone_ticked ..)))))
      (.ite (shown _ _ _ rolled) (shown _ _ _ rolled)))
    (shown _ _ _ rolled)))

/-- A tick as it is counted. -/
def tickCounted (s : State) : State := { s with panel := { s.panel with ticks := wrap32 (s.panel.ticks + 1), huskTicks := s.panel.huskTicks + 1 } }

/-- A tick once autorender has run and the mode in force shows. -/
def tickShown (s : State) : State :=
  if s.panel.mode = 2 ∧ paneEffective s = 2 then autoTick (tickCounted s)
  else if s.panel.mode = 2 ∧ scanMay s then autoTick (tickCounted s)
  else showMode (paneEffective s) (autoTick (tickCounted s))

theorem tickShown_ticked (s : State) : PaneTicked (tickCounted s) (tickShown s) :=
  .ite (autoTick_ticked _) (.ite (autoTick_ticked _) ((autoTick_ticked _).trans (showMode_ticked ..)))

@[simp] theorem devVal_tickShown (index sub : Nat) (s : State) : devVal (tickShown s) index sub = devVal s index sub := by
  unfold devVal
  rw [(tickShown_ticked s).dict]
  rfl

/-- Outside FULL the glass takes up the mode in force at the tick. -/
theorem tickShown_mode {s : State} (notFull : s.panel.mode ≠ 2) : (tickShown s).panel.mode = paneEffective s := by
  unfold tickShown
  rw [if_neg (fun h => notFull h.1), if_neg (fun h => notFull h.1)]
  rfl

/-- The band of a tick, given the state that the tick shows. -/
def bandWritten (e : Nat) (s : State) : State :=
  let rows := 8 * devVal s 0x2410 0
  let place := (devVal s 0x2411 0, rows)
  let content := if e = 0 then List.replicate rows 0 else bandContent s
  let full := s.panel.mode == 2
  { s with panel := { s.panel with
      bandAt := if full then s.panel.bandAt else place, bandShown := if full then s.panel.bandShown else content,
      bandNext := if full then some (place, content) else none,
      blankRows := if s.panel.mode = 2 then s.panel.blankRows else false,
      frp := if e = 0 then false else if s.panel.huskTicks % 8 = 0 then !s.panel.frp else s.panel.frp } }

theorem bandWritten_ticked (e : Nat) (s : State) : PaneTicked s (bandWritten e s) := ⟨rfl, rfl, rfl, rfl, rfl, rfl⟩

/-- The band stays as it is: the Pane is discharged, its rails are not in regulation, or BOOT has not reached B5. -/
def BandWaits (s : State) : Prop :=
  paneEffective s = 3 ∨ (!(bit s.power.rails 4 && bit s.power.rails 5)) = true ∨ (s.chip.state = .boot ∧ (!booted s 5) = true)

theorem not_bandWaits {s : State} (charged : paneEffective s ≠ 3) (rail4 : bit s.power.rails 4 = true) (rail5 : bit s.power.rails 5 = true)
    (clocked : s.chip.state ≠ .boot ∨ booted s 5 = true) : ¬ BandWaits s := by
  rintro (discharged | rails | ⟨boot, early⟩)
  · exact charged discharged
  · simp [rail4, rail5] at rails
  · rcases clocked with later | five
    · exact later boot
    · simp [five] at early

theorem execBandTick_runs {s : State} (powered : s.chip.state ≠ .unpowered) (husk : huskRuns s = true) :
    (BandWaits s → execBandTick s = .next (tickShown s)) ∧
    (¬ BandWaits s → execBandTick s = .next (bandWritten (paneEffective s) (tickShown s))) := by
  have runs : ¬ (s.chip.state = .unpowered ∨ (!huskRuns s) = true) := by simp [powered, husk]
  exact ⟨fun waits => congrArg Host.Outcome.next ((if_neg runs).trans (if_pos waits)),
    fun writes => congrArg Host.Outcome.next ((if_neg runs).trans (if_neg writes))⟩

/-- The band is written in the mode in force: outside FULL at once, black in OFF (R549). -/
theorem bandWritten_outside {e : Nat} {s : State} (notFull : s.panel.mode ≠ 2) :
    (bandWritten e s).panel.bandAt = (devVal s 0x2411 0, 8 * devVal s 0x2410 0) ∧
      (e = 0 → (bandWritten e s).panel.bandShown = List.replicate (8 * devVal s 0x2410 0) 0) := by
  have full : (s.panel.mode == 2) = false := beq_false_of_ne notFull
  unfold bandWritten
  simp only [full, Bool.false_eq_true, if_false, true_and]
  exact fun off => if_pos off

/-- What a tick leaves: it is counted, and the frame buffer, the chip and the dictionary are as they were. -/
theorem execBandTick_counted {s t : State} (kept : PaneTicked (tickShown s) t) :
    t.panel.ticks = wrap32 (s.panel.ticks + 1) ∧ t.panel.huskTicks = s.panel.huskTicks + 1 ∧ t.panel.buffer = s.panel.buffer ∧
      t.chip = s.chip ∧ t.dict = s.dict := by
  have all := (tickShown_ticked s).trans kept
  exact ⟨all.ticks, all.huskTicks, all.buffer, all.chip, all.dict⟩

/-! ### The Strip (R561, R562) -/

section
variable {s : State}

theorem execStripFrame_lights (core : coreRuns s = true) (may : stripMay s = true) (want : s.panel.wantLit = true) :
    execStripFrame s = .next { s with panel := { s.panel with
      lit := true, step := stepLength (devVal s 0x2481 0) (greySum s), stripTicks := s.panel.huskTicks,
      stripFrames := wrap32 (s.panel.stripFrames + 1),
      limited := if 1774285 < devVal s 0x2481 0 * greySum s then wrap32 (s.panel.limited + 1) else s.panel.limited } } := by
  simp [execStripFrame, core, may, want]

theorem execStripFrame_dark (core : coreRuns s = true) (denied : stripMay s = false ∨ s.panel.wantLit = false) :
    execStripFrame s = .next { s with panel := { s.panel with lit := false } } := by
  rcases denied with no | no <;> simp [execStripFrame, core, no]

theorem execStripFrame_stopped (stopped : coreRuns s = false) : execStripFrame s = .next s :=
  congrArg Host.Outcome.next (if_pos (by simp [stopped]))

end

/-- R561: the step never exceeds its full length, nor with the current and the grey sum the limit. -/
theorem stepLength_limited (c g : Nat) : stepLength c g ≤ 112 ∧ stepLength c g * (c * g) ≤ 112 * 1774285 := by
  unfold stepLength
  split
  · rename_i above
    exact ⟨Nat.div_le_of_le_mul (by omega), Nat.div_mul_le_self ..⟩
  · rename_i within
    exact ⟨le_rfl, Nat.mul_le_mul_left 112 (Nat.not_lt.1 within)⟩

/-- Settles O47: panel frames, band ticks, Strip frames, the sources of a full row, and the limit of the Strip. -/
theorem panelsShow : Obligations.PanelsShow := by
  unfold Obligations.PanelsShow
  refine ⟨fun s full scans charged => execPanelFrameBoundary_full full scans charged, fun s still => execPanelFrameBoundary_still still,
    fun s powered husk => ?_, fun s stopped => ?_, fun s core may want => execStripFrame_lights core may want,
    fun s core denied => execStripFrame_dark core denied, fun s stopped => execStripFrame_stopped stopped,
    fun x y colour s row _ _ => ⟨fun even => ?_, fun odd => ?_⟩, stepLength_limited⟩
  · by_cases waits : BandWaits s
    · obtain ⟨ticks, husks, buffer, chip, dict⟩ := execBandTick_counted (.refl (tickShown s))
      refine ⟨_, (execBandTick_runs powered husk).1 waits, ticks, husks, buffer, chip, dict, fun _ _ charged rail4 rail5 clocked => ?_⟩
      exact absurd waits (not_bandWaits charged rail4 rail5 clocked)
    · obtain ⟨ticks, husks, buffer, chip, dict⟩ := execBandTick_counted (bandWritten_ticked (paneEffective s) (tickShown s))
      refine ⟨_, (execBandTick_runs powered husk).2 waits, ticks, husks, buffer, chip, dict, fun notFull notFullNow _ _ _ _ => ?_⟩
      have written := bandWritten_outside (e := paneEffective s) (s := tickShown s) (by rwa [tickShown_mode notFull])
      rwa [devVal_tickShown, devVal_tickShown] at written
  · exact congrArg Host.Outcome.next (if_pos (.inr (by simp [stopped])))
  · unfold sourceLevel
    rw [if_pos row]
    exact if_pos even
  · unfold sourceLevel
    rw [if_pos row]
    exact if_neg (by omega)

end Sys2Proof.Laws
end

section
/-! Frames of the trunk: the steps of reception, opportunities, CSMA/CD and collisions (R578, R581, R587, R594, R595, R641). -/

namespace Sys2Proof.Laws

open Sys2Proof.Machine

/-! ### Reception (R594) -/

section
variable {f : RxFrame} {s : State}

theorem execFrameReceive_off (off : phyOn s.link.code = false) : execFrameReceive f s = .next s :=
  congrArg Host.Outcome.next (if_pos (by simp [off]))

theorem execFrameReceive_fails {k : Nat} (on : phyOn s.link.code = true) (fails : receiveFault f (noteBrc f (latchSfd s).2) = some k) :
    execFrameReceive f s = .next (linkCount k (noteBrc f (latchSfd s).2)) := by
  simp [execFrameReceive, on, fails]

/-- A frame that passes every step is handed over with its source and the STAMP of its start-frame delimiter. -/
theorem execFrameReceive_passes (on : phyOn s.link.code = true) (passes : receiveFault f (noteBrc f (latchSfd s).2) = none) :
    execFrameReceive f s = .next (engineReceive (beValue ((f.octets.map (·.toNat)).take 6) == ownMac)
      (beValue (((f.octets.map (·.toNat)).drop 6).take 6)) ((f.octets.map (·.toNat)).drop 14) (latchSfd s).1
      (linkCount 0 (noteBrc f (latchSfd s).2))) := by
  simp [execFrameReceive, on, passes]

/-- The first steps of R594: a symbol error, the length, and then the FCS. -/
theorem receiveFault_first (f : RxFrame) (s : State) :
    (f.symbolError = true → receiveFault f s = some 5) ∧ (f.symbolError = false → f.length < 64 → receiveFault f s = some 6) ∧
    (f.symbolError = false → 1518 < f.length → receiveFault f s = some 7) ∧
    (f.symbolError = false → 64 ≤ f.length → f.length ≤ 1518 → f.fcsGood = false → receiveFault f s = some 4) := by
  unfold receiveFault
  refine ⟨fun symbol => if_pos symbol, fun clean short => ?_, fun clean long => ?_, fun clean low high bad => ?_⟩
  · simp [clean, short]
  · simp [clean, long, show ¬ f.length < 64 by omega]
  · simp [clean, bad, Nat.not_lt.2 low, Nat.not_lt.2 high]

end

/-! ### What a frame that left the queue means for the engine -/

/-- The engine alone has changed, and it has no more to do than before. -/
structure FrameGone (s t : State) : Prop where
  only : t = { s with engine := t.engine }
  running : t.engine.running = s.engine.running
  frames : t.engine.frames = s.engine.frames
  noSub : s.engine.subs.all (fun x => !x.due) = true → t.engine.subs.all (fun x => !x.due) = true

theorem FrameGone.refl (s : State) : FrameGone s s := ⟨rfl, rfl, rfl, id⟩

theorem FrameGone.trans {s t u : State} (a : FrameGone s t) (b : FrameGone t u) : FrameGone s u :=
  ⟨by rw [b.only, a.only], b.running.trans a.running, b.frames.trans a.frames, b.noSub ∘ a.noSub⟩

theorem FrameGone.ite {c : Prop} [Decidable c] {s t u : State} (a : FrameGone s t) (b : FrameGone s u) :
    FrameGone s (if c then t else u) := by
  split <;> assumption

theorem FrameGone.link {s t : State} (a : FrameGone s t) : t.link = s.link := by rw [a.only]

theorem FrameGone.chip {s t : State} (a : FrameGone s t) : t.chip = s.chip := by rw [a.only]

theorem FrameGone.quiet {s t : State} (a : FrameGone s t) (q : Quiet s) : Quiet t :=
  ⟨a.running.trans q.running, a.frames.trans q.frames, by rw [a.chip]; exact q.standby, a.noSub q.noSub⟩

theorem gezorCount_gone (k : Nat) (s : State) : FrameGone s (gezorCount k s) := ⟨rfl, rfl, rfl, id⟩

theorem modEvent_gone (seq : Nat) (g : EvFrame → EvFrame) (s : State) : FrameGone s (modEvent seq g s) := ⟨rfl, rfl, rfl, id⟩

theorem noSub_iff (s : State) : s.engine.subs.all (fun x => !x.due) = true ↔ ∀ k, k < 8 → (subAt s k).due = false := by
  rw [Vector.all_eq_true]
  exact forall₂_congr fun k hk => by simp [subAt, Vector.getD, hk]

theorem subAt_modSub_ne {k j : Nat} (other : j ≠ k) (g : Sub → Sub) (s : State) : subAt (modSub k g s) j = subAt s j :=
  getD_putAt_ne other ..

/-- A subscription that changes but for what it has due. -/
theorem modSub_gone (k : Nat) (g : Sub → Sub) (due : ∀ x, (g x).due = x.due) (s : State) : FrameGone s (modSub k g s) := by
  refine ⟨rfl, rfl, rfl, fun none => (noSub_iff _).2 fun j hj => ?_⟩
  by_cases same : j = k
  · subst same
    rw [subAt_modSub hj, due]
    exact (noSub_iff s).1 none j hj
  · rw [subAt_modSub_ne same]
    exact (noSub_iff s).1 none j hj

theorem onEventSub_gone (g : Sub → Sub) (due : ∀ x, (g x).due = x.due) (q : Nat) (s : State) : FrameGone s (onEventSub q g s) := by
  refine ⟨rfl, rfl, rfl, fun none => ?_⟩
  rw [Vector.all_eq_true] at none ⊢
  intro j hj
  show (!((s.engine.subs.map (fun x => if x.active && x.owner == q && x.body.kind == 1 then g x else x))[j]).due) = true
  rw [Vector.getElem_map]
  split
  · rw [due]
    exact none j hj
  · exact none j hj

/-- A subscription once one more frame of it has been sent. -/
def subSent (x : Sub) : Sub := { x with sent := wrap32 (x.sent + 1) }

/-- A frame that has left, unless it is a reply after which a reset is due. -/
theorem frameLeft_gone {f : TxFrame} {s : State} (harmless : f.cls ≠ 3 ∨ NoReset s) (sent : Bool) : FrameGone s (frameLeft f sent s) := by
  have counted : FrameGone s ((eventOwners s).foldl (fun s q => onEventSub q subSent s)
      (gezorCount 9 (eventLeft true f.tag s))) :=
    List.foldlRecOn (motive := FrameGone s) _ _ ((modEvent_gone ..).trans (gezorCount_gone ..))
      fun t gone q _ => gone.trans (onEventSub_gone subSent (fun _ => rfl) q t)
  have retried : FrameGone s (eventLeft false f.tag (if sent then gezorCount 10 s else s)) :=
    (FrameGone.ite (gezorCount_gone ..) (.refl s)).trans (modEvent_gone ..)
  have streamed : FrameGone s (gezorCount 13 (modSub f.tag subSent s)) :=
    (modSub_gone f.tag subSent (fun _ => rfl) s).trans (gezorCount_gone ..)
  unfold frameLeft
  refine .ite (.ite counted (modEvent_gone ..)) (.ite retried (.ite (.ite streamed (.refl s)) ?_))
  rcases harmless with noReply | noReset
  · rw [if_neg (fun h => noReply h.1), if_neg (fun h => noReply h.1)]
    exact .refl s
  · rw [resetAfter_none noReset.afterReply, resetsBegin_none noReset.due]
    exact .ite (.refl s) (.ite (.refl s) (.refl s))

/-! ### Sending (R581, R595) -/

theorem traceOut_only (disposition : Nat) (octets : List Nat) (s : State) :
    traceOut disposition octets s = { s with obs := (traceOut disposition octets s).obs } := traceAdd_only ..

/-- One frame has gone out: it is the last one sent, the rest of the queue waits, and the engine is as quiet as before. -/
structure FrameSent (f : TxFrame) (s t : State) : Prop where
  sent : t.link.sent = s.link.sent ++ [addressed s f]
  queue : t.link.queue = s.link.queue
  attempts : t.link.attempts = 0
  code : t.link.code = s.link.code
  quiet : Quiet s → Quiet t

theorem transmitFrame_sent {s : State} (noReset : NoReset s) (f : TxFrame) : FrameSent f s (transmitFrame f s) := by
  unfold transmitFrame
  extract_lets g s1
  have counted : s1 = linkCount 1 { s with obs := s1.obs } := by
    show linkCount 1 (traceOut g.disposition g.octets s) = _
    rw [traceOut_only]
    rfl
  have gone := frameLeft_gone (f := g) (s := { s1 with link := { s1.link with sent := s1.link.sent ++ [g], attempts := 0 } })
    (.inr (by rw [counted]; exact ⟨noReset.afterReply, noReset.due⟩)) true
  refine ⟨?_, ?_, ?_, ?_, fun q => gone.quiet ?_⟩
  · rw [gone.link, counted]; rfl
  · rw [gone.link, counted]; rfl
  · rw [gone.link]
  · rw [gone.link, counted]; rfl
  · rw [counted]
    exact ⟨q.running, q.frames, q.standby, q.noSub⟩

/-- A burst of one frame is that frame. -/
theorem sendBurst_one {f : TxFrame} {rest : List TxFrame} {s : State} (queue : s.link.queue = f :: rest) :
    sendBurst 1 s = transmitFrame f { s with link := { s.link with queue := rest } } := by
  simp only [sendBurst, queue, ite_self]

theorem sendBurst_empty {s : State} (queue : s.link.queue = []) (n : Nat) : sendBurst n s = s := by
  cases n with
  | zero => rfl
  | succ n => simp only [sendBurst, queue]

/-- The PLCA control state after the device's own opportunity: TRANSMIT, or YIELD where it sent nothing. -/
def cycleNoted (s : State) : State :=
  if plcaActive s.link.code then { s with link := { s.link with control := if s.link.sent.isEmpty then 7 else 9 } } else s

/-- The link as an occasion to transmit finds it. -/
def occasion (s : State) : State := { s with link := { s.link with sent := [], unreached := 0 } }

theorem occasion_quiet {s : State} (h : EngineFree s) : Quiet (occasion s) := ⟨h.running, h.frames, h.standby, h.noSub⟩

theorem cycleNoted_active {s : State} (active : plcaActive s.link.code = true) :
    cycleNoted s = { s with link := { s.link with control := if s.link.sent.isEmpty then 7 else 9 } } := if_pos active

theorem cycleNoted_idle {s : State} (idle : plcaActive s.link.code = false) : cycleNoted s = s :=
  if_neg (by rw [idle]; exact Bool.false_ne_true)

theorem cycleNoted_quiet {s : State} (q : Quiet s) : Quiet (cycleNoted s) := by
  unfold cycleNoted
  split
  · exact ⟨q.running, q.frames, q.standby, q.noSub⟩
  · exact q

/-- With an engine that has nothing to do, an occasion to transmit is its burst. -/
theorem transmit_free {n : Nat} {s : State} (h : EngineFree s) (q : Quiet (sendBurst n (occasion s))) :
    transmit n s = cycleNoted (sendBurst n (occasion s)) := by
  unfold transmit
  have first : settle { s with link := { s.link with sent := [], unreached := 0 } } = occasion s := settle_quiet (occasion_quiet h)
  have active : (occasion s).chip.state ≠ .hold := by
    show s.chip.state ≠ .hold
    rw [h.active]
    decide
  dsimp only
  rw [first, if_neg active]
  exact settle_quiet (cycleNoted_quiet q)

theorem transmit_one {f : TxFrame} {rest : List TxFrame} {s : State} (h : EngineFree s) (queue : s.link.queue = f :: rest) :
    ∃ t, transmit 1 s = cycleNoted t ∧ t.link.sent = [addressed s f] ∧ t.link.queue = rest ∧ t.link.attempts = 0 ∧
      t.link.code = s.link.code := by
  have sent := transmitFrame_sent (s := { occasion s with link := { (occasion s).link with queue := rest } }) ⟨h.afterReply, h.noReset⟩ f
  have burst := sendBurst_one (s := occasion s) queue
  have free := transmit_free (n := 1) h
  rw [burst] at free
  exact ⟨_, free (sent.quiet ⟨h.running, h.frames, h.standby, h.noSub⟩), sent.sent, sent.queue, sent.attempts, sent.code⟩

theorem execTransmitOpportunity_active {s : State} (active : plcaActive s.link.code = true) (single : s.link.maxBurst = 0) :
    execTransmitOpportunity s = .next (transmit 1 s) := by
  simp only [execTransmitOpportunity, active, single, if_true]

theorem execCsmaTransmit_waits {s : State} (shared : s.link.code = .csma ∨ s.link.code = .fallback) :
    execCsmaTransmit s = .next (transmit 1 s) := congrArg Host.Outcome.next (if_pos shared)

theorem transmit_empty {s : State} (h : EngineFree s) (queue : s.link.queue = []) (n : Nat) : transmit n s = cycleNoted (occasion s) := by
  have none : sendBurst n (occasion s) = occasion s := sendBurst_empty (s := occasion s) queue n
  have free := transmit_free (n := n) h
  rw [none] at free
  exact free (occasion_quiet h)

theorem plcaActive_of {c : LinkCode} (role : c = .follower ∨ c = .coordinator) : plcaActive c = true := by
  rcases role with rfl | rfl <;> rfl

theorem not_plcaActive_of {c : LinkCode} (role : c = .csma ∨ c = .fallback) : plcaActive c = false := by
  rcases role with rfl | rfl <;> rfl

/-! ### LISTEN-ONLY and collisions (R578, R591, R595) -/

/-- R578: what the discard of the queue leaves of the link, where no reset waits for one of the frames. -/
theorem discardQueue_link {s : State} (noReply : ∀ f ∈ s.link.queue, f.cls ≠ 3) :
    (discardQueue s).link = { s.link with queue := [] } := by
  unfold discardQueue
  refine List.foldlRecOn (motive := fun t : State => t.link = { s.link with queue := [] }) s.link.queue _ rfl fun t same f mem => ?_
  rw [(frameLeft_gone (.inl (noReply f mem)) false).link, traceOut_only]
  exact same

theorem execTransmitOpportunity_listens {s : State} (listens : s.link.code = .listenOnly) :
    execTransmitOpportunity s = .next (discardQueue { s with link := { s.link with sent := [] } }) := by
  have inactive : ¬ plcaActive s.link.code = true := by
    rw [listens]
    decide
  exact congrArg Host.Outcome.next ((if_neg inactive).trans (if_pos listens))

theorem execOwnFrameCollision_shared {s : State} (shared : s.link.code = .csma ∨ s.link.code = .fallback) (waits : s.link.queue ≠ []) :
    execOwnFrameCollision s = .next (collide s) := congrArg Host.Outcome.next (if_pos ⟨shared, waits⟩)

/-- A collision as it is counted. -/
def collisionCounted (s : State) : State := linkCount 8 { s with link := { s.link with attempts := s.link.attempts + 1 } }

theorem collide_early {s : State} (early : s.link.attempts < 15) : collide s = collisionCounted s :=
  if_neg (show ¬ 16 ≤ s.link.attempts + 1 by omega)

theorem collide_last {s : State} (last : s.link.attempts = 15) : collide s = dropHead (collisionCounted s) :=
  if_pos (show 16 ≤ s.link.attempts + 1 by omega)

theorem dropHead_link {f : TxFrame} {rest : List TxFrame} {s : State} (queue : s.link.queue = f :: rest) (noReply : f.cls ≠ 3) :
    (dropHead s).link.queue = rest ∧ (dropHead s).link.attempts = 0 := by
  simp only [dropHead, queue]
  rw [(frameLeft_gone (.inl noReply) false).link]
  exact ⟨rfl, rfl⟩

/-- Settles O57: reception by its steps, opportunities in PLCA and in LISTEN-ONLY, CSMA/CD, and collisions by their number. -/
theorem framesAreReceivedAndSent : Obligations.FramesAreReceivedAndSent := by
  unfold Obligations.FramesAreReceivedAndSent
  refine ⟨fun f s off => execFrameReceive_off off, fun f k s on fails => execFrameReceive_fails on fails,
    fun f s on passes => execFrameReceive_passes on passes, receiveFault_first, fun f rest s h role single queue => ?_,
    fun s h role queue => ?_, fun s listens noReply => ⟨_, execTransmitOpportunity_listens listens, ?_⟩, fun f rest s h shared queue => ?_,
    fun s shared waits early => ?_, fun f rest s shared queue last noReply => ?_⟩
  · obtain ⟨t, sends, sent, left, attempts, code⟩ := transmit_one h queue
    have active : plcaActive t.link.code = true := by rw [code, plcaActive_of role]
    refine ⟨_, (execTransmitOpportunity_active (plcaActive_of role) single).trans (by rw [sends]), ?_⟩
    rw [cycleNoted_active active]
    exact ⟨sent, left, attempts, by simp [sent]⟩
  · refine ⟨_, (congrArg Host.Outcome.next (if_pos (plcaActive_of role))).trans (by rw [transmit_empty h queue]), ?_⟩
    rw [cycleNoted_active (s := occasion s) (plcaActive_of role)]
    exact ⟨rfl, rfl, queue⟩
  · dsimp only
    rw [discardQueue_link (s := { s with link := { s.link with sent := [] } }) noReply]
    exact ⟨rfl, rfl, listens⟩
  · obtain ⟨t, sends, sent, left, attempts, code⟩ := transmit_one h queue
    have idle : plcaActive t.link.code = false := by rw [code, not_plcaActive_of shared]
    refine ⟨_, (execCsmaTransmit_waits shared).trans (by rw [sends]), ?_⟩
    rw [cycleNoted_idle idle]
    exact ⟨sent, left, attempts⟩
  · exact (execOwnFrameCollision_shared shared waits).trans (congrArg Host.Outcome.next (collide_early early))
  · have waits : s.link.queue ≠ [] := by simp [queue]
    exact ⟨_, (execOwnFrameCollision_shared shared waits).trans (congrArg Host.Outcome.next (collide_last last)),
      dropHead_link (s := collisionCounted s) queue noReply⟩

end Sys2Proof.Laws
end

section
/-! Subscriptions and EVENT frames: stored, built, acknowledged and retried (R630-R632, R634). -/

namespace Sys2Proof.Laws

open Sys2Proof.Machine

/-! ### Subscriptions (R634) -/

section
variable {lvl : Fin 4} {q : Fin 4} {b : SubBody} {s : State}

/-- SUBSCRIBE by a requester with a slot, outside SAFE: its status is the outcome. -/
theorem execSubscribe_free (h : EngineFree s) (who : Who) (b : SubBody) :
    execSubscribe who b s = .next (lastAnswer (statusBody (subscribeRun who b s).1) (subscribeRun who b s).2) := by
  have run : serviceRun (fun s => (statusBody (subscribeRun who b s).1, (subscribeRun who b s).2)) s =
      lastAnswer (statusBody (subscribeRun who b s).1) (subscribeRun who b s).2 := if_neg (by rw [h.active]; decide)
  exact congrArg Host.Outcome.next ((whenCore_free h ..).trans run)

theorem subscribeRun_badBody (high : 1 ≤ lvl.val) (bad : badBody b = true) : subscribeRun ⟨lvl, some q⟩ b s = (stBadValue, s) := by
  simp [subscribeRun, Nat.not_lt.2 high, bad]

/-- The requester may write the subscription: it is empty, its own, or the requester is INSTALLER. -/
def MayWrite (lvl : Fin 4) (q : Fin 4) (b : SubBody) (s : State) : Prop :=
  (subAt s b.number).active = false ∨ (subAt s b.number).owner = q.val ∨ 2 ≤ lvl.val

/-- Past the checks of level, body and owner, SUBSCRIBE goes by its kind. -/
theorem subscribeRun_may (high : 1 ≤ lvl.val) (good : badBody b = false) (may : MayWrite lvl q b s) :
    subscribeRun ⟨lvl, some q⟩ b s =
      if b.kind = 0 then (stOk, modSub b.number (fun _ => .empty) s)
      else if b.kind = 1 then
        if s.engine.subs.toList.any (fun y => y.active && y.owner == q.val && y.body.kind == 1 && y.body.number != b.number) then
          (stWrongState, s)
        else (stOk, putSub b q.val lvl.val s)
      else
        if streamStatus lvl.val b s = stOk then (stOk, putSub b q.val lvl.val s) else (streamStatus lvl.val b s, s) := by
  have allowed : ¬ ((subAt s b.number).active = true ∧ (subAt s b.number).owner ≠ q.val ∧ lvl.val < 2) := by
    rintro ⟨active, other, low⟩
    rcases may with idle | own | installer
    · simp [idle] at active
    · exact other own
    · omega
  simp only [subscribeRun, if_neg (Nat.not_lt.2 high), good, Bool.false_eq_true, if_false, if_neg allowed]

theorem number_lt (good : badBody b = false) : b.number < 8 := by
  simp only [badBody, decide_eq_false_iff_not] at good
  omega

end

@[simp] theorem subAt_lastAnswer (a : Answer) (s : State) (k : Nat) : subAt (lastAnswer a s) k = subAt s k := rfl

/-- No other event subscription of the slot is active (R630). -/
theorem no_event_sub {q : Nat} {b : SubBody} {s : State}
    (alone : s.engine.subs.toList.all (fun y => !(y.active && y.owner == q && y.body.kind == 1 && y.body.number != b.number)) = true) :
    s.engine.subs.toList.any (fun y => y.active && y.owner == q && y.body.kind == 1 && y.body.number != b.number) = false := by
  rw [List.any_eq_false]
  intro y mem
  rw [Bool.not_eq_true]
  exact Bool.not_eq_true' _ ▸ List.all_eq_true.1 alone y mem

/-! ### EVENT frames (R630-R632) -/

/-- A frame handed to the link leaves the engine as it is. -/
theorem sendFrame_engine (f : TxFrame) (s : State) : (sendFrame f s).engine = s.engine := by
  unfold sendFrame
  split
  · show (traceOut f.disposition f.octets s).engine = s.engine
    rw [traceOut_only]
  · rfl

/-- How many records an EVENT frame takes: as its payload has room, 1 to 32. -/
def eventTake (s : State) : Nat := max 1 (min 32 ((payloadRoom s (wantCheck s false) - 4) / 28))

theorem eventTake_bounds (s : State) : 1 ≤ eventTake s ∧ eventTake s ≤ 32 := by
  unfold eventTake
  omega

section
variable {s : State} {f : EvFrame} {seq : Nat}

/-- The engine once an EVENT frame has been built. -/
def eventBuilt (s : State) : State :=
  { s with engine := { s.engine with
      events := s.engine.events.drop (eventTake s), evSeq := wrap32 (s.engine.evSeq + 1),
      outstanding := s.engine.outstanding ++ [⟨s.engine.evSeq, s.engine.events.take (eventTake s), [], true, 0, true, 0⟩] } }

theorem buildEvent_builds (serves : serving s = true) (records : s.engine.events ≠ []) (room : s.engine.outstanding.length < 4) :
    (buildEvent s).engine = (eventBuilt s).engine := by
  have due : (serving s && !s.engine.events.isEmpty && decide (s.engine.outstanding.length < 4)) = true := by simp [serves, records, room]
  unfold buildEvent
  rw [if_pos due]
  exact sendFrame_engine ..

theorem buildEvent_idle (idle : serving s = false ∨ s.engine.events = [] ∨ 4 ≤ s.engine.outstanding.length) : buildEvent s = s := by
  refine if_neg ?_
  rcases idle with held | none | full
  · simp [held]
  · simp [none]
  · simp [Nat.not_lt.2 full]

theorem execAck_serving (serves : serving s = true) (slot : Option (Fin 4)) (seq : Nat) : execAck slot seq s = .next (ackEvent slot seq s) :=
  congrArg Host.Outcome.next (if_pos serves)

theorem ackEvent_unknown (slot : Option (Fin 4)) (unknown : s.engine.outstanding.all (fun f => f.seq != seq) = true) :
    ackEvent slot seq s = gezorCount 12 s := by
  have none : s.engine.outstanding.find? (fun f => f.seq == seq) = none := by
    simpa [List.find?_eq_none] using unknown
  simp only [ackEvent, none]

theorem ackEvent_any (slot : Option (Fin 4)) (found : s.engine.outstanding.find? (fun f => f.seq == seq) = some f) (any : f.anyAck = true) :
    ackEvent slot seq s = endEvent seq s := by
  simp only [ackEvent, found, any, if_true]

/-- An awaited ACK: the requester is awaited no more, and its misses in a row end (R631, R632). -/
def ackNoted (q seq : Nat) (s : State) : State :=
  onEventSub q (fun x => { x with misses := 0 }) (modEvent seq (fun f => { f with awaiting := f.awaiting.erase q }) s)

/-- R631: an ACK of one slot counts where that slot is awaited, and the last one ends the frame. -/
theorem ackEvent_slot (found : s.engine.outstanding.find? (fun f => f.seq == seq) = some f) (set : f.anyAck = false) (q : Fin 4) :
    ackEvent (some q) seq s = if f.awaiting.contains q.val then
      (if f.awaiting.erase q.val = [] then endEvent seq (ackNoted q.val seq s) else ackNoted q.val seq s) else s := by
  simp only [ackEvent, found, set, Bool.false_eq_true, if_false]
  rfl

theorem endEvent_gone (seq : Nat) (s : State) : (endEvent seq s).engine.outstanding.all (fun g => g.seq != seq) = true := by
  simp [endEvent]

/-! ### Retries (R632) -/

theorem retryEvent_again (found : s.engine.outstanding.find? (fun f => f.seq == seq) = some f) (sent : f.queued = false)
    (due : f.sentAt + 131072 ≤ s.time.elapsed) (left : f.retries < 3) :
    retryEvent seq s = sendFrame ⟨4, eventFrame s seq f.records, seq, 1⟩ (modEvent seq (fun g => { g with
      retries := g.retries + 1, sentAt := s.time.elapsed,
      queued := decide ((eventFrame s seq g.records).length + 4 ≤ devVal s 0x110A 0) }) s) := by
  have now : ¬ (f.queued = true ∨ s.time.elapsed < f.sentAt + 131072) := by simp [sent, Nat.not_lt.2 due]
  unfold retryEvent
  rw [found]
  exact (if_neg now).trans (if_pos left)

/-- What a frame that is given up leaves: it has ended, and its records are dropped (R632, log 43). -/
def eventGivenUp (f : EvFrame) (seq : Nat) (s : State) : State :=
  let t := gezorCount 11 (endEvent seq (f.awaiting.foldl missEvent s))
  { t with engine := { t.engine with evUnacked := wrap32 (t.engine.evUnacked + 1), evDropped := wrap32 (t.engine.evDropped + f.records.length) } }

theorem retryEvent_last (found : s.engine.outstanding.find? (fun f => f.seq == seq) = some f) (sent : f.queued = false)
    (due : f.sentAt + 131072 ≤ s.time.elapsed) (spent : 3 ≤ f.retries) : retryEvent seq s = eventGivenUp f seq s := by
  have now : ¬ (f.queued = true ∨ s.time.elapsed < f.sentAt + 131072) := by simp [sent, Nat.not_lt.2 due]
  unfold retryEvent
  rw [found]
  exact (if_neg now).trans (if_neg (Nat.not_lt.2 spent))

/-- A miss moves subscriptions alone. -/
theorem missEvents_only (qs : List Nat) (s : State) :
    ∃ subs, qs.foldl missEvent s = { s with engine := { s.engine with subs := subs } } :=
  List.foldlRecOn (motive := fun t => ∃ subs, t = { s with engine := { s.engine with subs := subs } }) qs missEvent ⟨_, rfl⟩
    fun t moved q _ => by
      obtain ⟨subs, rfl⟩ := moved
      exact ⟨_, rfl⟩

theorem eventGivenUp_engine (f : EvFrame) (seq : Nat) (s : State) :
    (eventGivenUp f seq s).engine.outstanding = s.engine.outstanding.filter (fun x => x.seq != seq) ∧
      (eventGivenUp f seq s).engine.evUnacked = wrap32 (s.engine.evUnacked + 1) ∧
      (eventGivenUp f seq s).engine.evDropped = wrap32 (s.engine.evDropped + f.records.length) := by
  obtain ⟨subs, missed⟩ := missEvents_only f.awaiting s
  unfold eventGivenUp
  rw [missed]
  exact ⟨rfl, rfl, rfl⟩

end

end Sys2Proof.Laws
end

section
/-! Streams (R635-R637): a sampling that is due runs as one pass of the engine, and its STREAM frame moves the sequence. -/

namespace Sys2Proof.Laws

open Sys2Proof.Machine

/-! ### Reads -/

/-- What a read can touch: Pods, the trace port but for its gates, and the random source. -/
structure Looked (s t : State) : Prop where
  only : t = { s with pods := t.pods, obs := t.obs, fresh := t.fresh }
  gates : t.obs.gates = s.obs.gates

theorem Looked.refl (s : State) : Looked s s := ⟨rfl, rfl⟩

theorem Looked.trans {s t u : State} (a : Looked s t) (b : Looked t u) : Looked s u := ⟨by rw [b.only, a.only], b.gates.trans a.gates⟩

theorem Looked.engine {s t : State} (a : Looked s t) : t.engine = s.engine := by rw [a.only]

theorem Looked.chip {s t : State} (a : Looked s t) : t.chip = s.chip := by rw [a.only]

theorem Looked.gateOn {s t : State} (a : Looked s t) (k : Nat) : gateOn t k = gateOn s k := by
  unfold Machine.gateOn
  rw [a.gates, a.only]
  rfl

theorem traceAdd_gates (kind stamp : Nat) (payload : List Nat) (s : State) : (traceAdd kind stamp payload s).obs.gates = s.obs.gates := by
  unfold traceAdd
  dsimp only
  split_ifs <;> rfl

theorem gatedAccess_looked (who : Who) (index sub op : Nat) (x : Place) (s : State) : Looked s (gatedAccess who index sub op x s) := by
  unfold gatedAccess
  cases gatedBit s x with
  | none => exact .refl s
  | some k => exact ⟨by dsimp only; rw [traceAdd_only], traceAdd_gates ..⟩

theorem laneLost_looked (x : Place) (s : State) : Looked s (laneLost x s) := by
  unfold laneLost
  cases x.pod <;> exact ⟨rfl, rfl⟩

theorem laneOf_looked (x : Place) (s : State) : Looked s (laneOf x s) := by
  unfold laneOf
  cases x.pod with
  | none => exact .refl s
  | some p =>
    dsimp only
    split <;> exact ⟨rfl, rfl⟩

/-- The address is no filter snapshot of a Pod, which would wait for a frame boundary (R330). -/
def Immediate (index : Nat) : Prop := ∀ x, findPlace index = some x → x.pod = none ∨ x.obj.index ≠ 0x47

theorem snapshotWait_none {x : Place} (plain : x.pod = none ∨ x.obj.index ≠ 0x47) (sub : Nat) (s : State) : snapshotWait x sub s = none := by
  unfold snapshotWait
  cases pod : x.pod with
  | none => rfl
  | some p =>
    have other : x.obj.index ≠ 0x47 := plain.resolve_left (by simp [pod])
    simp [other]

/-- A read of an address that needs no frame boundary answers at once. -/
theorem readItem_answers {index : Nat} (now : Immediate index) (who : Who) (sub : Nat) (s : State) :
    ∃ r t, readItem who false index sub s = (.now r, t) ∧ Looked s t := by
  unfold readItem
  cases found : findPlace index with
  | none => exact ⟨_, _, rfl, .refl s⟩
  | some x =>
    dsimp only
    cases readType x.obj sub with
    | none => exact ⟨_, _, rfl, .refl s⟩
    | some ty =>
      dsimp only
      rw [snapshotWait_none (now x found)]
      split
      · exact ⟨_, _, rfl, gatedAccess_looked ..⟩
      split
      · exact ⟨_, _, rfl, gatedAccess_looked ..⟩
      split
      · exact ⟨_, _, rfl, laneLost_looked ..⟩
      · exact ⟨_, _, rfl, laneOf_looked ..⟩

/-! ### A pass of the engine -/

/-- No frame waits and no item waits for anything. -/
structure Passing (s : State) : Prop where
  frames : s.engine.frames = []
  waiting : s.engine.waiting = none

theorem Looked.passing {s t : State} (a : Looked s t) (p : Passing s) : Passing t := by
  exact ⟨by rw [a.engine]; exact p.frames, by rw [a.engine]; exact p.waiting⟩

theorem runItem_read (who : Who) (index sub : Nat) (s : State) : runItem who (.read index sub) s = readItem who false index sub s := by
  unfold runItem
  exact if_neg fun h => Bool.noConfusion h.2

/-- The next item of the frame that executes. -/
theorem pumpStep_item {r : Running} {it : Item} {rest : List Item} {s : State} (p : Passing s) (items : r.items = it :: rest) :
    pumpStep (putRunning r s) = some (stepItem r it rest (putRunning r s)) := by
  have frames : (putRunning r s).engine.frames = [] := p.frames
  have waiting : (putRunning r s).engine.waiting = none := p.waiting
  have running : (putRunning r s).engine.running = some r := rfl
  simp only [pumpStep, nextFrame, frames, waiting, running, List.find?_nil, ite_self, items]

/-- A frame without further items is over. -/
theorem pumpStep_over {r : Running} {s : State} (p : Passing s) (items : r.items = []) :
    pumpStep (putRunning r s) = some (deliver r true { s with engine := { s.engine with running := none } }) := by
  have frames : (putRunning r s).engine.frames = [] := p.frames
  have waiting : (putRunning r s).engine.waiting = none := p.waiting
  have running : (putRunning r s).engine.running = some r := rfl
  simp only [pumpStep, nextFrame, frames, waiting, running, List.find?_nil, ite_self, items]
  simp only [putRunning, p.frames, p.waiting]

theorem stepItem_read {r : Running} {index : Nat} (now : Immediate index) (free : r.busy = false) (sub : Nat) (rest : List Item) (s : State) :
    ∃ x t, stepItem r (.read index sub) rest (putRunning r s) = putRunning { addReply r x with items := rest } t ∧ Looked s t := by
  have hold : mustHold (.read index sub) (putRunning r s) = false := by simp [mustHold]
  obtain ⟨x, t, answer, looked⟩ := readItem_answers now r.who sub (putRunning r s)
  refine ⟨x, { s with pods := t.pods, obs := t.obs, fresh := t.fresh }, ?_, rfl, looked.gates⟩
  unfold stepItem
  rw [free, hold, runItem_read, answer]
  dsimp only
  rw [if_neg Bool.false_ne_true, if_neg Bool.false_ne_true]
  rw [looked.only]
  rfl

/-- The reads of a frame execute one after the other. -/
theorem pumpTimes_reads {addrs : List (Nat × Nat)} (now : ∀ a ∈ addrs, Immediate a.1) (n : Nat) {r : Running} {s : State}
    (p : Passing s) (free : r.busy = false) (items : r.items = addrs.map (fun a => .read a.1 a.2)) :
    ∃ rs t, pumpTimes (addrs.length + n) (putRunning r s) = pumpTimes n (putRunning { r with items := [], replies := rs } t) ∧ Looked s t := by
  induction addrs generalizing r s with
  | nil =>
    have same : r = { r with items := [] } := by rw [← show r.items = [] from items]
    refine ⟨r.replies, s, ?_, .refl s⟩
    rw [List.length_nil, Nat.zero_add]
    exact congrArg (fun r => pumpTimes n (putRunning r s)) same
  | cons a addrs ih =>
    obtain ⟨x, t, stepped, looked⟩ := stepItem_read (now a List.mem_cons_self) free a.2 (addrs.map (fun a => .read a.1 a.2)) s
    obtain ⟨rs, u, ran, further⟩ := ih (fun b mem => now b (List.mem_cons_of_mem _ mem))
      (r := { addReply r x with items := addrs.map (fun a => .read a.1 a.2) }) (looked.passing p) free rfl
    refine ⟨rs, u, ?_, looked.trans further⟩
    rw [List.length_cons, Nat.add_right_comm]
    show (match pumpStep (putRunning r s) with | some t => pumpTimes (addrs.length + n) t | none => putRunning r s) = _
    rw [pumpStep_item p items, stepped]
    exact ran

/-! ### A stream's pass (R635-R637) -/

/-- The sampling of subscription k as `streamPass` runs it. -/
def streamStep (s : State) (k : Nat) : State :=
  if (subAt s k).active && (subAt s k).due && s.engine.running.isNone && s.engine.frames.all (·.held) then
    pump (putRunning (streamRun k s) (modSub k (fun x => { x with due := false }) s))
  else s

theorem streamPass_steps (s : State) : streamPass s = (List.range 8).foldl streamStep s := rfl

theorem streamStep_notDue {k : Nat} {s : State} (idle : (subAt s k).due = false) : streamStep s k = s :=
  if_neg (by simp [idle])

theorem streamPass_from {s t : State} {k : Nat} (hk : k < 8) (others : ∀ j, j < 8 → j ≠ k → (subAt s j).due = false)
    (step : streamStep s k = t) (q : Quiet t) : streamPass s = t := by
  obtain ⟨before, behind, parts⟩ := List.append_of_mem (List.mem_range.2 hk)
  have inside : ∀ j ∈ before ++ k :: behind, j < 8 := fun j mem => List.mem_range.1 (parts ▸ mem)
  have once : ∀ j ∈ before, j ≠ k := by
    have nodup := List.nodup_range (n := 8)
    rw [parts, List.nodup_append] at nodup
    exact fun j mem => nodup.2.2 j mem k List.mem_cons_self
  have first : before.foldl streamStep s = s :=
    List.foldlRecOn (motive := (· = s)) before streamStep rfl fun u same j mem => by
      subst same
      exact streamStep_notDue (others j (inside j (List.mem_append_left _ mem)) (once j mem))
  have rest : behind.foldl streamStep t = t :=
    List.foldlRecOn (motive := (· = t)) behind streamStep rfl fun u same j mem => by
      subst same
      exact streamStep_notDue (subAt_notDue q (inside j (List.mem_append_right _ (List.mem_cons_of_mem _ mem))))
  rw [streamPass_steps, parts, List.foldl_append, first, List.foldl_cons, step, rest]

theorem sendFrame_chip (f : TxFrame) (s : State) : (sendFrame f s).chip = s.chip := by
  unfold sendFrame
  split
  · show (traceOut f.disposition f.octets s).chip = s.chip
    rw [traceOut_only]
  · rfl

theorem Quiet.of_engine {s t : State} (q : Quiet s) (engine : t.engine = s.engine) (chip : t.chip = s.chip) : Quiet t :=
  ⟨by rw [engine]; exact q.running, by rw [engine]; exact q.frames, by rw [chip]; exact q.standby, by rw [engine]; exact q.noSub⟩

/-- What the STREAM frame of a pass leaves: an engine as quiet as before, and the next sequence. -/
theorem sendStream_moves {r : Running} {s : State} (hk : r.tag < 8) (active : (subAt s r.tag).active = true) (chip : s.chip.state = .active)
    (gate : gateOn s 5 = true) (q : Quiet s) :
    Quiet (sendStream r s) ∧ (subAt (sendStream r s) r.tag).seq = wrap32 ((subAt s r.tag).seq + 1) := by
  unfold sendStream
  extract_lets k x payload dst frame waits link s1 s2
  have goes : (x.active && s.chip.state == .active && gateOn s 5) = true := by simp [x, k, active, chip, gate]
  have quiet1 : Quiet s1 := q.of_engine rfl rfl
  have counted : FrameGone s1 (if waits then gezorCount 14 s1 else s1) := .ite (gezorCount_gone ..) (.refl s1)
  have quiet2 : Quiet s2 := (modSub_gone k (fun x => { x with
    seq := wrap32 (x.seq + 1), replaced := if waits then (x.replaced + 1) % 65536 else x.replaced }) (fun _ => rfl) _).quiet (counted.quiet quiet1)
  have same : subAt (if waits then gezorCount 14 s1 else s1) k = x := by
    split <;> rfl
  have moved : (subAt s2 k).seq = wrap32 (x.seq + 1) := by
    rw [show subAt s2 k = _ from subAt_modSub hk _ _, same]
  rw [if_pos goes]
  refine ⟨quiet2.of_engine (sendFrame_engine ..) (sendFrame_chip ..), ?_⟩
  show ((sendFrame _ s2).engine.subs.getD k .empty).seq = _
  rw [sendFrame_engine]
  exact moved

theorem pumpTimes_idle {s : State} (running : s.engine.running = none) (frames : s.engine.frames = []) (n : Nat) : pumpTimes n s = s := by
  have stuck : pumpStep s = none := by
    simp only [pumpStep, nextFrame, frames, running, List.find?_nil, ite_self, Option.map_none]
  cases n with
  | zero => rfl
  | succ n => simp only [pumpTimes, stuck]

/-- A frame of the service STREAM whose reads need no frame boundary executes whole, up to its STREAM frame. -/
theorem pump_stream {r : Running} {u : State} {addrs : List (Nat × Nat)} (q : Quiet u) (waiting : u.engine.waiting = none)
    (service : r.service = 8) (free : r.busy = false) (items : r.items = addrs.map (fun a => .read a.1 a.2))
    (now : ∀ a ∈ addrs, Immediate a.1) (hk : r.tag < 8) (active : (subAt u r.tag).active = true) (chip : u.chip.state = .active)
    (gate : gateOn u 5 = true) :
    Quiet (pump (putRunning r u)) ∧ (subAt (pump (putRunning r u)) r.tag).seq = wrap32 ((subAt u r.tag).seq + 1) := by
  have passing : Passing u := ⟨q.frames, waiting⟩
  obtain ⟨rs, t, ran, looked⟩ := pumpTimes_reads now 8 passing free items
  let r' : Running := { r with items := [], replies := rs }
  let t' : State := { t with engine := { t.engine with running := none } }
  have engine : t'.engine = u.engine := by
    show { t.engine with running := none } = u.engine
    rw [looked.engine, ← q.running]
  have fuel : pumpFuel (putRunning r u) = addrs.length + 8 := by
    simp [pumpFuel, putRunning, q.frames, items]
  have quiet : Quiet t' := q.of_engine engine looked.chip
  have sub (k : Nat) : subAt t' k = subAt u k := by
    unfold subAt
    rw [engine]
  have moves := sendStream_moves (r := r') (s := t') hk (by rw [sub]; exact active) (by show t.chip.state = _; rw [looked.chip]; exact chip)
    (by show gateOn t 5 = true; rw [looked.gateOn]; exact gate) quiet
  have delivered : deliver r' true t' = sendStream r' t' := if_pos service
  have whole : pump (putRunning r u) = sendStream r' t' := by
    calc pump (putRunning r u) = pumpTimes (addrs.length + 8) (putRunning r u) := by rw [pump, fuel]
      _ = pumpTimes 8 (putRunning r' t) := ran
      _ = pumpTimes 7 (deliver r' true t') := by
        show (match pumpStep (putRunning r' t) with | some t => pumpTimes 7 t | none => putRunning r' t) = _
        rw [pumpStep_over (looked.passing passing) rfl]
      _ = sendStream r' t' := by rw [delivered, pumpTimes_idle moves.1.running moves.1.frames]
  rw [whole]
  exact ⟨moves.1, by rw [moves.2, sub]⟩

/-- A subscription with its sampling due, or taken up. -/
def subDue (due : Bool) (x : Sub) : Sub := { x with due := due }

/-- A state in which the sampling of subscription k falls due. -/
def streamDue (k : Nat) (s : State) : State := modSub k (subDue true) s

/-- A state in which that sampling is taken up. -/
def streamTaken (k : Nat) (s : State) : State := modSub k (subDue false) (streamDue k s)

theorem execStreamSample_due {k : Fin 8} {s : State} (h : EngineFree s) (gate : gateOn s 5 = true) (active : (subAt s k.val).active = true)
    (kind : (subAt s k.val).body.kind = 2) (multiple : s.time.stamp % ((subAt s k.val).body.period * 655360) = 0) :
    execStreamSample k s = .next (settle (streamDue k.val s)) := by
  have runs : streamsRun s = true := by simp [streamsRun, h.opened, h.active, gate]
  exact congrArg Host.Outcome.next (if_pos ⟨runs, active, kind, multiple⟩)

/-- Between two multiples of its period a stream does not sample (R635). -/
theorem execStreamSample_between {k : Fin 8} {s : State} (between : s.time.stamp % ((subAt s k.val).body.period * 655360) ≠ 0) :
    execStreamSample k s = .next s := congrArg Host.Outcome.next (if_neg fun due => between due.2.2.2)

section
variable {k : Nat} {s : State}

theorem subAt_streamDue (hk : k < 8) : subAt (streamDue k s) k = subDue true (subAt s k) := subAt_modSub hk ..

theorem subAt_streamTaken (hk : k < 8) : subAt (streamTaken k s) k = subDue false (subAt s k) := by
  rw [streamTaken, subAt_modSub hk, subAt_streamDue hk]
  rfl

theorem subAt_streamDue_other (h : EngineFree s) {j : Nat} (hj : j < 8) (other : j ≠ k) : (subAt (streamDue k s) j).due = false := by
  rw [streamDue, subAt_modSub_ne other]
  exact (noSub_iff s).1 h.noSub j hj

theorem streamTaken_quiet (hk : k < 8) (h : EngineFree s) : Quiet (streamTaken k s) := by
  refine ⟨h.running, h.frames, h.standby, (noSub_iff _).2 fun j hj => ?_⟩
  by_cases same : j = k
  · rw [same, subAt_streamTaken hk]
    rfl
  · rw [streamTaken, subAt_modSub_ne same]
    exact subAt_streamDue_other h hj same

/-- A sampling that is due on a free engine is taken up by the pass of its subscription. -/
theorem streamStep_due (hk : k < 8) (h : EngineFree s) (active : (subAt s k).active = true) :
    streamStep (streamDue k s) k = pump (putRunning (streamRun k (streamDue k s)) (streamTaken k s)) := by
  have running : (streamDue k s).engine.running = none := h.running
  have frames : (streamDue k s).engine.frames = [] := h.frames
  exact if_pos (by rw [subAt_streamDue hk, running, frames]; simp [subDue, active])

/-- With the other subscriptions idle, the engine's work is that pass. -/
theorem settle_streamDue (hk : k < 8) (h : EngineFree s) (quiet : Quiet (streamStep (streamDue k s) k)) :
    settle (streamDue k s) = streamStep (streamDue k s) k := by
  have serves : serving (streamDue k s) = true := serving_free (s := s) h
  have pumped : pump (streamDue k s) = streamDue k s := pumpTimes_idle (s := streamDue k s) h.running h.frames _
  unfold settle
  rw [if_pos serves, pumped, streamPass_from hk (fun j hj other => subAt_streamDue_other h hj other) rfl quiet, standbyGate_quiet quiet]

/-- A sampling that falls due on a free engine runs at once, and moves the sequence of its subscription. -/
theorem settle_sampling (hk : k < 8) (h : EngineFree s) (gate : gateOn s 5 = true) (active : (subAt s k).active = true)
    (now : ∀ a ∈ (subAt s k).body.addrs, Immediate a.1) :
    Quiet (settle (streamDue k s)) ∧ (subAt (settle (streamDue k s)) k).seq = wrap32 ((subAt s k).seq + 1) := by
  have passes := pump_stream (r := streamRun k (streamDue k s)) (streamTaken_quiet hk h) h.waiting rfl rfl rfl
    (by rw [subAt_streamDue hk]; exact now) hk (by show (subAt (streamTaken k s) k).active = true; rw [subAt_streamTaken hk]; exact active)
    h.active gate
  rw [← streamStep_due hk h active] at passes
  obtain ⟨quiet, seq⟩ := passes
  rw [settle_streamDue hk h quiet]
  refine ⟨quiet, seq.trans ?_⟩
  show wrap32 ((subAt (streamTaken k s) k).seq + 1) = _
  rw [subAt_streamTaken hk]
  rfl

end

/-- Settles O55: SUBSCRIBE by its body and kind, the EVENT frame built, acknowledged and retried, and the sampling of a stream. -/
theorem eventsAndStreams : Obligations.EventsAndStreams := by
  unfold Obligations.EventsAndStreams
  refine ⟨fun lvl q b s h high good may => ⟨fun cancel => ?_, fun event alone => ?_⟩, fun lvl q b s h high bad => ?_,
    fun s serves records room => ?_, fun s idle => congrArg Host.Outcome.next (buildEvent_idle idle),
    fun slot seq s serves => ⟨fun unknown => ?_, fun f found any => ?_⟩,
    fun q seq f s serves found set => ⟨fun absent => ?_, fun awaited others => ?_, fun awaited last => ?_⟩,
    fun seq f s serves found sent due => ⟨fun left => ?_, fun spent => ?_⟩,
    fun k s h gate active kind multiple now => ?_, fun k s between => execStreamSample_between between⟩
  · refine ⟨_, execSubscribe_free h _ b, ?_⟩
    rw [subscribeRun_may high good may, if_pos cancel]
    exact ⟨(subAt_lastAnswer ..).trans (subAt_modSub (number_lt good) ..), rfl⟩
  · refine ⟨_, execSubscribe_free h _ b, ?_⟩
    rw [subscribeRun_may high good may, if_neg (by omega), if_pos event, no_event_sub alone, if_neg Bool.false_ne_true]
    exact ⟨(subAt_lastAnswer ..).trans (subAt_modSub (number_lt good) ..), rfl⟩
  · refine ⟨_, execSubscribe_free h _ b, ?_⟩
    rw [subscribeRun_badBody high bad]
    exact ⟨rfl, rfl⟩
  · refine ⟨_, rfl, eventTake s, (eventTake_bounds s).1, (eventTake_bounds s).2, ?_⟩
    rw [buildEvent_builds serves records room]
    exact ⟨rfl, rfl, rfl⟩
  · exact (execAck_serving serves ..).trans (congrArg Host.Outcome.next (ackEvent_unknown slot unknown))
  · exact (execAck_serving serves ..).trans (congrArg Host.Outcome.next (ackEvent_any slot found any))
  · refine (execAck_serving serves ..).trans (congrArg Host.Outcome.next ?_)
    rw [ackEvent_slot found set, if_neg (by simpa using absent)]
  · refine ⟨_, (execAck_serving serves ..).trans (by rw [ackEvent_slot found set, if_pos (by simpa using awaited), if_neg others]), rfl⟩
  · refine ⟨_, (execAck_serving serves ..).trans (by rw [ackEvent_slot found set, if_pos (by simpa using awaited), if_pos last]), ?_⟩
    exact endEvent_gone ..
  · exact congrArg Host.Outcome.next ((if_pos serves).trans (retryEvent_again found sent due left))
  · exact ⟨_, congrArg Host.Outcome.next ((if_pos serves).trans (retryEvent_last found sent due spent)), eventGivenUp_engine ..⟩
  · obtain ⟨quiet, seq⟩ := settle_sampling k.isLt h gate active now
    exact ⟨_, execStreamSample_due h gate active kind multiple, seq, subAt_notDue quiet k.isLt⟩

end Sys2Proof.Laws
end
